-- ==== Sys2Proof/Word.lean ====
section
/-! DEFINITION. The word types of the CV284's wire and clock. -/

namespace Sys2Proof

/-- One byte of a frame (R157). -/
abbrev Byte := BitVec 8

/-- A reading of the line clock: milliseconds in 32 bits (Time, R1). -/
abbrev Time := BitVec 32

end Sys2Proof
end

