-- ==== Sys2Proof/Syntax.lean ====
section
/-! DEFINITION. The commands of the CV284: one constructor per row of spec/opcode_table.json.

A command is one event at the part's edge: a frame arriving on IN, a boundary on OUT, a level change on a
hardwired line, a reset, or the line clock reaching an expiry. `elapsed` is the number of milliseconds that have
passed on the line clock since the command before it (log 1). A frame row carries the bytes that make up its
frame: the row fixes the bytes that name it (its kind, its command or request code, its door action), the
operands are all the others, the CRC as received included, so that every frame of at least seven bytes of that
row, sound or not, is an operand of it. `frameForward` carries any run of bytes. -/

namespace Sys2Proof

/-- The level of a hardwired input (Pins; R59). -/
inductive Level
  | closed
  | opened
  deriving DecidableEq, Repr

/-- The two hardwired inputs (R59). -/
inductive Pin
  | stopChain
  | resetKey
  deriving DecidableEq, Repr

/-- The four channels of the Motion Estimator (R2). -/
inductive ChannelId
  | s1
  | s2
  | ca
  | cb
  deriving DecidableEq, Repr

/-- The two cars. -/
inductive Car
  | a
  | b
  deriving DecidableEq, Repr

/-- The two door sides, facing uphill. -/
inductive Side
  | left
  | right
  deriving DecidableEq, Repr

/-- What every frame row has beside its row's own bytes: the time since the command before it, four header
bytes and the CRC as received (R157). -/
structure Arrival where
  elapsed : Time
  dst : Byte
  src : Byte
  seq : Byte
  len : Byte
  crc : BitVec 16
  deriving DecidableEq, Repr

/-- One command, one constructor per row of the table. -/
inductive Instr
  /-- POWER_ON_RESET (R156): the release of the reset, with the straps and the raw levels read at it. -/
  | powerOnReset (oa ma : BitVec 6) (stopChain resetKey : Level)
  /-- RAW_LEVEL_CHANGE (R59). -/
  | rawLevelChange (elapsed : Time) (pin : Pin) (level : Level)
  /-- DEBOUNCE_EXPIRY (R59). -/
  | debounceExpiry (elapsed : Time) (pin : Pin)
  /-- SAMPLE_SHEAVE (R4): a frame of kind 0x10. -/
  | sampleSheave (arr : Arrival) (payload : List Byte)
  /-- SAMPLE_CAR (R4): a frame of kind 0x11. -/
  | sampleCar (arr : Arrival) (payload : List Byte)
  /-- CHANNEL_EXPIRY (R7). -/
  | channelExpiry (elapsed : Time) (ch : ChannelId)
  /-- STILL_TIMER_EXPIRY (R18). -/
  | stillTimerExpiry (elapsed : Time)
  /-- MARKER (R15): a frame of kind 0x12. -/
  | marker (arr : Arrival) (payload : List Byte)
  /-- LOSS_TIMER_EXPIRY (R52). -/
  | lossTimerExpiry (elapsed : Time)
  /-- SUPERVISION_PERIOD_EXPIRY (R49). -/
  | supervisionPeriodExpiry (elapsed : Time)
  /-- ARM_EXPIRY (R89). -/
  | armExpiry (elapsed : Time)
  /-- DRIVE_STATUS (R98): a frame of kind 0x21. -/
  | driveStatus (arr : Arrival) (payload : List Byte)
  /-- DRIVE_EXPIRY (R98). -/
  | driveExpiry (elapsed : Time)
  /-- LINE_OPEN (R84): a LINE_CMD with command 0x01. -/
  | lineOpen (arr : Arrival) (argument tag : Byte)
  /-- CLOSE_BOARDING (R85): a LINE_CMD with command 0x02. -/
  | closeBoarding (arr : Arrival) (argument tag : Byte)
  /-- DEPART (R86): a LINE_CMD with command 0x03. -/
  | depart (arr : Arrival) (target tag : Byte)
  /-- LINE_STOP (R91): a LINE_CMD with command 0x04. -/
  | lineStop (arr : Arrival) (argument tag : Byte)
  /-- PARK (R92): a LINE_CMD with command 0x05. -/
  | park (arr : Arrival) (argument tag : Byte)
  /-- UNKNOWN_COMMAND (R83): a LINE_CMD with any other command code. -/
  | unknownCommand (arr : Arrival) (command argument tag : Byte)
  /-- DOOR_STATE (R104): a frame of kind 0x41. -/
  | doorState (arr : Arrival) (payload : List Byte)
  /-- DOOR_STATE_LOST (R105). -/
  | doorStateLost (elapsed : Time) (car : Car)
  /-- RELEASE_EXPIRY (R109). -/
  | releaseExpiry (elapsed : Time) (car : Car) (side : Side)
  /-- CLOSE_EXPIRY (R112). -/
  | closeExpiry (elapsed : Time) (car : Car) (side : Side)
  /-- DOOR_REQ_OPEN (R107): a DOOR_REQ with action 1. -/
  | doorReqOpen (arr : Arrival) (car side tag : Byte)
  /-- DOOR_REQ_CLOSE (R111): a DOOR_REQ with action 2. -/
  | doorReqClose (arr : Arrival) (car side tag : Byte)
  /-- BAD_REQUEST (R106): a DOOR_REQ with an invalid car, side or action. -/
  | badRequest (arr : Arrival) (car side action tag : Byte)
  /-- TICKET (R122): a frame of kind 0x30. -/
  | ticket (arr : Arrival) (payload : List Byte)
  /-- GATE_PASS (R142): a frame of kind 0x31. -/
  | gatePass (arr : Arrival) (payload : List Byte)
  /-- GRANT_EXPIRY (R147): the expiry of the grant that the gate at this address holds. -/
  | grantExpiry (elapsed : Time) (gate : Byte)
  /-- SETPOINT (R163): a frame of kind 0x20. -/
  | setpoint (arr : Arrival) (payload : List Byte)
  /-- OUT_BOUNDARY (R167). -/
  | outBoundary (elapsed : Time)
  /-- FRAME_FORWARD (R160): any run of bytes between two delimiters. -/
  | frameForward (elapsed : Time) (rx : List Byte)
  /-- STRIPPED (R160): a frame of any kind (whose src is OA). -/
  | stripped (arr : Arrival) (kind : Byte) (payload : List Byte)
  /-- UNHANDLED (R160): a DOOR_CMD, reply, REPORT or BEACON (whose dst is OA). -/
  | unhandled (arr : Arrival) (kind : Byte) (payload : List Byte)
  /-- READ_STATUS (R183): a MGMT_REQ with request 0x01. -/
  | readStatus (arr : Arrival) (tag : Byte) (body : List Byte)
  /-- LOAD (R175): request 0x02. -/
  | load (arr : Arrival) (tag : Byte) (body : List Byte)
  /-- ACTIVATE (R177): request 0x03. -/
  | activate (arr : Arrival) (tag : Byte) (body : List Byte)
  /-- CANCEL_ACTIVATE (R182): request 0x04. -/
  | cancelActivate (arr : Arrival) (tag : Byte) (body : List Byte)
  /-- READ_TABLE (R184): request 0x05. -/
  | readTable (arr : Arrival) (tag : Byte) (body : List Byte)
  /-- READ_TRIPS (R57): request 0x06. -/
  | readTrips (arr : Arrival) (tag : Byte) (body : List Byte)
  /-- READ_COUNTERS (R185): request 0x07. -/
  | readCounters (arr : Arrival) (tag : Byte) (body : List Byte)
  /-- CLEAR_COUNTERS (R185): request 0x08. -/
  | clearCounters (arr : Arrival) (tag : Byte) (body : List Byte)
  /-- CLEAR_FLAGS (R159): request 0x09. -/
  | clearFlags (arr : Arrival) (tag : Byte) (body : List Byte)
  /-- SET_DAY (R134): request 0x0A. -/
  | setDay (arr : Arrival) (tag : Byte) (body : List Byte)
  /-- REFERENCE (R14): request 0x0B. -/
  | reference (arr : Arrival) (tag : Byte) (body : List Byte)
  /-- TRIP_RESET (R61): request 0x0C. -/
  | tripReset (arr : Arrival) (tag : Byte) (body : List Byte)
  /-- MANUAL_TRIP (R62): request 0x0D. -/
  | manualTrip (arr : Arrival) (tag : Byte) (body : List Byte)
  /-- BRAKE_TEST (R67): request 0x0E. -/
  | brakeTest (arr : Arrival) (tag : Byte) (body : List Byte)
  /-- BRAKE_TEST_ABORT (R75): request 0x0F. -/
  | brakeTestAbort (arr : Arrival) (tag : Byte) (body : List Byte)
  /-- REINIT (R186): request 0x10. -/
  | reinit (arr : Arrival) (tag : Byte) (body : List Byte)
  /-- UNKNOWN_REQUEST (R174): a MGMT_REQ with any other request code. -/
  | unknownRequest (arr : Arrival) (request tag : Byte) (body : List Byte)
  /-- BEACON_EXPIRY (R192). -/
  | beaconExpiry (elapsed : Time)
  /-- HELD_IN_POWER_ON_RESET (R81, R58, R169): the supply is lost or POR_N is driven low. -/
  | heldInPowerOnReset
  deriving DecidableEq, Repr

end Sys2Proof
end

