-- ==== Sys2Proof/Config.lean ====
section
/-! DEFINITION. The values the manual leaves open. Each is a constant without a body: nothing in Lean can
compute it, so a claim that holds, holds whatever the part does there. -/

namespace Sys2Proof.Config

/-- DESIGN CHOICE (log 5). The close time in ms of a door record that enters CLOSING while no LINE record is
active: R103 reads `t_door_close` from the active LINE record and states no value where there is none. The
argument is the number of the step, so every such occasion is free by itself. -/
opaque closeTimeWithoutLine : Nat → Nat

/-- DESIGN CHOICE (log 6). The three indications that page 6 of READ_STATUS shows for a side whose car has sent
no report (R117, R183 state none). Arguments: the number of the step, car B?, right side? -/
opaque noReportStatus : Nat → Bool → Bool → BitVec 3

/-- DESIGN CHOICE (log 7). The code page 5 of READ_STATUS shows for a stop cause of none (R183 gives codes to the
nine causes only). The argument is the number of the step. -/
opaque stopCauseNone : Nat → Byte

end Sys2Proof.Config
end

