-- ==== Sys2Proof/Machine/State.lean ====
section
/-! DEFINITION. The state of the CV284: one record per block, as the chapters name it, and the state at the
release of power-on reset. Every field is plain data. -/

namespace Sys2Proof.Machine

/-! ### Time -/

/-- A running timer: started at a line-clock reading with a duration in ms; its expiry is start + duration modulo
2³² (R1). An idle timer is `none`. -/
structure Timer where
  start : Time
  dur : Nat
  deriving DecidableEq, Repr

/-! ### Frames and the Ring Interface -/

/-- A frame without its CRC, which is a function of these fields (R157); `len` is the payload's length. -/
structure Frame where
  kind : Byte
  dst : Byte
  src : Byte
  seq : Byte
  payload : List Byte
  deriving DecidableEq, Repr

/-- What the forward FIFO keeps beside a frame: how it is to leave (R163, R132). -/
inductive FifoNote
  /-- leaves unchanged -/
  | plain
  /-- a SETPOINT whose src held the CONSOLE role at its arrival: the clamp of R46 is applied as it leaves -/
  | consoleSetpoint
  /-- any other SETPOINT: leaves with speed 0 and ZEROED (R163; R156 under a strap fault) -/
  | zeroedSetpoint
  /-- a TICKET answered in its place (R132) -/
  | answered
  deriving DecidableEq, Repr

/-- One place of the forward FIFO. -/
structure FifoEntry where
  frame : Frame
  note : FifoNote
  deriving DecidableEq, Repr

/-- The frame OUT is sending. A forwarded frame holds its FIFO place until its last byte has left (R158). -/
structure Sending where
  frame : Frame
  fromFifo : Bool
  deriving DecidableEq, Repr

/-- A DOOR_CMD waiting in its car-side slot of the DOOR class (R108, R165). -/
structure DoorSlot where
  car : Car
  side : Side
  frame : Frame
  deriving DecidableEq, Repr

/-- A REPORT waiting in its class, with its standing at its placement (R190). -/
structure ReportSlot where
  frame : Frame
  express : Bool
  deriving DecidableEq, Repr

/-- The Ring Interface (chapter 9). Each class holds its frames in the order in which they will be sent. -/
structure Rif where
  fifo : List FifoEntry
  sending : Option Sending
  force : Option Frame
  door : List DoorSlot
  reply : List Frame
  report : List ReportSlot
  beacon : Option Frame
  crcFlag : Bool
  formatFlag : Bool
  overrunFlag : Bool
  counters : Vector (BitVec 16) 16
  backToBack : Nat
  txSeq : Byte
  deriving DecidableEq, Repr

/-! ### Line tables and the Management Agent -/

/-- The eight tables (R171). -/
inductive TableId
  | node
  | stop
  | profile
  | line
  | marker
  | product
  | hotlist
  | reportLevel
  deriving DecidableEq, Repr

/-- The roles of a NODE entry (R172). -/
inductive Role
  | unused
  | sheaveS1
  | sheaveS2
  | carA
  | carB
  | markerReader
  | gate
  | console
  | drive
  deriving DecidableEq, Repr

/-- A NODE entry; for a role other than GATE the last three fields are carried but not read (R172). -/
structure Node where
  role : Role
  stop : Byte
  car : Byte
  kind : Byte
  deriving DecidableEq, Repr

/-- The platform side of a car at a stop (R172). -/
inductive Platform
  | none
  | left
  | right
  | both
  deriving DecidableEq, Repr

/-- A STOP entry (R172). -/
structure Stop where
  pos : Int
  half : Nat
  sideA : Platform
  sideB : Platform
  deriving DecidableEq, Repr

/-- A PROFILE entry (R30). -/
structure Segment where
  start : Int
  up : Nat
  down : Nat
  deriving DecidableEq, Repr

/-- A MARKER entry (R15). -/
structure MarkerEntry where
  id : Byte
  x : Int
  deriving DecidableEq, Repr

/-- A PRODUCT entry (R126). -/
structure Product where
  code : Byte
  mask : Byte
  decrement : Bool
  first : Nat
  last : Nat
  deriving DecidableEq, Repr

/-- The three LINE fields of a channel (R2): µm per count, +1 or −1, and the window. -/
structure ChannelLine where
  scale : Nat
  sign : Int
  window : Nat
  deriving DecidableEq, Repr

/-- The LINE record (R173), field by field; times in ms except `tGrant`, `tPassback`, `tDoorClose`, `tArm` and
`tBeacon`, which are in seconds. -/
structure Line where
  length : Nat
  overrun : Nat
  s1 : ChannelLine
  s2 : ChannelLine
  ca : ChannelLine
  cb : ChannelLine
  tStaleSheave : Nat
  tStaleCar : Nat
  vStill : Nat
  tStill : Nat
  tolSheave : Nat
  tDisagree : Nat
  slipTol : Nat
  tSlip : Nat
  corrMax : Nat
  vCreep : Nat
  vLand : Nat
  vLineMax : Nat
  stopMargin : Nat
  pw : Nat
  ps : Nat
  pe : Nat
  cw : Nat
  cs : Nat
  ce : Nat
  vTripAbs : Nat
  aMin : Nat
  tSup : Nat
  th1 : Nat
  th2 : Nat
  th3 : Nat
  aRef : Vector Nat 4
  pct : Vector Nat 4
  capA : Nat
  capB : Nat
  mPass : Nat
  tGrant : Nat
  tPassback : Nat
  tDoorFresh : Nat
  tDoorRelease : Nat
  tDoorClose : Nat
  tDriveFresh : Nat
  tArm : Nat
  aTestSvc : Nat
  aTestEmg : Nat
  tBeacon : Nat
  deriving DecidableEq, Repr

/-- The active copies (R171); `none` is EMPTY. REPORTLEVEL is ACTIVE from power-on on (R187): its 30 bytes. -/
structure ActiveTables where
  node : Option (List Node)
  stop : Option (List Stop)
  profile : Option (List Segment)
  line : Option Line
  marker : Option (List MarkerEntry)
  product : Option (List Product)
  hotlist : Option (List (BitVec 32))
  reportLevel : List Byte
  deriving DecidableEq, Repr

/-- The states of a shadow (R171). -/
inductive ShadowState
  | empty
  | filling
  | valid
  | invalid
  deriving DecidableEq, Repr

/-- Why a validation failed (R171). -/
inductive FailReason
  | count
  | range
  | order
  | role
  deriving DecidableEq, Repr

/-- A shadow copy (R171): its entries as LOAD wrote them, one run of bytes each; the fill count is their number.
`failure` holds the first failing index and the reason while the shadow is INVALID. -/
structure Shadow where
  state : ShadowState
  entries : List (List Byte)
  failure : Option (Nat × FailReason)
  deriving DecidableEq, Repr

/-- The Management Agent (chapter 10). -/
structure Mga where
  shadows : Vector Shadow 8
  active : ActiveTables
  pendingMask : Option Byte
  day : BitVec 16
  deriving DecidableEq, Repr

/-! ### Motion Estimator -/

/-- The states of a channel (R3). -/
inductive ChannelState
  | absent
  | fresh
  | stale
  deriving DecidableEq, Repr

/-- One history entry (R3). -/
structure Sample where
  count : BitVec 32
  tick : BitVec 16
  deriving DecidableEq, Repr

/-- A channel record (R3); the history stands oldest first. -/
structure Channel where
  state : ChannelState
  history : List Sample
  lastArrival : Option Time
  expiry : Option Timer
  estimate : Option Int
  saturated : Bool
  deriving DecidableEq, Repr

/-- The reference of an S channel (R3): a count and a position in mm. -/
structure Reference where
  count : BitVec 32
  pos : Int
  deriving DecidableEq, Repr

/-- The position status (R13). -/
inductive PositionStatus
  | unreferenced
  | referenced
  | corrected
  | suspect
  deriving DecidableEq, Repr

/-- A direction of motion, or none (R10, R26, R80). -/
inductive Direction
  | none
  | up
  | down
  deriving DecidableEq, Repr

/-- The record of a persistent condition: a start time and a reported flag (R19, R20). -/
structure Persistence where
  start : Option Time
  reported : Bool
  deriving DecidableEq, Repr

/-- The values of a motion update (R10). -/
structure Motion where
  v : Nat
  known : Bool
  dir : Direction
  posA : Int
  held : Bool
  status : PositionStatus
  still : Bool
  deriving DecidableEq, Repr

/-- The two sheave channels, as a position source (R12). -/
inductive Sheave
  | s1
  | s2
  deriving DecidableEq, Repr

/-- The Motion Estimator (chapter 1). HELD is set exactly while there is no source (R12), so it is not kept
twice. `last` is the latest motion update. -/
structure Moe where
  s1 : Channel
  s2 : Channel
  ca : Channel
  cb : Channel
  ref1 : Reference
  ref2 : Reference
  source : Option Sheave
  posA : Int
  gap : Bool
  status : PositionStatus
  still : Bool
  candidate : Option Time
  stillTimer : Option Timer
  disagree : Persistence
  slipA : Persistence
  slipB : Persistence
  counters : Vector (BitVec 16) 26
  last : Motion
  deriving DecidableEq, Repr

/-! ### Envelope Unit -/

/-- The envelope modes (R26). -/
inductive EnvMode
  | off
  | normal
  | creep
  | frozen
  deriving DecidableEq, Repr

/-- The envelope record (R26). -/
structure Env where
  mode : EnvMode
  e : Nat
  loadClass : Fin 4
  load : Nat
  target : Option Nat
  dir : Direction
  deriving DecidableEq, Repr

/-! ### Brake Supervisor -/

/-- The overspeed tier (R44). -/
inductive Tier
  | normal
  | warn
  deriving DecidableEq, Repr

/-- The trip causes (R54). -/
inductive TripCause
  | powerUp
  | strap
  | overspeed
  | sbIneffective
  | speedLost
  | estopChain
  | overrun
  | doorOpenMoving
  | manual
  | brakeTest
  deriving DecidableEq, Repr

/-- The supervision record (R48). -/
structure Supervision where
  active : Bool
  vStart : Nat
  short : Nat
  expiry : Option Timer
  deriving DecidableEq, Repr

/-- The trip record (R55); `first` is none where the first cause reads 0. A cause set is the mask with bit
(code − 1) set for each cause in it (R170). -/
structure TripRecord where
  latched : Bool
  first : Option TripCause
  causes : BitVec 16
  posA : Int
  v : Int
  time : Time
  deriving DecidableEq, Repr

/-- An entry of the trip history (R57). -/
structure TripEntry where
  first : Option TripCause
  causes : BitVec 16
  posA : Int
  v : Int
  time : Time
  cleared : Bool
  deriving DecidableEq, Repr

/-- A hardwired input (R59): the raw level of the pin, the debounced level and the debounce timer. -/
structure InputPin where
  raw : Level
  level : Level
  timer : Option Timer
  deriving DecidableEq, Repr

/-- The Brake Supervisor (chapter 3). -/
structure Brs where
  tier : Tier
  aboveService : Bool
  tWarn : Nat
  tSvc : Nat
  tEmg : Nat
  sup : Supervision
  lossFlag : Bool
  lossTimer : Option Timer
  trip : TripRecord
  history : List TripEntry
  estopLatched : Bool
  chain : InputPin
  key : InputPin
  deriving DecidableEq, Repr

/-! ### Brake test -/

/-- The test state (R66). -/
inductive TestState
  | idle
  | active
  | complete
  deriving DecidableEq, Repr

/-- The status of a stage (R66). -/
inductive StageStatus
  | idle
  | waiting
  | braking
  | passed
  | failed
  | aborted
  deriving DecidableEq, Repr

/-- A stage's status, trigger time and result (R66). -/
structure Stage where
  status : StageStatus
  trigger : Time
  vApply : Nat
  pApply : Int
  tStop : Nat
  dStop : Nat
  decel : Nat
  deriving DecidableEq, Repr

/-- The test record and the two failed flags (R66). -/
structure BrakeTest where
  state : TestState
  selSvc : Bool
  selEmg : Bool
  vTest : Nat
  abortPending : Bool
  failureMark : Bool
  svc : Stage
  emg : Stage
  svcFailed : Bool
  emgFailed : Bool
  deriving DecidableEq, Repr

/-! ### Haul Controller -/

/-- The haul states (R80). -/
inductive HaulState
  | parked
  | boarding
  | armed
  | running
  | serviceStop
  | tripped
  deriving DecidableEq, Repr

/-- The state from which ARMED was entered (R80). -/
inductive Origin
  | parked
  | boarding
  deriving DecidableEq, Repr

/-- The service-stop causes (R93). -/
inductive StopCause
  | overspeed
  | speedLost
  | disagree
  | slip
  | positionSuspect
  | drive
  | doorStateLost
  | console
  | brakeTest
  deriving DecidableEq, Repr

/-- The drive record (R98). -/
structure Drive where
  ready : Byte
  fault : Byte
  speed : BitVec 16
  arrival : Option Time
  expiry : Option Timer
  deriving DecidableEq, Repr

/-- The haul record (R80). -/
structure Hlc where
  state : HaulState
  berth : Option Nat
  boardingOpen : Bool
  target : Option Nat
  dir : Direction
  origin : Option Origin
  armTimer : Option Timer
  stopCause : Option StopCause
  further : Nat
  drive : Drive
  deriving DecidableEq, Repr

/-! ### Door Release Unit -/

/-- The states of a door record (R103). -/
inductive DoorState
  | locked
  | releasing
  | released
  | closing
  | fault
  deriving DecidableEq, Repr

/-- A door record (R103): its state and its action timer. -/
structure DoorRecord where
  state : DoorState
  timer : Option Timer
  deriving DecidableEq, Repr

/-- The three indications of a side's status (R104). -/
structure SideStatus where
  closed : Bool
  locked : Bool
  obstructed : Bool
  deriving DecidableEq, Repr

/-- A door report with its arrival time (R104). -/
structure DoorReport where
  left : SideStatus
  right : SideStatus
  arrival : Time
  deriving DecidableEq, Repr

/-- What DRU keeps of a car's reports (R104): the last one and its freshness expiry. -/
structure CarReport where
  report : Option DoorReport
  expiry : Option Timer
  deriving DecidableEq, Repr

/-- The Door Release Unit (chapter 6). -/
structure Dru where
  aLeft : DoorRecord
  aRight : DoorRecord
  bLeft : DoorRecord
  bRight : DoorRecord
  repA : CarReport
  repB : CarReport
  movingOpen : Bool
  deriving DecidableEq, Repr

/-! ### Admission Unit -/

/-- A pending grant (R139). Its granted-at is the start of its expiry timer. -/
structure Grant where
  gate : Byte
  car : Car
  serial : BitVec 32
  token : Byte
  expiry : Timer
  deriving DecidableEq, Repr

/-- A passback record (R120). -/
structure Passback where
  serial : BitVec 32
  passedAt : Time
  deriving DecidableEq, Repr

/-- The Admission Unit (chapters 7 and 8). The 23 counters are the 13 of R136 and the 10 of R151. -/
structure Adu where
  token : Byte
  passback : List Passback
  fullA : Bool
  fullB : Bool
  counters : Vector (BitVec 16) 23
  grants : List Grant
  aboardA : Nat
  aboardB : Nat
  unticketedA : Nat
  unticketedB : Nat
  deriving DecidableEq, Repr

/-! ### Report Unit -/

/-- The pending entry of an event kind (R188). -/
structure PendingEvent where
  occurrences : Nat
  firstTime : Time
  detail : BitVec 32
  deriving DecidableEq, Repr

/-- What RPU keeps for an event kind (R188): the occurrence counter, and the entry while it is pending. -/
structure EventSlot where
  count : BitVec 16
  entry : Option PendingEvent
  deriving DecidableEq, Repr

/-- The Report Unit (chapter 11). -/
structure Rpu where
  slots : Vector EventSlot 28
  seq : Byte
  beacon : Option Timer
  deriving DecidableEq, Repr

/-! ### The whole part -/

/-- The state of the part. `pending` and `steps` are the model's own: the commands that are waiting, first in
first out, and the number of commands taken, which selects the free values of Config. -/
structure State where
  pending : List Instr
  steps : Nat
  inReset : Bool
  clock : Time
  oa : BitVec 6
  ma : BitVec 6
  rif : Rif
  mga : Mga
  moe : Moe
  env : Env
  brs : Brs
  test : BrakeTest
  hlc : Hlc
  dru : Dru
  adu : Adu
  rpu : Rpu
  deriving DecidableEq, Repr

/-! ### Faults and refusals -/

/-- The part has no stop: every event of its table has an effect the manual gives, so no constructor is needed
(safe: a step can never end here). -/
inductive Fault
  deriving DecidableEq, Repr

/-- Why a command has no meaning in the model. -/
inductive Refusal
  /-- Raised by an arm of `exec` whose command has no meaning yet; no arm is such today (safe). -/
  | notModelled (mnemonic : String)
  deriving DecidableEq, Repr

/-! ### Reset values -/

/-- A channel at power-on reset (R24). -/
def Channel.reset : Channel :=
  { state := .absent, history := [], lastArrival := none, expiry := none, estimate := none, saturated := false }

/-- A clear disagreement or slip record (R24). -/
def Persistence.clear : Persistence := { start := none, reported := false }

/-- The Motion Estimator at power-on reset (R24), its latest update carrying those values. -/
def Moe.reset : Moe :=
  { s1 := .reset, s2 := .reset, ca := .reset, cb := .reset, ref1 := ⟨0, 0⟩, ref2 := ⟨0, 0⟩, source := none,
    posA := 0, gap := false, status := .unreferenced, still := false, candidate := none, stillTimer := none,
    disagree := .clear, slipA := .clear, slipB := .clear, counters := Vector.replicate 26 0,
    last := { v := 0, known := false, dir := .none, posA := 0, held := true, status := .unreferenced,
              still := false } }

/-- The Envelope Unit at power-on reset (R41). -/
def Env.reset : Env := { mode := .off, e := 0, loadClass := 0, load := 0, target := none, dir := .none }

/-- An idle supervision record. -/
def Supervision.idle : Supervision := { active := false, vStart := 0, short := 0, expiry := none }

/-- The Brake Supervisor at power-on reset with the chain closed and the key not turned (R64). -/
def Brs.reset : Brs :=
  { tier := .normal, aboveService := false, tWarn := 0, tSvc := 0, tEmg := 0, sup := .idle, lossFlag := false,
    lossTimer := none,
    trip := { latched := true, first := some .powerUp, causes := 1, posA := 0, v := 0, time := 0 },
    history := [{ first := some .powerUp, causes := 1, posA := 0, v := 0, time := 0, cleared := false }],
    estopLatched := false,
    chain := { raw := .closed, level := .closed, timer := none },
    key := { raw := .opened, level := .opened, timer := none } }

/-- A stage with its status, trigger time and results at their reset values (R78). -/
def Stage.reset : Stage :=
  { status := .idle, trigger := 0, vApply := 0, pApply := 0, tStop := 0, dStop := 0, decel := 0 }

/-- The test record at power-on reset (R78). -/
def BrakeTest.reset : BrakeTest :=
  { state := .idle, selSvc := false, selEmg := false, vTest := 0, abortPending := false, failureMark := false,
    svc := .reset, emg := .reset, svcFailed := false, emgFailed := false }

/-- The haul record at power-on reset (R101). -/
def Hlc.reset : Hlc :=
  { state := .tripped, berth := none, boardingOpen := false, target := none, dir := .none, origin := none,
    armTimer := none, stopCause := none, further := 0,
    drive := { ready := 0, fault := 0, speed := 0, arrival := none, expiry := none } }

/-- A door record at power-on reset (R118). -/
def DoorRecord.reset : DoorRecord := { state := .locked, timer := none }

/-- The Door Release Unit at power-on reset (R118). -/
def Dru.reset : Dru :=
  { aLeft := .reset, aRight := .reset, bLeft := .reset, bRight := .reset, repA := ⟨none, none⟩,
    repB := ⟨none, none⟩, movingOpen := false }

/-- The Admission Unit at power-on reset (R137, R153). -/
def Adu.reset : Adu :=
  { token := 1, passback := [], fullA := false, fullB := false, counters := Vector.replicate 23 0, grants := [],
    aboardA := 0, aboardB := 0, unticketedA := 0, unticketedB := 0 }

/-- The Report Unit at power-on reset (R194). -/
def Rpu.reset : Rpu := { slots := Vector.replicate 28 ⟨0, none⟩, seq := 0, beacon := none }

/-- REPORTLEVEL at power-on (R187): every level 2, express slots TRIP and ESTOP_CHAIN. -/
def powerOnLevels : List Byte := List.replicate 28 2 ++ [0, 1]

/-- The Management Agent at power-on reset (R187). -/
def Mga.reset : Mga :=
  { shadows := Vector.replicate 8 ⟨.empty, [], none⟩,
    active := { node := none, stop := none, profile := none, line := none, marker := none, product := none,
                hotlist := none, reportLevel := powerOnLevels },
    pendingMask := none, day := 0 }

/-- The Ring Interface at power-on reset (R169), before anything is placed. -/
def Rif.reset : Rif :=
  { fifo := [], sending := none, force := none, door := [], reply := [], report := [], beacon := none,
    crcFlag := false, formatFlag := false, overrunFlag := false, counters := Vector.replicate 16 0,
    backToBack := 0, txSeq := 0 }

/-- The part at the release of power-on reset, on the board of chapter 12 (OA = 5, MA = 2, chain closed, key not
turned: a DESIGN CHOICE, log 2): every block at its reset values, and the forced zero set-point of R47 waiting,
addressed to 63 because no node holds the DRIVE role. -/
def State.reset : State :=
  { pending := [], steps := 0, inReset := false, clock := 0, oa := 5, ma := 2,
    rif := { Rif.reset with force := some ⟨0x20, 63, 5, 0, [0, 0, 0, 0, 4]⟩, txSeq := 1 },
    mga := .reset, moe := .reset, env := .reset, brs := .reset, test := .reset, hlc := .reset, dru := .reset,
    adu := .reset, rpu := .reset }

end Sys2Proof.Machine
end

