-- ==== Sys2Proof/Machine/Bytes.lean ====
section
/-! DEFINITION. Byte order, sign extension, saturation and the frame CRC: the manual's wire order (Wire order,
R157, R170), said once. -/

namespace Sys2Proof.Machine

/-! ### Reading, most significant byte first -/

/-- Byte i of a payload; 0 beyond its end, which no rule reads. -/
def byteAt (p : List Byte) (i : Nat) : Byte := p.getD i 0

/-- The 16-bit field at offset i. -/
def wordAt (p : List Byte) (i : Nat) : BitVec 16 := byteAt p i ++ byteAt p (i + 1)

/-- The 32-bit field at offset i. -/
def longAt (p : List Byte) (i : Nat) : BitVec 32 := wordAt p i ++ wordAt p (i + 2)

/-- The unsigned 16-bit field at offset i, as a number. -/
def natAt16 (p : List Byte) (i : Nat) : Nat := (wordAt p i).toNat

/-- The unsigned 32-bit field at offset i, as a number. -/
def natAt32 (p : List Byte) (i : Nat) : Nat := (longAt p i).toNat

/-- The two's-complement 16-bit field at offset i. -/
def intAt16 (p : List Byte) (i : Nat) : Int := (wordAt p i).toInt

/-- The two's-complement 32-bit field at offset i. -/
def intAt32 (p : List Byte) (i : Nat) : Int := (longAt p i).toInt

/-! ### Writing, most significant byte first -/

/-- A 16-bit field as its two bytes. -/
def bytes16 (w : BitVec 16) : List Byte := [w.extractLsb' 8 8, w.extractLsb' 0 8]

/-- A 32-bit field as its four bytes. -/
def bytes32 (w : BitVec 32) : List Byte :=
  [w.extractLsb' 24 8, w.extractLsb' 16 8, w.extractLsb' 8 8, w.extractLsb' 0 8]

/-- A number as one byte. -/
def byteOf (n : Nat) : Byte := BitVec.ofNat 8 n

/-- A number as a 16-bit field. -/
def be16 (n : Nat) : List Byte := bytes16 (BitVec.ofNat 16 n)

/-- A number as a 32-bit field. -/
def be32 (n : Nat) : List Byte := bytes32 (BitVec.ofNat 32 n)

/-- A signed number as a 16-bit field. -/
def beInt16 (i : Int) : List Byte := bytes16 (BitVec.ofInt 16 i)

/-- A signed number as a 32-bit field. -/
def beInt32 (i : Int) : List Byte := bytes32 (BitVec.ofInt 32 i)

/-- A number as a 16-bit field that saturates at 65,535. -/
def sat16 (n : Nat) : Nat := min n 65535

/-- Set reads 1, clear reads 0. -/
def flagByte (b : Bool) : Byte := if b then 1 else 0

/-- An index, 0xFF for none (R100, R183). -/
def indexByte : Option Nat → Byte
  | some n => byteOf n
  | none => 0xFF

/-- A signed number limited to ±bound (chapter 11's details). -/
def limitTo (bound : Int) (i : Int) : Int := max (-bound) (min bound i)

/-- A signed number limited to the 32-bit range (R11; chapter 11's details). -/
def limit32 (i : Int) : Int := max (-2147483648) (min 2147483647 i)

/-- Two bytes and a 16-bit field as a four-byte detail, byte 0 first. -/
def detailBBW (b0 b1 : Byte) (w : BitVec 16) : BitVec 32 := b0 ++ b1 ++ w

/-- Four bytes as a detail. -/
def detail4 (b0 b1 b2 b3 : Byte) : BitVec 32 := b0 ++ b1 ++ b2 ++ b3

/-- Two 16-bit fields as a detail. -/
def detailWW (w0 w1 : BitVec 16) : BitVec 32 := w0 ++ w1

/-! ### The CRC of R157 -/

/-- One bit of the division by x¹⁶ + x¹² + x⁵ + 1, most significant bit first. -/
def crcBit (r : BitVec 16) : BitVec 16 := if r.msb then (r <<< 1) ^^^ 0x1021#16 else r <<< 1

/-- One byte taken into the register. -/
def crcByte (r : BitVec 16) (b : Byte) : BitVec 16 :=
  crcBit (crcBit (crcBit (crcBit (crcBit (crcBit (crcBit (crcBit (r ^^^ (b ++ (0 : Byte))))))))))

/-- The CRC over a run of bytes: the register starts at all ones and is sent without inversion (R157). -/
def crc16 (bs : List Byte) : BitVec 16 := bs.foldl crcByte 0xFFFF#16

/-! ### Frames as bytes -/

/-- The five header bytes and the payload of a frame (R157, R170). -/
def Frame.body (f : Frame) : List Byte :=
  f.kind :: f.dst :: f.src :: f.seq :: byteOf f.payload.length :: f.payload

/-- A frame as the bytes between its delimiters, its CRC computed (R157). -/
def Frame.wire (f : Frame) : List Byte := f.body ++ bytes16 (crc16 f.body)

end Sys2Proof.Machine
end

