-- ==== Sys2Proof/Machine/Update.lean ====
section
/-! DEFINITION. The block updates of State: every change of a block's record goes through one of these, so that
the block lemmas of Laws/State.lean say once what each leaves alone. -/

namespace Sys2Proof.Machine

/-- The state with the queue replaced. -/
def State.withPending (s : State) (x : List Instr) : State := { s with pending := x }

/-- The state with the Ring Interface replaced. -/
def State.withRif (s : State) (x : Rif) : State := { s with rif := x }

/-- The state with the Management Agent replaced. -/
def State.withMga (s : State) (x : Mga) : State := { s with mga := x }

/-- The state with the Motion Estimator replaced. -/
def State.withMoe (s : State) (x : Moe) : State := { s with moe := x }

/-- The state with the envelope record replaced. -/
def State.withEnv (s : State) (x : Env) : State := { s with env := x }

/-- The state with the Brake Supervisor replaced. -/
def State.withBrs (s : State) (x : Brs) : State := { s with brs := x }

/-- The state with the test record replaced. -/
def State.withTest (s : State) (x : BrakeTest) : State := { s with test := x }

/-- The state with the haul record replaced. -/
def State.withHlc (s : State) (x : Hlc) : State := { s with hlc := x }

/-- The state with the Door Release Unit replaced. -/
def State.withDru (s : State) (x : Dru) : State := { s with dru := x }

/-- The state with the Admission Unit replaced. -/
def State.withAdu (s : State) (x : Adu) : State := { s with adu := x }

/-- The state with the Report Unit replaced. -/
def State.withRpu (s : State) (x : Rpu) : State := { s with rpu := x }

end Sys2Proof.Machine
end

