-- ==== Sys2Proof/Machine/Flags.lean ====
section
/-! DEFINITION. Counters, sticky flags and the codes under which states, causes and kinds are reported. -/

namespace Sys2Proof.Machine

/-! ### Saturating counters -/

/-- A 16-bit counter after n more: it stops at 65,535 (R22, R136, R168). -/
def satAdd (c : BitVec 16) (n : Nat) : BitVec 16 := BitVec.ofNat 16 (min (c.toNat + n) 65535)

/-- A group with counter i raised by n. -/
def bumpBy {k : Nat} (v : Vector (BitVec 16) k) (i : Fin k) (n : Nat) : Vector (BitVec 16) k :=
  v.set i (satAdd v[i] n)

/-- The RING counters (R168), in the order of its table. -/
inductive RingCounter
  | crcError
  | formatError
  | overrun
  | roleMismatch
  | malformed
  | stripped
  | forwarded
  | rewritten
  | absorbed
  | unhandled
  | inserted
  | forceReplaced
  | doorReplaced
  | replyDropped
  | beaconReplaced
  | insertTurns
  deriving DecidableEq, Repr

/-- The place of a RING counter, counted from 0. -/
def RingCounter.idx : RingCounter → Fin 16
  | .crcError => 0
  | .formatError => 1
  | .overrun => 2
  | .roleMismatch => 3
  | .malformed => 4
  | .stripped => 5
  | .forwarded => 6
  | .rewritten => 7
  | .absorbed => 8
  | .unhandled => 9
  | .inserted => 10
  | .forceReplaced => 11
  | .doorReplaced => 12
  | .replyDropped => 13
  | .beaconReplaced => 14
  | .insertTurns => 15

/-- The Ring Interface with one of its counters incremented. -/
def Rif.count (r : Rif) (c : RingCounter) : Rif := { r with counters := bumpBy r.counters c.idx 1 }

/-- The state with one RING counter incremented (R168). -/
def countRing (c : RingCounter) (s : State) : State := s.withRif (s.rif.count c)

/-- The five counters every channel has (R22). -/
inductive ChannelCounter
  | accepted
  | unhealthy
  | duplicate
  | implausible
  | expired
  deriving DecidableEq, Repr

/-- The MOTION counters (R22). -/
inductive MotionCounter
  | channel (ch : ChannelId) (c : ChannelCounter)
  | noLine
  | markerSet
  | markerCorrected
  | markerRejected
  | markerUnknown
  | markerHeldIgnored
  deriving DecidableEq, Repr

/-- The place of a MOTION counter in R22's table, counted from 0. -/
def MotionCounter.idx : MotionCounter → Fin 26
  | .channel .s1 .accepted => 0
  | .channel .s1 .unhealthy => 1
  | .channel .s1 .duplicate => 2
  | .channel .s1 .implausible => 3
  | .channel .s1 .expired => 4
  | .channel .s2 .accepted => 5
  | .channel .s2 .unhealthy => 6
  | .channel .s2 .duplicate => 7
  | .channel .s2 .implausible => 8
  | .channel .s2 .expired => 9
  | .channel .ca .accepted => 10
  | .channel .ca .unhealthy => 11
  | .channel .ca .duplicate => 12
  | .channel .ca .implausible => 13
  | .channel .ca .expired => 14
  | .channel .cb .accepted => 15
  | .channel .cb .unhealthy => 16
  | .channel .cb .duplicate => 17
  | .channel .cb .implausible => 18
  | .channel .cb .expired => 19
  | .noLine => 20
  | .markerSet => 21
  | .markerCorrected => 22
  | .markerRejected => 23
  | .markerUnknown => 24
  | .markerHeldIgnored => 25

/-- The Motion Estimator with one of its counters incremented. -/
def Moe.count (m : Moe) (c : MotionCounter) : Moe := { m with counters := bumpBy m.counters c.idx 1 }

/-- The state with one MOTION counter incremented (R22). -/
def countMotion (c : MotionCounter) (s : State) : State := s.withMoe (s.moe.count c)

/-- The verdicts of R124. -/
inductive Verdict
  | accept
  | notGate
  | closed
  | blocked
  | product
  | expired
  | stop
  | balance
  | passback
  | full
  | gateBusy
  | queueFull
  deriving DecidableEq, Repr

/-- The verdict codes of R124. -/
def Verdict.code : Verdict → Byte
  | .accept => 0x01
  | .notGate => 0x81
  | .closed => 0x82
  | .blocked => 0x83
  | .product => 0x84
  | .expired => 0x85
  | .stop => 0x86
  | .balance => 0x87
  | .passback => 0x88
  | .full => 0x89
  | .gateBusy => 0x8A
  | .queueFull => 0x8B

/-- The ADMISSION counters (R136, R151). -/
inductive AduCounter
  | verdict (v : Verdict)
  | malformed
  | passGranted
  | passForced
  | passExit
  | countUnderflow
  | gateStray
  | grantExpired
  | grantParked
  | passbackOverflow
  | malformedPass
  | grantCleared
  deriving DecidableEq, Repr

/-- The place of an ADMISSION counter, counted from 0. -/
def AduCounter.idx : AduCounter → Fin 23
  | .verdict .accept => 0
  | .verdict .notGate => 1
  | .verdict .closed => 2
  | .verdict .blocked => 3
  | .verdict .product => 4
  | .verdict .expired => 5
  | .verdict .stop => 6
  | .verdict .balance => 7
  | .verdict .passback => 8
  | .verdict .full => 9
  | .verdict .gateBusy => 10
  | .verdict .queueFull => 11
  | .malformed => 12
  | .passGranted => 13
  | .passForced => 14
  | .passExit => 15
  | .countUnderflow => 16
  | .gateStray => 17
  | .grantExpired => 18
  | .grantParked => 19
  | .passbackOverflow => 20
  | .malformedPass => 21
  | .grantCleared => 22

/-- The Admission Unit with one of its counters raised by n. -/
def Adu.countBy (a : Adu) (c : AduCounter) (n : Nat) : Adu := { a with counters := bumpBy a.counters c.idx n }

/-- The state with one ADMISSION counter incremented. -/
def countAdu (c : AduCounter) (s : State) : State := s.withAdu (s.adu.countBy c 1)

/-! ### Event kinds (11.1) -/

/-- The 28 event kinds. -/
inductive EventKind
  | trip
  | estopChain
  | serviceStop
  | overspeedWarn
  | speedLost
  | sensorDisagree
  | ropeSlip
  | markerCorrected
  | markerMismatch
  | positionDiverge
  | doorFault
  | doorObstructed
  | doorStateLost
  | gateForced
  | grantExpired
  | carFull
  | countUnderflow
  | gateStray
  | armTimeout
  | arrived
  | departed
  | tableActivated
  | activationFailed
  | linkError
  | roleMismatch
  | brakeTestResult
  | carChannelLost
  | mgmtDropped
  deriving DecidableEq, Repr

/-- The event kind codes of 11.1. -/
def EventKind.code : EventKind → Fin 28
  | .trip => 0
  | .estopChain => 1
  | .serviceStop => 2
  | .overspeedWarn => 3
  | .speedLost => 4
  | .sensorDisagree => 5
  | .ropeSlip => 6
  | .markerCorrected => 7
  | .markerMismatch => 8
  | .positionDiverge => 9
  | .doorFault => 10
  | .doorObstructed => 11
  | .doorStateLost => 12
  | .gateForced => 13
  | .grantExpired => 14
  | .carFull => 15
  | .countUnderflow => 16
  | .gateStray => 17
  | .armTimeout => 18
  | .arrived => 19
  | .departed => 20
  | .tableActivated => 21
  | .activationFailed => 22
  | .linkError => 23
  | .roleMismatch => 24
  | .brakeTestResult => 25
  | .carChannelLost => 26
  | .mgmtDropped => 27

/-! ### Codes of states and causes -/

/-- The haul state codes of R100. -/
def HaulState.code : HaulState → Byte
  | .parked => 1
  | .boarding => 2
  | .armed => 3
  | .running => 4
  | .serviceStop => 5
  | .tripped => 6

/-- An origin as the haul state it names (R80). -/
def Origin.toState : Origin → HaulState
  | .parked => .parked
  | .boarding => .boarding

/-- An origin as the code of its haul state, 0 for none (R183). -/
def originCode : Option Origin → Byte
  | some o => o.toState.code
  | none => 0

/-- A run direction: 1 UP, 2 DOWN, 0 none (R100, R183). -/
def Direction.code : Direction → Byte
  | .none => 0
  | .up => 1
  | .down => 2

/-- The trip cause codes of R54. -/
def TripCause.num : TripCause → Nat
  | .powerUp => 1
  | .strap => 2
  | .overspeed => 3
  | .sbIneffective => 4
  | .speedLost => 5
  | .estopChain => 6
  | .overrun => 7
  | .doorOpenMoving => 8
  | .manual => 9
  | .brakeTest => 10

/-- A trip cause as its code byte. -/
def TripCause.code (c : TripCause) : Byte := byteOf c.num

/-- A first cause as reported: 0 for none (R54). -/
def firstCauseCode : Option TripCause → Byte
  | some c => c.code
  | none => 0

/-- The bit of a cause in a cause set: bit (code − 1) (R170). -/
def TripCause.bit (c : TripCause) : BitVec 16 := BitVec.ofNat 16 (2 ^ (c.num - 1))

/-- The service-stop cause codes of R93. -/
def StopCause.code : StopCause → Byte
  | .overspeed => 1
  | .speedLost => 2
  | .disagree => 3
  | .slip => 4
  | .positionSuspect => 5
  | .drive => 6
  | .doorStateLost => 7
  | .console => 8
  | .brakeTest => 9

/-- The position status codes of R170. -/
def PositionStatus.code : PositionStatus → Byte
  | .unreferenced => 0
  | .referenced => 1
  | .corrected => 2
  | .suspect => 3

/-- REFERENCED or CORRECTED: the position is trusted. -/
def PositionStatus.trusted : PositionStatus → Bool
  | .referenced => true
  | .corrected => true
  | _ => false

/-- The tier codes of R170. -/
def Tier.code : Tier → Byte
  | .normal => 0
  | .warn => 1

/-- The place of an envelope mode in R26's list (R183). -/
def EnvMode.code : EnvMode → Byte
  | .off => 0
  | .normal => 1
  | .creep => 2
  | .frozen => 3

/-- The place of a channel state in R3's list (R183). -/
def ChannelState.code : ChannelState → Byte
  | .absent => 0
  | .fresh => 1
  | .stale => 2

/-- The place of a test state in R66's list (R183). -/
def TestState.code : TestState → Byte
  | .idle => 0
  | .active => 1
  | .complete => 2

/-- The place of a stage status in R66's list (R183). -/
def StageStatus.code : StageStatus → Byte
  | .idle => 0
  | .waiting => 1
  | .braking => 2
  | .passed => 3
  | .failed => 4
  | .aborted => 5

/-- The place of a door record state in R103's table (R183). -/
def DoorState.code : DoorState → Byte
  | .locked => 0
  | .releasing => 1
  | .released => 2
  | .closing => 3
  | .fault => 4

/-- The 2-bit code of a door record in a beacon (R117). -/
def DoorState.beaconCode : DoorState → BitVec 2
  | .locked => 0
  | .releasing => 1
  | .released => 1
  | .closing => 2
  | .fault => 3

/-- Car A is 0, car B is 1. -/
def carCode : Car → Byte
  | .a => 0
  | .b => 1

/-- LEFT is 1, RIGHT is 2 (R106). -/
def sideCode : Side → Byte
  | .left => 1
  | .right => 2

/-- The codes of a shadow's state (R171). -/
def ShadowState.code : ShadowState → Byte
  | .empty => 0
  | .filling => 1
  | .valid => 2
  | .invalid => 3

/-- The codes of a failure reason (R171). -/
def FailReason.code : FailReason → Byte
  | .count => 1
  | .range => 2
  | .order => 3
  | .role => 4

end Sys2Proof.Machine
end

