-- ==== Sys2Proof/Machine/Operands.lean ====
section
/-! DEFINITION. The bytes of a frame row, the receive checks on a run of bytes (R158), and the fields of each
payload (R170). -/

namespace Sys2Proof.Machine

/-! ### A row's frame as bytes -/

/-- The bytes between the delimiters of a frame with this kind and payload: header, payload and the CRC as the
operand gives it (R157). -/
def frameBytes (arr : Arrival) (kind : Byte) (payload : List Byte) : List Byte :=
  kind :: arr.dst :: arr.src :: arr.seq :: arr.len :: (payload ++ bytes16 arr.crc)

/-- The frame that an intact arrival of this kind and payload holds. -/
def frameOf (arr : Arrival) (kind : Byte) (payload : List Byte) : Frame :=
  { kind := kind, dst := arr.dst, src := arr.src, seq := arr.seq, payload := payload }

/-- The arrival is intact: at most 56 payload bytes, `len` is their number and the CRC is that of the header and
payload (R157, R158). -/
def intact (arr : Arrival) (kind : Byte) (payload : List Byte) : Bool :=
  decide (payload.length ≤ 56) && (arr.len == byteOf payload.length) &&
    (arr.crc == crc16 (frameOf arr kind payload).body)

/-- The arrival that makes a frame intact. -/
def sealed (elapsed : Time) (dst src seq kind : Byte) (payload : List Byte) : Arrival :=
  { elapsed := elapsed, dst := dst, src := src, seq := seq, len := byteOf payload.length,
    crc := crc16 (Frame.body { kind := kind, dst := dst, src := src, seq := seq, payload := payload }) }

/-! ### The rows as frames and as time -/

/-- The arrival, kind and payload of a frame row; none for the rows that are no frame and for FRAME_FORWARD, whose
bytes stand as they came. -/
def rowFrame : Instr → Option (Arrival × Byte × List Byte)
  | .powerOnReset _ _ _ _ => none
  | .rawLevelChange _ _ _ => none
  | .debounceExpiry _ _ => none
  | .sampleSheave arr payload => some (arr, 0x10, payload)
  | .sampleCar arr payload => some (arr, 0x11, payload)
  | .channelExpiry _ _ => none
  | .stillTimerExpiry _ => none
  | .marker arr payload => some (arr, 0x12, payload)
  | .lossTimerExpiry _ => none
  | .supervisionPeriodExpiry _ => none
  | .armExpiry _ => none
  | .driveStatus arr payload => some (arr, 0x21, payload)
  | .driveExpiry _ => none
  | .lineOpen arr argument tag => some (arr, 0x50, [0x01, argument, tag])
  | .closeBoarding arr argument tag => some (arr, 0x50, [0x02, argument, tag])
  | .depart arr target tag => some (arr, 0x50, [0x03, target, tag])
  | .lineStop arr argument tag => some (arr, 0x50, [0x04, argument, tag])
  | .park arr argument tag => some (arr, 0x50, [0x05, argument, tag])
  | .unknownCommand arr command argument tag => some (arr, 0x50, [command, argument, tag])
  | .doorState arr payload => some (arr, 0x41, payload)
  | .doorStateLost _ _ => none
  | .releaseExpiry _ _ _ => none
  | .closeExpiry _ _ _ => none
  | .doorReqOpen arr car side tag => some (arr, 0x40, [car, side, 1, tag])
  | .doorReqClose arr car side tag => some (arr, 0x40, [car, side, 2, tag])
  | .badRequest arr car side action tag => some (arr, 0x40, [car, side, action, tag])
  | .ticket arr payload => some (arr, 0x30, payload)
  | .gatePass arr payload => some (arr, 0x31, payload)
  | .grantExpiry _ _ => none
  | .setpoint arr payload => some (arr, 0x20, payload)
  | .outBoundary _ => none
  | .frameForward _ _ => none
  | .stripped arr kind payload => some (arr, kind, payload)
  | .unhandled arr kind payload => some (arr, kind, payload)
  | .readStatus arr tag body => some (arr, 0x60, 0x01 :: tag :: body)
  | .load arr tag body => some (arr, 0x60, 0x02 :: tag :: body)
  | .activate arr tag body => some (arr, 0x60, 0x03 :: tag :: body)
  | .cancelActivate arr tag body => some (arr, 0x60, 0x04 :: tag :: body)
  | .readTable arr tag body => some (arr, 0x60, 0x05 :: tag :: body)
  | .readTrips arr tag body => some (arr, 0x60, 0x06 :: tag :: body)
  | .readCounters arr tag body => some (arr, 0x60, 0x07 :: tag :: body)
  | .clearCounters arr tag body => some (arr, 0x60, 0x08 :: tag :: body)
  | .clearFlags arr tag body => some (arr, 0x60, 0x09 :: tag :: body)
  | .setDay arr tag body => some (arr, 0x60, 0x0A :: tag :: body)
  | .reference arr tag body => some (arr, 0x60, 0x0B :: tag :: body)
  | .tripReset arr tag body => some (arr, 0x60, 0x0C :: tag :: body)
  | .manualTrip arr tag body => some (arr, 0x60, 0x0D :: tag :: body)
  | .brakeTest arr tag body => some (arr, 0x60, 0x0E :: tag :: body)
  | .brakeTestAbort arr tag body => some (arr, 0x60, 0x0F :: tag :: body)
  | .reinit arr tag body => some (arr, 0x60, 0x10 :: tag :: body)
  | .unknownRequest arr request tag body => some (arr, 0x60, request :: tag :: body)
  | .beaconExpiry _ => none
  | .heldInPowerOnReset => none

/-- The ms a command brings with it; none for the two that the line clock does not time. -/
def rowElapsed : Instr → Option Time
  | .powerOnReset _ _ _ _ => none
  | .rawLevelChange elapsed _ _ => some elapsed
  | .debounceExpiry elapsed _ => some elapsed
  | .sampleSheave arr _ => some arr.elapsed
  | .sampleCar arr _ => some arr.elapsed
  | .channelExpiry elapsed _ => some elapsed
  | .stillTimerExpiry elapsed => some elapsed
  | .marker arr _ => some arr.elapsed
  | .lossTimerExpiry elapsed => some elapsed
  | .supervisionPeriodExpiry elapsed => some elapsed
  | .armExpiry elapsed => some elapsed
  | .driveStatus arr _ => some arr.elapsed
  | .driveExpiry elapsed => some elapsed
  | .lineOpen arr _ _ => some arr.elapsed
  | .closeBoarding arr _ _ => some arr.elapsed
  | .depart arr _ _ => some arr.elapsed
  | .lineStop arr _ _ => some arr.elapsed
  | .park arr _ _ => some arr.elapsed
  | .unknownCommand arr _ _ _ => some arr.elapsed
  | .doorState arr _ => some arr.elapsed
  | .doorStateLost elapsed _ => some elapsed
  | .releaseExpiry elapsed _ _ => some elapsed
  | .closeExpiry elapsed _ _ => some elapsed
  | .doorReqOpen arr _ _ _ => some arr.elapsed
  | .doorReqClose arr _ _ _ => some arr.elapsed
  | .badRequest arr _ _ _ _ => some arr.elapsed
  | .ticket arr _ => some arr.elapsed
  | .gatePass arr _ => some arr.elapsed
  | .grantExpiry elapsed _ => some elapsed
  | .setpoint arr _ => some arr.elapsed
  | .outBoundary elapsed => some elapsed
  | .frameForward elapsed _ => some elapsed
  | .stripped arr _ _ => some arr.elapsed
  | .unhandled arr _ _ => some arr.elapsed
  | .readStatus arr _ _ => some arr.elapsed
  | .load arr _ _ => some arr.elapsed
  | .activate arr _ _ => some arr.elapsed
  | .cancelActivate arr _ _ => some arr.elapsed
  | .readTable arr _ _ => some arr.elapsed
  | .readTrips arr _ _ => some arr.elapsed
  | .readCounters arr _ _ => some arr.elapsed
  | .clearCounters arr _ _ => some arr.elapsed
  | .clearFlags arr _ _ => some arr.elapsed
  | .setDay arr _ _ => some arr.elapsed
  | .reference arr _ _ => some arr.elapsed
  | .tripReset arr _ _ => some arr.elapsed
  | .manualTrip arr _ _ => some arr.elapsed
  | .brakeTest arr _ _ => some arr.elapsed
  | .brakeTestAbort arr _ _ => some arr.elapsed
  | .reinit arr _ _ => some arr.elapsed
  | .unknownRequest arr _ _ _ => some arr.elapsed
  | .beaconExpiry elapsed => some elapsed
  | .heldInPowerOnReset => none

/-! ### The receive checks -/

/-- What the three receive checks make of a run of bytes (R158). -/
inductive Received
  | crcError
  | formatError
  | overrun
  | frame (f : Frame)
  deriving DecidableEq, Repr

/-- The receive checks, in the order CRC_ERROR, FORMAT_ERROR, OVERRUN; `used` is the number of FIFO places taken
(R158). -/
def receive (used : Nat) (rx : List Byte) : Received :=
  let n := rx.length
  if n < 7 ∨ 63 < n then .formatError
  else if crc16 (rx.take (n - 2)) ≠ wordAt rx (n - 2) then .crcError
  else if 56 < (byteAt rx 4).toNat ∨ n ≠ (byteAt rx 4).toNat + 7 then .formatError
  else if 8 ≤ used then .overrun
  else .frame { kind := byteAt rx 0, dst := byteAt rx 1, src := byteAt rx 2, seq := byteAt rx 3,
                payload := (rx.drop 5).take (n - 7) }

/-! ### Frame kinds (R170) -/

/-- The frame kinds R160 tells apart. -/
inductive FrameKind
  | sampleSheave
  | sampleCar
  | marker
  | setpoint
  | driveStatus
  | ticket
  | gatePass
  | doorReq
  | doorState
  | lineCmd
  | mgmtReq
  /-- DOOR_CMD, LINE_REPLY, MGMT_REPLY, REPORT, BEACON -/
  | unhandled
  | other
  deriving DecidableEq, Repr

/-- The kind a kind code names (R170). -/
def FrameKind.ofCode (c : Byte) : FrameKind :=
  if c = 0x10 then .sampleSheave
  else if c = 0x11 then .sampleCar
  else if c = 0x12 then .marker
  else if c = 0x20 then .setpoint
  else if c = 0x21 then .driveStatus
  else if c = 0x30 then .ticket
  else if c = 0x31 then .gatePass
  else if c = 0x40 then .doorReq
  else if c = 0x41 then .doorState
  else if c = 0x50 then .lineCmd
  else if c = 0x60 then .mgmtReq
  else if c = 0x42 ∨ c = 0x51 ∨ c = 0x61 ∨ c = 0x70 ∨ c = 0x71 then .unhandled
  else .other

/-! ### Payload fields (R170) -/

/-- The side status a status byte shows: bit 0 closed, bit 1 locked, bit 2 obstructed (R170). -/
def sideStatusOf (b : Byte) : SideStatus :=
  { closed := b.getLsbD 0, locked := b.getLsbD 1, obstructed := b.getLsbD 2 }

/-- A side status as its status byte. -/
def SideStatus.byte (x : SideStatus) : Byte :=
  (if x.closed then 1 else 0) ||| (if x.locked then 2 else 0) ||| (if x.obstructed then 4 else 0)

/-- A side is closed and locked when both indications are set (R104). -/
def SideStatus.secure (x : SideStatus) : Bool := x.closed && x.locked

/-- A SETPOINT payload: speed, accel limit as its two bytes, flags (R170). -/
def setpointPayload (speed : Int) (accel : List Byte) (flags : Byte) : List Byte :=
  beInt16 speed ++ accel ++ [flags]

/-- The accel-limit bytes of a SETPOINT payload. -/
def accelBytes (p : List Byte) : List Byte := [byteAt p 2, byteAt p 3]

/-- CLAMPED is bit 0 of a SETPOINT's flags. -/
def flagClamped : Byte := 1

/-- ZEROED is bit 1. -/
def flagZeroed : Byte := 2

/-- FORCED is bit 2. -/
def flagForced : Byte := 4

/-- The car a car field names (0 = A, 1 = B). -/
def carOf (b : Byte) : Option Car :=
  if b = 0 then some .a else if b = 1 then some .b else none

/-- The side a side field names (1 = LEFT, 2 = RIGHT). -/
def sideOf (b : Byte) : Option Side :=
  if b = 1 then some .left else if b = 2 then some .right else none

end Sys2Proof.Machine
end

