-- ==== Sys2Proof/Machine/Ops.lean ====
section
/-! DEFINITION. The operations every block shares: the line clock and timers (R1), the derived views of the state
(addresses, strap fault, roles, the LINE record, the outputs), and the accessors of records that come in twos and
fours. -/

namespace Sys2Proof.Machine

/-! ### Timers (R1) -/

/-- The milliseconds from reading s to reading t, modulo 2³². -/
def since (s t : Time) : Nat := (t - s).toNat

/-- The line clock has reached the timer's expiry (R1). -/
def Timer.reached (t : Timer) (now : Time) : Bool := decide (t.dur ≤ since t.start now)

/-- The milliseconds from now to the expiry, 0 once it is reached. -/
def Timer.left (t : Timer) (now : Time) : Nat := t.dur - since t.start now

/-- The timer with its expiry moved on by d ms. -/
def Timer.again (t : Timer) (d : Nat) : Timer := { start := t.start + BitVec.ofNat 32 t.dur, dur := d }

/-- A timer runs and its expiry is reached. -/
def due (t : Option Timer) (now : Time) : Bool :=
  match t with
  | some t => t.reached now
  | none => false

/-- A timer runs and the line clock stands before its expiry. -/
def running (t : Option Timer) (now : Time) : Bool :=
  match t with
  | some t => !t.reached now
  | none => false

/-- The ms left on a timer in a 16-bit field: all ones when idle (R183). -/
def left16 (t : Option Timer) (now : Time) : List Byte :=
  match t with
  | some t => be16 (sat16 (t.left now))
  | none => be16 65535

/-- The ms left on a timer in a 32-bit field: all ones when idle (R183). -/
def left32 (t : Option Timer) (now : Time) : List Byte :=
  match t with
  | some t => be32 (t.left now)
  | none => be32 4294967295

/-- The state as a command finds it: the line clock has moved on, and one more command is being taken. -/
def begin (elapsed : Time) (s : State) : State :=
  { s with clock := s.clock + elapsed, steps := s.steps + 1 }

/-! ### Addresses and roles -/

/-- OA as an address byte. -/
def State.oaByte (s : State) : Byte := s.oa.setWidth 8

/-- MA as an address byte. -/
def State.maByte (s : State) : Byte := s.ma.setWidth 8

/-- The straps are in fault (R156). -/
def strapsBad (oa ma : BitVec 6) : Bool :=
  oa == 0 || oa == 63 || ma == 0 || ma == 63 || oa == ma

/-- The strap fault that stands. -/
def State.strapFault (s : State) : Bool := strapsBad s.oa s.ma

/-- The active NODE entry of an address; entry i is that of address i + 1, and 0 and the addresses above the table
have none (R162, R172). -/
def State.nodeOf (s : State) (a : Byte) : Option Node :=
  if a = 0 ∨ a = 63 then none
  else match s.mga.active.node with
    | some t => t[a.toNat - 1]?
    | none => none

/-- The role of an address: none without an entry (R162). -/
def State.roleOf (s : State) (a : Byte) : Option Role := (s.nodeOf a).map (·.role)

/-- The address of the first node with a role, searched from index i. -/
def findRole (r : Role) : Nat → List Node → Option Byte
  | _, [] => none
  | i, n :: rest => if n.role = r then some (byteOf (i + 1)) else findRole r (i + 1) rest

/-- The address of the node with a role; 63, broadcast, if no node holds it (R47, R108). -/
def State.addressOf (s : State) (r : Role) : Byte :=
  match s.mga.active.node with
  | some t => (findRole r 0 t).getD 63
  | none => 63

/-! ### Tables as the blocks read them -/

/-- The active LINE record. -/
def State.line (s : State) : Option Line := s.mga.active.line

/-- The entries of the active STOP table; an EMPTY table has none. -/
def State.stops (s : State) : List Stop := s.mga.active.stop.getD []

/-- A LINE parameter; the second argument stands where no LINE record is active. -/
def State.param (s : State) (f : Line → Nat) (without : Nat) : Nat :=
  match s.line with
  | some l => f l
  | none => without

/-- The platform side of a car at a stop (R121). -/
def Stop.platform (st : Stop) : Car → Platform
  | .a => st.sideA
  | .b => st.sideB

/-- The active STOP table gives the car a platform at the stop (R121). -/
def State.hasPlatform (s : State) (stop : Nat) (car : Car) : Bool :=
  match s.stops[stop]? with
  | some st => st.platform car != .none
  | none => false

/-- The window test of R82. -/
def Stop.contains (st : Stop) (pos : Int) : Bool := decide ((pos - st.pos).natAbs ≤ st.half)

/-- The lowest-indexed stop, from index i on, whose window contains a position (R82). -/
def findBerth (pos : Int) : Nat → List Stop → Option Nat
  | _, [] => none
  | i, st :: rest => if st.contains pos then some i else findBerth pos (i + 1) rest

/-- The berthing stop of a position (R82). -/
def State.berthing (s : State) (pos : Int) : Option Nat := findBerth pos 0 s.stops

/-! ### Channels, doors, cars -/

/-- The record of a channel. -/
def Moe.channel (m : Moe) : ChannelId → Channel
  | .s1 => m.s1
  | .s2 => m.s2
  | .ca => m.ca
  | .cb => m.cb

/-- The Motion Estimator with a channel record replaced. -/
def Moe.setChannel (m : Moe) (ch : ChannelId) (c : Channel) : Moe :=
  match ch with
  | .s1 => { m with s1 := c }
  | .s2 => { m with s2 := c }
  | .ca => { m with ca := c }
  | .cb => { m with cb := c }

/-- A sheave's channel. -/
def Sheave.channel : Sheave → ChannelId
  | .s1 => .s1
  | .s2 => .s2

/-- The reference of a sheave channel. -/
def Moe.reference (m : Moe) : Sheave → Reference
  | .s1 => m.ref1
  | .s2 => m.ref2

/-- The Motion Estimator with a reference replaced. -/
def Moe.setReference (m : Moe) (sh : Sheave) (r : Reference) : Moe :=
  match sh with
  | .s1 => { m with ref1 := r }
  | .s2 => { m with ref2 := r }

/-- HELD: there is no position source (R12). -/
def Moe.held (m : Moe) : Bool := m.source.isNone

/-- The LINE fields of a channel (R2). -/
def Line.channel (l : Line) : ChannelId → ChannelLine
  | .s1 => l.s1
  | .s2 => l.s2
  | .ca => l.ca
  | .cb => l.cb

/-- The staleness limit of a channel (R2). -/
def Line.stale (l : Line) : ChannelId → Nat
  | .s1 => l.tStaleSheave
  | .s2 => l.tStaleSheave
  | .ca => l.tStaleCar
  | .cb => l.tStaleCar

/-- The record of a car-side (R103). -/
def Dru.door (d : Dru) : Car → Side → DoorRecord
  | .a, .left => d.aLeft
  | .a, .right => d.aRight
  | .b, .left => d.bLeft
  | .b, .right => d.bRight

/-- The Door Release Unit with a record replaced. -/
def Dru.setDoor (d : Dru) (car : Car) (side : Side) (r : DoorRecord) : Dru :=
  match car, side with
  | .a, .left => { d with aLeft := r }
  | .a, .right => { d with aRight := r }
  | .b, .left => { d with bLeft := r }
  | .b, .right => { d with bRight := r }

/-- A car's reports. -/
def Dru.reports (d : Dru) : Car → CarReport
  | .a => d.repA
  | .b => d.repB

/-- The Door Release Unit with a car's reports replaced. -/
def Dru.setReports (d : Dru) (car : Car) (r : CarReport) : Dru :=
  match car with
  | .a => { d with repA := r }
  | .b => { d with repB := r }

/-- All four records are LOCKED. -/
def Dru.allLocked (d : Dru) : Bool :=
  d.aLeft.state == .locked && d.aRight.state == .locked && d.bLeft.state == .locked && d.bRight.state == .locked

/-- The aboard count of a car. -/
def Adu.aboard (a : Adu) : Car → Nat
  | .a => a.aboardA
  | .b => a.aboardB

/-- The unticketed count of a car. -/
def Adu.unticketed (a : Adu) : Car → Nat
  | .a => a.unticketedA
  | .b => a.unticketedB

/-- The pending grants of a car. -/
def Adu.grantsOf (a : Adu) (car : Car) : Nat := (a.grants.filter (fun g => g.car == car)).length

/-- Aboard plus pending grants of a car (R128, R149). -/
def Adu.held (a : Adu) (car : Car) : Nat := a.aboard car + a.grantsOf car

/-- The Admission Unit with a car's aboard count replaced. -/
def Adu.setAboard (a : Adu) (car : Car) (n : Nat) : Adu :=
  match car with
  | .a => { a with aboardA := n }
  | .b => { a with aboardB := n }

/-- The Admission Unit with a car's unticketed count replaced. -/
def Adu.setUnticketed (a : Adu) (car : Car) (n : Nat) : Adu :=
  match car with
  | .a => { a with unticketedA := n }
  | .b => { a with unticketedB := n }

/-! ### The FIFO -/

/-- The places of the forward FIFO that are taken: a forwarded frame holds its place until its last byte has left
OUT (R158). -/
def Rif.fifoUsed (r : Rif) : Nat :=
  r.fifo.length + (match r.sending with
    | some x => if x.fromFifo then 1 else 0
    | none => 0)

/-- A frame placed at the end of the forward FIFO. -/
def pushFifo (f : Frame) (note : FifoNote) (s : State) : State :=
  s.withRif { s.rif with fifo := s.rif.fifo ++ [⟨f, note⟩] }

/-! ### The hardwired outputs -/

/-- EB_HOLD is energised: in every haul state but TRIPPED, and never while the part is held in reset (R58). -/
def State.ebHold (s : State) : Bool := !s.inReset && s.hlc.state != .tripped

/-- SB_DEMAND is asserted (R81). -/
def State.sbDemand (s : State) : Bool :=
  s.inReset || !(s.hlc.state == .armed || s.hlc.state == .running)

/-- DRIVE_ENABLE is asserted (R81). -/
def State.driveEnable (s : State) : Bool :=
  !s.inReset &&
    (s.hlc.state == .armed || s.hlc.state == .running ||
      (s.hlc.state == .serviceStop && s.hlc.stopCause != some .brakeTest))

/-! ### The latest motion update -/

/-- The signed line speed: V with the sign of the actual direction, positive for NONE (R10). -/
def signedSpeed (v : Nat) : Direction → Int
  | .down => -(v : Int)
  | _ => (v : Int)

/-- The still condition of R18, which also ends a measured stop (R71): the sheave speed is known and V does not
exceed v_still. It fails without a LINE record. -/
def State.stillCondition (s : State) (m : Motion) : Bool :=
  match s.line with
  | some l => m.known && decide (m.v ≤ l.vStill)
  | none => false

/-- The signed line speed of an update. -/
def Motion.signed (m : Motion) : Int := signedSpeed m.v m.dir

end Sys2Proof.Machine
end

