-- ==== Sys2Proof/Machine/Insertion.lean ====
section
/-! DEFINITION. Placing frames in the five insertion classes (R165, R166). -/

namespace Sys2Proof.Machine

/-- A frame the part builds, with src = OA and the transmit sequence as its seq (R166). -/
def State.ownFrame (s : State) (kind dst : Byte) (payload : List Byte) : Frame :=
  { kind := kind, dst := dst, src := s.oaByte, seq := s.rif.txSeq, payload := payload }

/-- A forced zero set-point placed in FORCE (R47): a waiting one is replaced and counted (R165). -/
def placeForce (s : State) : State :=
  let f := s.ownFrame 0x20 (s.addressOf .drive) (setpointPayload 0 [0, 0] flagForced)
  let r := { s.rif with force := some f, txSeq := s.rif.txSeq + 1 }
  s.withRif (if s.rif.force.isSome then r.count .forceReplaced else r)

/-- The two actions of a DOOR_CMD (R108). -/
inductive DoorAction
  | release
  | withdraw
  deriving DecidableEq, Repr

/-- The action codes of R108. -/
def DoorAction.code : DoorAction → Byte
  | .release => 1
  | .withdraw => 2

/-- The role of a car's gateway. -/
def carRole : Car → Role
  | .a => .carA
  | .b => .carB

/-- The slot belongs to the car-side. -/
def DoorSlot.isFor (x : DoorSlot) (car : Car) (side : Side) : Bool := x.car == car && x.side == side

/-- A DOOR_CMD placed in its car-side slot (R108): it stands behind the commands that wait, and a command waiting
in its own slot is replaced and counted (R165). -/
def placeDoor (car : Car) (side : Side) (action : DoorAction) (s : State) : State :=
  let f := s.ownFrame 0x42 (s.addressOf (carRole car)) [sideCode side, action.code]
  let others := s.rif.door.filter (fun x => !x.isFor car side)
  let r := { s.rif with door := others ++ [⟨car, side, f⟩], txSeq := s.rif.txSeq + 1 }
  s.withRif (if s.rif.door.any (fun x => x.isFor car side) then r.count .doorReplaced else r)

/-- A reply placed in REPLY: to the src of the request, with its seq (R166). -/
def placeReply (req : Frame) (kind : Byte) (payload : List Byte) (s : State) : State :=
  let f : Frame := { kind := kind, dst := req.src, src := s.oaByte, seq := req.seq, payload := payload }
  s.withRif { s.rif with reply := s.rif.reply ++ [f] }

/-- A frame put behind the express frames that wait and ahead of every other (R190). -/
def insertExpress (x : ReportSlot) : List ReportSlot → List ReportSlot
  | [] => [x]
  | y :: rest => if y.express then y :: insertExpress x rest else x :: y :: rest

/-- A REPORT placed in its class, to MA (R166, R190). -/
def placeReport (express : Bool) (payload : List Byte) (s : State) : State :=
  let x : ReportSlot := ⟨s.ownFrame 0x70 s.maByte payload, express⟩
  s.withRif { s.rif with
    report := if express then insertExpress x s.rif.report else s.rif.report ++ [x]
    txSeq := s.rif.txSeq + 1 }

/-- A BEACON placed in its class, to MA: a waiting one is replaced and counted (R165, R166). -/
def placeBeacon (payload : List Byte) (s : State) : State :=
  let f := s.ownFrame 0x71 s.maByte payload
  let r := { s.rif with beacon := some f, txSeq := s.rif.txSeq + 1 }
  s.withRif (if s.rif.beacon.isSome then r.count .beaconReplaced else r)

end Sys2Proof.Machine
end

