-- ==== Sys2Proof/Machine/Report.lean ====
section
/-! DEFINITION. The Report Unit: raising events, selecting reports, the beacon (chapter 11). -/

namespace Sys2Proof.Machine

/-! ### Levels and express slots -/

/-- The level of a kind in the active REPORTLEVEL table (R189). -/
def State.level (s : State) (k : Fin 28) : Nat := (byteAt s.mga.active.reportLevel k.val).toNat

/-- The kind an express slot byte names, if any (R189). -/
def expressKind (b : Byte) : Option (Fin 28) :=
  if h : b.toNat < 28 then some ⟨b.toNat, h⟩ else none

/-- Express slot 1. -/
def State.express1 (s : State) : Option (Fin 28) := expressKind (byteAt s.mga.active.reportLevel 28)

/-- Express slot 2. -/
def State.express2 (s : State) : Option (Fin 28) := expressKind (byteAt s.mga.active.reportLevel 29)

/-- The kind is named by an express slot in force. -/
def State.isExpress (s : State) (k : Fin 28) : Bool := s.express1 == some k || s.express2 == some k

/-- A kind is pending. -/
def State.isPending (s : State) (k : Fin 28) : Bool := s.rpu.slots[k].entry.isSome

/-! ### Selection (R190) -/

/-- Of two kinds the one that is taken first: the higher level, and among equals the first argument. -/
def preferKind (s : State) (best : Option (Fin 28)) (k : Fin 28) : Option (Fin 28) :=
  if s.isPending k then
    match best with
    | none => some k
    | some b => if s.level b < s.level k then some k else some b
  else best

/-- The pending kind of highest level, among kinds of equal level the lower code. -/
def State.topKind (s : State) : Option (Fin 28) := (List.finRange 28).foldl (preferKind s) none

/-- An express slot's kind, if it is pending. -/
def State.pendingExpress (s : State) (slot : Option (Fin 28)) : Option (Fin 28) :=
  match slot with
  | some k => if s.isPending k then some k else none
  | none => none

/-- The kind placed next: express slot 1, express slot 2, else the top kind (R190). -/
def State.nextKind (s : State) : Option (Fin 28) :=
  (s.pendingExpress s.express1).orElse fun _ => (s.pendingExpress s.express2).orElse fun _ => s.topKind

/-- The payload of a REPORT (R170). -/
def reportPayload (seq : Byte) (k : Fin 28) (level : Nat) (e : PendingEvent) : List Byte :=
  [seq, byteOf k.val, byteOf level, byteOf e.occurrences] ++ bytes32 e.firstTime ++ bytes32 e.detail

/-- One kind placed: the report sequence advances, the frame is built and placed, the entry is cleared (R190). -/
def placeKind (k : Fin 28) (s : State) : State :=
  match s.rpu.slots[k].entry with
  | none => s
  | some e =>
    let seq := s.rpu.seq + 1
    let s1 := placeReport (s.isExpress k) (reportPayload seq k (s.level k) e) s
    s1.withRpu { s1.rpu with seq := seq, slots := s1.rpu.slots.set k { s1.rpu.slots[k] with entry := none } }

/-- Kinds placed one at a time while REPORT holds fewer than 8 frames and some kind is pending, at most n. -/
def selectUpTo : Nat → State → State
  | 0, s => s
  | n + 1, s =>
    if s.rif.report.length < 8 then
      match s.nextKind with
      | some k => selectUpTo n (placeKind k s)
      | none => s
    else s

/-- The selection of R190: the class has room for at most 8. None is placed under a strap fault (R193). -/
def selectReports (s : State) : State := if s.strapFault then s else selectUpTo 8 s

/-! ### Raising an event (R188) -/

/-- The slot of a kind after one more occurrence at the present time. -/
def EventSlot.raised (x : EventSlot) (level : Nat) (now : Time) (detail : BitVec 32) : EventSlot :=
  { count := satAdd x.count 1,
    entry := if level = 0 then x.entry else
      match x.entry with
      | none => some { occurrences := 1, firstTime := now, detail := detail }
      | some e => some { e with occurrences := min (e.occurrences + 1) 255 } }

/-- An event raised: counted at every level, pending or coalesced above level 0; the raise that sets the pending
flag is followed by the selection (R188, R190). -/
def raise (k : EventKind) (detail : BitVec 32) (s : State) : State :=
  let x := s.rpu.slots[k.code]
  let s1 := s.withRpu { s.rpu with
    slots := s.rpu.slots.set k.code (x.raised (s.level k.code) s.clock detail) }
  if s.level k.code ≠ 0 ∧ x.entry.isNone then selectReports s1 else s1

/-- A new REPORTLEVEL table in force: pending kinds of level 0 are cleared, then the selection (R189). -/
def applyReportLevel (s : State) : State :=
  selectReports (s.withRpu { s.rpu with
    slots := Vector.ofFn fun k : Fin 28 =>
      if s.level k = 0 then { s.rpu.slots[k] with entry := none } else s.rpu.slots[k] })

/-! ### The beacon (R192) -/

/-- The door records of a beacon: A-LEFT in bits 7–6 down to B-RIGHT in bits 1–0 (R170). -/
def Dru.beaconByte (d : Dru) : Byte :=
  d.aLeft.state.beaconCode ++ d.aRight.state.beaconCode ++ d.bLeft.state.beaconCode ++ d.bRight.state.beaconCode

/-- The flags byte of a beacon (R170). -/
def State.beaconFlags (s : State) : Byte :=
  (if s.brs.estopLatched then 1 else 0) ||| (if s.test.svcFailed then 2 else 0) |||
    (if s.test.emgFailed then 4 else 0) |||
    (if s.rif.crcFlag || s.rif.formatFlag || s.rif.overrunFlag then 8 else 0)

/-- The 29 payload bytes of a BEACON: the state of every block as it stands (R170, R192). -/
def State.beaconPayload (s : State) : List Byte :=
  [s.hlc.state.code, indexByte s.hlc.berth, indexByte s.hlc.target, s.moe.status.code] ++
  beInt32 s.moe.posA ++ beInt16 s.moe.last.signed ++ be16 s.env.e ++
  [s.brs.tier.code, byteOf s.env.loadClass.val] ++
  be16 s.adu.aboardA ++ be16 s.adu.aboardB ++
  [byteOf s.adu.unticketedA, byteOf s.adu.unticketedB, byteOf s.adu.grants.length, s.dru.beaconByte,
   firstCauseCode s.brs.trip.first, s.beaconFlags, s.rpu.seq] ++
  bytes32 s.clock

/-- A LINE record taking effect sets the beacon timer: idle for t_beacon 0 (R192). -/
def setBeaconTimer (l : Line) (s : State) : State :=
  s.withRpu { s.rpu with
    beacon := if l.tBeacon = 0 then none else some { start := s.clock, dur := l.tBeacon * 1000 } }

/-- The beacon expiry: the snapshot is built and placed and the expiry moves on (R192). -/
def beaconExpiry (s : State) : State :=
  match s.rpu.beacon with
  | some t =>
    if t.reached s.clock then
      let s1 := placeBeacon s.beaconPayload s
      s1.withRpu { s1.rpu with beacon := some (t.again (s.param (·.tBeacon) 0 * 1000)) }
    else s
  | none => s

end Sys2Proof.Machine
end

