-- ==== Sys2Proof/Machine/Envelope.lean ====
section
/-! DEFINITION. The Envelope Unit (chapter 2) and the thresholds the Brake Supervisor builds on it (R43). -/

namespace Sys2Proof.Machine

/-! ### Arithmetic -/

/-- The root found so far, extended by the bits below bit k: each is set while the square stays within x. -/
def isqrtFrom : Nat → Nat → Nat → Nat
  | 0, r, _ => r
  | k + 1, r, x => isqrtFrom k (if (r + 2 ^ k) * (r + 2 ^ k) ≤ x then r + 2 ^ k else r) x

/-- The integer square root of a number below 2⁶⁴ (R31). -/
def isqrt (x : Nat) : Nat := isqrtFrom 32 0 x

/-! ### Thresholds (R43) -/

/-- A per-mille margin on E with a fixed margin above it. -/
def withMargin (e perMille fixed : Nat) : Nat := e + e * perMille / 1000 + fixed

/-- T_warn for an envelope. -/
def warnThreshold (l : Line) (e : Nat) : Nat := withMargin e l.pw l.cw

/-- T_svc for an envelope. -/
def serviceThreshold (l : Line) (e : Nat) : Nat := withMargin e l.ps l.cs

/-- T_emg for an envelope and mode. -/
def emergencyThreshold (l : Line) (e : Nat) (m : EnvMode) : Nat :=
  if m = .frozen then l.vTripAbs else min (withMargin e l.pe l.ce) l.vTripAbs

/-- The three thresholds recomputed from the E and mode in force and the active LINE record; all 0 without one. -/
def recomputeThresholds (s : State) : State :=
  s.withBrs (match s.line with
    | some l => { s.brs with
        tWarn := warnThreshold l s.env.e, tSvc := serviceThreshold l s.env.e,
        tEmg := emergencyThreshold l s.env.e s.env.mode }
    | none => { s.brs with tWarn := 0, tSvc := 0, tEmg := 0 })

/-! ### The NORMAL envelope (R30–R33) -/

/-- The segment of a position: the last entry whose start is not beyond it, the first entry below 0 (R30). -/
def segmentFrom (pos : Int) : Segment → List Segment → Segment
  | best, [] => best
  | best, x :: rest => segmentFrom pos (if x.start ≤ pos then x else best) rest

/-- The ceiling of a segment in a run direction. -/
def Segment.ceiling (x : Segment) : Direction → Nat
  | .down => x.down
  | _ => x.up

/-- The step ceiling (R30); 0 where no PROFILE or LINE is active. -/
def State.stepCeiling (s : State) : Nat :=
  match s.mga.active.profile, s.line with
  | some (x :: rest), some l =>
    (segmentFrom s.moe.last.posA x rest).ceiling s.env.dir * l.pct[s.env.loadClass] / 100
  | _, _ => 0

/-- The raw distance to a stop on a run in a direction (R31). -/
def rawDistance (dir : Direction) (target pos : Int) : Int :=
  match dir with
  | .down => pos - target
  | _ => target - pos

/-- The curve speed at a raw distance from a stop (R31, R32). -/
def curveSpeed (l : Line) (k : Fin 4) (half : Nat) (dRaw : Int) : Nat :=
  if 0 ≤ dRaw then max (isqrt (2 * l.aRef[k] * (dRaw.toNat - l.stopMargin))) l.vLand
  else if (-dRaw).toNat ≤ half then l.vLand else 0

/-- The curve speed of the run; 0 where the run has no stop or no LINE is active. -/
def State.curve (s : State) : Nat :=
  match s.env.target.bind (fun i => s.stops[i]?), s.line with
  | some st, some l =>
    curveSpeed l s.env.loadClass st.half (rawDistance s.env.dir st.pos s.moe.last.posA)
  | _, _ => 0

/-- E as the mode computes it (R29, R33, R34, R35). -/
def State.computeE (s : State) : Nat :=
  match s.env.mode with
  | .off => 0
  | .normal => min (min s.stepCeiling s.curve) (s.param (·.vLineMax) 0)
  | .creep => min (s.param (·.vCreep) 0) (s.param (·.vLineMax) 0)
  | .frozen => s.env.e

/-! ### Evaluation (R27) -/

/-- A mode and an E put in force; a change of either is handed to the Brake Supervisor (R27). -/
def handOn (mode : EnvMode) (e : Nat) (s : State) : State :=
  let s1 := s.withEnv { s.env with mode := mode, e := e }
  if mode ≠ s.env.mode ∨ e ≠ s.env.e then recomputeThresholds s1 else s1

/-- The haul is PARKED, BOARDING or TRIPPED: no run is in progress. -/
def HaulState.atRest : HaulState → Bool
  | .parked => true
  | .boarding => true
  | .tripped => true
  | _ => false

/-- The mode as the haul state settles it: OFF at rest (R36), kept through a run (R28). -/
def State.settledMode (s : State) : EnvMode := if s.hlc.state.atRest then .off else s.env.mode

/-- An evaluation with the mode given. -/
def evaluateIn (mode : EnvMode) (s : State) : State :=
  handOn mode (s.withEnv { s.env with mode := mode }).computeE s

/-- One evaluation of the envelope. -/
def envEvaluate (s : State) : State := evaluateIn s.settledMode s

/-- A motion update with status SUSPECT reaches ENV in mode NORMAL (R35). -/
def State.freezes (s : State) : Bool := s.env.mode == .normal && s.moe.last.status == .suspect

/-! ### Arming (R28, R37) -/

/-- The count of a car: aboard and unticketed. -/
def Adu.count (a : Adu) (car : Car) : Nat := a.aboard car + a.unticketed car

/-- The car that descends on a run: B on an up run, A on a down run (R37). -/
def descending : Direction → Car
  | .down => .a
  | _ => .b

/-- The car that ascends on a run. -/
def ascending : Direction → Car
  | .down => .b
  | _ => .a

/-- The out-of-balance load O (R37). -/
def State.outOfBalance (s : State) (dir : Direction) : Nat :=
  (s.adu.count (descending dir) - s.adu.count (ascending dir)) * s.param (·.mPass) 0

/-- The load class of a load (R37). -/
def loadClassOf (l : Line) (o : Nat) : Fin 4 :=
  if o ≤ l.th1 then 0 else if o ≤ l.th2 then 1 else if o ≤ l.th3 then 2 else 3

/-- ENV at the event that enters ARMED (R28). -/
def envArm (s : State) : State :=
  let o := s.outOfBalance s.hlc.dir
  let k := match s.line with
    | some l => loadClassOf l o
    | none => 0
  let s1 := s.withEnv { s.env with target := s.hlc.target, dir := s.hlc.dir, load := o, loadClass := k }
  evaluateIn (if s.moe.last.status.trusted then .normal else .creep) s1

end Sys2Proof.Machine
end

