-- ==== Sys2Proof/Machine/Haul.lean ====
section
/-! DEFINITION. The changes of haul state (chapter 5) with what every block does at each (R36, R45, R47, R48,
R50, R51, R131). A pending activation, which the entry to PARKED or TRIPPED takes, stands in Activation.lean. -/

namespace Sys2Proof.Machine

/-- Supervision ends: IDLE, its expiry cancelled (R50). -/
def Supervision.ended (x : Supervision) : Supervision := { x with active := false, expiry := none }

/-- The Brake Supervisor at an entry to BOARDING, PARKED or TRIPPED (R45, R50, R51). -/
def Brs.atRest (b : Brs) : Brs :=
  { b with tier := .normal, aboveService := false, sup := b.sup.ended, lossFlag := false, lossTimer := none }

/-- The full-reported flags are cleared at an entry to BOARDING (R131). -/
def clearFullFlags (s : State) : State := s.withAdu { s.adu with fullA := false, fullB := false }

/-- The haul enters BOARDING, PARKED or TRIPPED with a berth: the arm timer becomes idle, the envelope OFF and the
Brake Supervisor's run judgements are reset. -/
def enterRest (st : HaulState) (berth : Option Nat) (boardingOpen : Bool) (s : State) : State :=
  let s1 := s.withHlc { s.hlc with
    state := st, berth := berth, boardingOpen := boardingOpen, armTimer := none }
  let s2 := envEvaluate (s1.withBrs s1.brs.atRest)
  if st = .boarding then clearFullFlags s2 else s2

/-- The return from ARMED to the origin (R90, R47). -/
def returnToOrigin (s : State) : State :=
  let st := match s.hlc.origin with
    | some o => o.toState
    | none => .parked
  placeForce (enterRest st s.hlc.berth false s)

/-- The entry to TRIPPED (R97, R47); the drive record, target, direction and stop cause are kept. -/
def enterTripped (s : State) : State := placeForce (enterRest .tripped none false s)

/-- The entry to ARMED of an accepted DEPART (R87, R28). -/
def enterArmed (target : Nat) (dir : Direction) (s : State) : State :=
  let origin := if s.hlc.state = .boarding then Origin.boarding else Origin.parked
  envArm (s.withHlc { s.hlc with
    state := .armed, target := some target, dir := dir, origin := some origin,
    armTimer := some { start := s.clock, dur := s.param (·.tArm) 0 * 1000 } })

/-- Service-stop supervision starts (R48). -/
def superviseStop (s : State) : State :=
  s.withBrs { s.brs with sup :=
    { active := true, vStart := s.moe.last.v, short := 0,
      expiry := some { start := s.clock, dur := s.param (·.tSup) 0 } } }

/-- The entry to SERVICE_STOP (R94, R47, R48). -/
def enterServiceStop (cause : StopCause) (s : State) : State :=
  superviseStop (placeForce (envEvaluate (s.withHlc { s.hlc with
    state := .serviceStop, stopCause := some cause, further := 0 })))

end Sys2Proof.Machine
end

