-- ==== Sys2Proof/Machine/Brakes.lean ====
section
/-! DEFINITION. Trips and service-stop demands, with their effect on a brake test (R55–R57, R72, R73, R93), and
the judgements of the Brake Supervisor at a motion update (R44, R51, R53). -/

namespace Sys2Proof.Machine

/-! ### Interference with a brake test (R72, R73) -/

/-- A stage with its status and its result fields cleared; the trigger time is no result field (R66). -/
def Stage.withoutResult (x : Stage) (status : StageStatus) : Stage :=
  { x with status := status, vApply := 0, pApply := 0, tStop := 0, dStop := 0, decel := 0 }

/-- The end of the SERVICE stage by interference (R73). -/
def abortService (s : State) : State :=
  raise .brakeTestResult (detailBBW 1 3 0) (s.withTest { s.test with
    state := .idle, abortPending := false, failureMark := false, svc := s.test.svc.withoutResult .aborted })

/-- What a trip cause does to a SERVICE stage that is BRAKING: SB_INEFFECTIVE sets the failure mark (R72), any
other cause aborts the stage unless the mark already decides it (R73). -/
def testOnTrip (cause : TripCause) (s : State) : State :=
  if s.test.svc.status = .braking then
    if cause = .sbIneffective then s.withTest { s.test with failureMark := true }
    else if s.test.failureMark then s
    else abortService s
  else s

/-! ### Trips (R55–R57) -/

/-- An entry appended to the history; of nine the oldest is removed (R57). -/
def appendHistory (h : List TripEntry) (e : TripEntry) : List TripEntry :=
  if 8 < (h ++ [e]).length then (h ++ [e]).drop 1 else h ++ [e]

/-- A function applied to the newest entry of the history. -/
def onNewest (f : TripEntry → TripEntry) : List TripEntry → List TripEntry
  | [] => []
  | [e] => [f e]
  | e :: rest => e :: onNewest f rest

/-- The TRIP event of a cause: the code, whether it latched the trip, and the signed V of the latest update. -/
def raiseTrip (cause : TripCause) (first : Byte) (s : State) : State :=
  raise .trip (detailBBW cause.code first (BitVec.ofInt 16 s.moe.last.signed)) s

/-- A cause taken while no trip is latched (R55). -/
def latchTrip (cause : TripCause) (s : State) : State :=
  let m := s.moe.last
  enterTripped (raiseTrip cause 1 (s.withBrs { s.brs with
    trip := { latched := true, first := some cause, causes := cause.bit, posA := m.posA, v := m.signed,
              time := s.clock }
    history := appendHistory s.brs.history
      { first := some cause, causes := cause.bit, posA := m.posA, v := m.signed, time := s.clock,
        cleared := false } }))

/-- A cause added to the cause set of the record and of the newest history entry (R56). -/
def Brs.addCause (b : Brs) (cause : TripCause) : Brs :=
  let set := b.trip.causes ||| cause.bit
  { b with trip := { b.trip with causes := set }
           history := onNewest (fun e => { e with causes := set }) b.history }

/-- A cause taken while a trip is latched (R56). -/
def addTrip (cause : TripCause) (s : State) : State :=
  raiseTrip cause 0 (s.withBrs (s.brs.addCause cause))

/-- A trip cause taken: latched or added, then its effect on a brake test. -/
def trip (cause : TripCause) (s : State) : State :=
  testOnTrip cause (if s.brs.trip.latched then addTrip cause s else latchTrip cause s)

/-! ### Service-stop demands (R93) -/

/-- The four outcomes of a demand. -/
inductive DemandOutcome
  | entered
  | returned
  | counted
  | ignored
  deriving DecidableEq, Repr

/-- The outcome codes of R93. -/
def DemandOutcome.code : DemandOutcome → Byte
  | .entered => 1
  | .returned => 2
  | .counted => 3
  | .ignored => 4

/-- The SERVICE_STOP event of a demand. -/
def raiseStop (cause : StopCause) (o : DemandOutcome) (s : State) : State :=
  raise .serviceStop (detail4 cause.code o.code (indexByte s.hlc.target)
    (if cause = .drive then s.hlc.drive.fault else 0)) s

/-- A service-stop demand (R93); a demand met in SERVICE_STOP ends a SERVICE stage that is BRAKING (R73). DESIGN
CHOICE (log 37): the change of haul state, with its forced zero set-point, comes before the raise of SERVICE_STOP, so
the set-point takes the earlier transmit sequence. -/
def demand (cause : StopCause) (s : State) : State :=
  match s.hlc.state with
  | .armed => raiseStop cause .returned (returnToOrigin s)
  | .running => raiseStop cause .entered (enterServiceStop cause s)
  | .serviceStop =>
    let s1 := raiseStop cause .counted (s.withHlc { s.hlc with further := min (s.hlc.further + 1) 255 })
    if s1.test.svc.status = .braking then abortService s1 else s1
  | .parked => raiseStop cause .ignored s
  | .boarding => raiseStop cause .ignored s
  | .tripped => raiseStop cause .ignored s

/-! ### The tier judgement (R44) -/

/-- The tier and the above-service flag put in force. -/
def setTier (tier : Tier) (above : Bool) (s : State) : State :=
  s.withBrs { s.brs with tier := tier, aboveService := above }

/-- An entry to WARN from NORMAL raises OVERSPEED_WARN; a tier of WARN stays. -/
def warn (above : Bool) (s : State) : State :=
  let s1 := setTier .warn above s
  if s.brs.tier = .normal then
    raise .overspeedWarn (detailWW (BitVec.ofNat 16 s.moe.last.v) (BitVec.ofNat 16 s.brs.tWarn)) s1
  else s1

/-- The cases of R44, from the top down. -/
def tierCases (s : State) : State :=
  let v := s.moe.last.v
  if s.brs.tEmg < v then trip .overspeed s
  else if s.brs.tSvc < v then
    if s.brs.aboveService then warn true s else demand .overspeed (warn true s)
  else if s.brs.tWarn < v then warn false s
  else if s.env.e < v then setTier s.brs.tier false s
  else setTier .normal false s

/-- The tier judgement, made in ARMED, RUNNING and SERVICE_STOP while a LINE record is active. -/
def judgeTier (s : State) : State :=
  if !s.hlc.state.atRest && s.line.isSome then tierCases s else s

/-! ### The overrun judgement (R53) -/

/-- posA lies beyond the first or the last stop by more than the overrun. -/
def beyondStops (pos : Int) (overrun : Nat) : List Stop → Bool
  | [] => false
  | st :: rest =>
    decide (pos < st.pos - overrun) || decide (((st :: rest).getLast (by simp)).pos + overrun < pos)

/-- The overrun condition of the latest update. -/
def State.overruns (s : State) : Bool :=
  match s.line with
  | some l => s.moe.last.status.trusted && beyondStops s.moe.last.posA l.overrun s.stops
  | none => false

/-! ### The loss of sheave speed (R51) -/

/-- An S channel is FRESH. -/
def State.sheaveFresh (s : State) : Bool := s.moe.s1.state == .fresh || s.moe.s2.state == .fresh

/-- The loss timer started. -/
def startLossTimer (s : State) : State :=
  s.withBrs { s.brs with lossTimer := some { start := s.clock, dur := 2 * s.param (·.tStaleSheave) 0 } }

/-- The judgement while the loss flag is set. -/
def followLoss (s : State) : State :=
  let s1 := if s.sheaveFresh then s.withBrs { s.brs with lossTimer := none }
    else if s.brs.lossTimer.isNone then startLossTimer s else s
  if s.moe.last.known then s1.withBrs { s1.brs with lossFlag := false } else s1

/-- The judgement that finds a loss. -/
def takeLoss (s : State) : State :=
  let s1 := raise .speedLost (BitVec.ofInt 32 s.moe.last.posA)
    (demand .speedLost (s.withBrs { s.brs with lossFlag := true }))
  if s1.sheaveFresh then s1 else startLossTimer s1

/-- The speed-loss judgement of the latest update, made in RUNNING and SERVICE_STOP. -/
def judgeLoss (s : State) : State :=
  if s.hlc.state = .running ∨ s.hlc.state = .serviceStop then
    if s.brs.lossFlag then followLoss s
    else if s.moe.last.known then s else takeLoss s
  else s

end Sys2Proof.Machine
end

