-- ==== Sys2Proof/Machine/BrakeTest.lean ====
section
/-! DEFINITION. Brake test runs: the trigger and the measurement of a stage (R68–R71). -/

namespace Sys2Proof.Machine

/-- The two stages (R66). -/
inductive StageId
  | service
  | emergency
  deriving DecidableEq, Repr

/-- The stage codes of R77. -/
def StageId.code : StageId → Byte
  | .service => 1
  | .emergency => 2

/-- A stage of the test record. -/
def BrakeTest.stage (t : BrakeTest) : StageId → Stage
  | .service => t.svc
  | .emergency => t.emg

/-- The test record with a stage replaced. -/
def BrakeTest.setStage (t : BrakeTest) (id : StageId) (x : Stage) : BrakeTest :=
  match id with
  | .service => { t with svc := x }
  | .emergency => { t with emg := x }

/-- The test record with a stage's failed flag put in force. -/
def BrakeTest.setFailed (t : BrakeTest) (id : StageId) (failed : Bool) : BrakeTest :=
  match id with
  | .service => { t with svcFailed := failed }
  | .emergency => { t with emgFailed := failed }

/-- The brake under test applied (R69, R70). -/
def applyBrake (id : StageId) (s : State) : State :=
  match id with
  | .service => demand .brakeTest s
  | .emergency => trip .brakeTest s

/-- The trigger of a WAITING stage (R68). -/
def judgeTrigger (id : StageId) (s : State) : State :=
  if s.hlc.state = .running ∧ s.test.vTest ≤ s.moe.last.v then
    applyBrake id (s.withTest (s.test.setStage id { s.test.stage id with
      status := .braking, trigger := s.clock, vApply := s.moe.last.v, pApply := s.moe.last.posA }))
  else s

/-- The deceleration the line requires of a stage (R71). -/
def Line.testThreshold (l : Line) : StageId → Nat
  | .service => l.aTestSvc
  | .emergency => l.aTestEmg

/-- The measured time of a stop: 0 counts as 1 (R71). -/
def stopTime (trigger now : Time) : Nat := max 1 (since trigger now)

/-- The mean deceleration of a stop (R71). -/
def meanDecel (vApply tStop : Nat) : Nat := vApply * 1000 / tStop

/-- The test after a stage has ended PASSED or FAILED: aborted, on to EMERGENCY, or COMPLETE (R71). -/
def BrakeTest.next (t : BrakeTest) (id : StageId) : BrakeTest :=
  let t1 := { t with failureMark := false }
  if t1.abortPending then { t1 with state := .idle, abortPending := false }
  else if id = .service ∧ t1.selEmg then { t1 with emg := { t1.emg with status := .waiting } }
  else { t1 with state := .complete }

/-- A stage completed at the end of its stop (R71). -/
def endStage (id : StageId) (s : State) : State :=
  let t := s.test
  let x := t.stage id
  let tStop := stopTime x.trigger s.clock
  let decel := meanDecel x.vApply tStop
  if t.abortPending && !t.failureMark then
    raise .brakeTestResult (detailBBW id.code 3 0) (s.withTest { t.setStage id (x.withoutResult .aborted) with
      state := .idle, abortPending := false })
  else
    let failed := t.failureMark || decide (decel < s.param (Line.testThreshold · id) 0)
    let y := { x with status := if failed then .failed else .passed, tStop := tStop,
                      dStop := (s.moe.last.posA - x.pApply).natAbs, decel := decel }
    raise .brakeTestResult (detailBBW id.code (if failed then 2 else 1) (BitVec.ofNat 16 (sat16 decel)))
      (s.withTest (((t.setStage id y).setFailed id failed).next id))

/-- The still condition ends the stop of a BRAKING stage (R71). -/
def judgeStopEnd (id : StageId) (s : State) : State :=
  if s.stillCondition s.moe.last then endStage id s else s

/-- The brake test at a motion update: the one stage that is WAITING or BRAKING is judged. -/
def judgeTest (s : State) : State :=
  match s.test.svc.status, s.test.emg.status with
  | .waiting, _ => judgeTrigger .service s
  | .braking, _ => judgeStopEnd .service s
  | _, .waiting => judgeTrigger .emergency s
  | _, .braking => judgeStopEnd .emergency s
  | _, _ => s

end Sys2Proof.Machine
end

