-- ==== Sys2Proof/Machine/Doors.lean ====
section
/-! DEFINITION. The Door Release Unit (chapter 6). -/

namespace Sys2Proof.Machine

/-! ### Records -/

/-- A record put into the state. -/
def setDoor (car : Car) (side : Side) (r : DoorRecord) (s : State) : State :=
  s.withDru (s.dru.setDoor car side r)

/-- A record becomes LOCKED, RELEASED or FAULT: its action timer is idle (R103). -/
def settleDoor (car : Car) (side : Side) (st : DoorState) (s : State) : State :=
  setDoor car side { state := st, timer := none } s

/-- A record becomes RELEASING, with the release expiry running (R103). -/
def startRelease (car : Car) (side : Side) (s : State) : State :=
  setDoor car side
    { state := .releasing, timer := some { start := s.clock, dur := s.param (·.tDoorRelease) 0 } } s

/-- The close time in ms; free where no LINE record is active (log 5). -/
def State.closeTime (s : State) : Nat :=
  match s.line with
  | some l => l.tDoorClose * 1000
  | none => Config.closeTimeWithoutLine s.steps

/-- A record becomes CLOSING, with the close expiry running (R103). -/
def startClosing (car : Car) (side : Side) (s : State) : State :=
  setDoor car side { state := .closing, timer := some { start := s.clock, dur := s.closeTime } } s

/-- A WITHDRAW placed and the record in CLOSING (R111, R116). -/
def withdraw (car : Car) (side : Side) (s : State) : State :=
  startClosing car side (placeDoor car side .withdraw s)

/-! ### Events (R117) -/

/-- The reasons of a DOOR_FAULT (R114). -/
inductive DoorFaultReason
  | noResponse
  | closeTimeout
  | unexpected
  deriving DecidableEq, Repr

/-- The reason codes of R114. -/
def DoorFaultReason.code : DoorFaultReason → Byte
  | .noResponse => 1
  | .closeTimeout => 2
  | .unexpected => 3

/-- A record becomes FAULT and DOOR_FAULT is raised with the haul state in which it was judged. -/
def faultDoor (car : Car) (side : Side) (why : DoorFaultReason) (judgedIn : HaulState) (s : State) : State :=
  raise .doorFault (detail4 (carCode car) (sideCode side) why.code judgedIn.code)
    (settleDoor car side .fault s)

/-! ### Expiries (R109, R112, R105) -/

/-- The release expiry of a record in RELEASING (R109). -/
def releaseExpiry (car : Car) (side : Side) (s : State) : State :=
  let r := s.dru.door car side
  if r.state = .releasing ∧ due r.timer s.clock then faultDoor car side .noResponse s.hlc.state s else s

/-- The close expiry of a record in CLOSING (R112). -/
def closeExpiry (car : Car) (side : Side) (s : State) : State :=
  let r := s.dru.door car side
  if r.state = .closing ∧ due r.timer s.clock then faultDoor car side .closeTimeout s.hlc.state s else s

/-- The lapse of a car's reports (R105). -/
def lapse (car : Car) (s : State) : State :=
  let s1 := raise .doorStateLost (detail4 (carCode car) s.hlc.state.code 0 0)
    (s.withDru (s.dru.setReports car { s.dru.reports car with expiry := none }))
  if s.hlc.state.atRest then s1 else demand .doorStateLost s1

/-- The freshness expiry of a car (R105). -/
def freshnessExpiry (car : Car) (s : State) : State :=
  if due (s.dru.reports car).expiry s.clock then lapse car s else s

/-! ### Door open while moving (R115), withdrawal (R116) -/

/-- The door-open-while-moving condition. -/
def State.movingOpenNow (s : State) (l : Line) : Bool :=
  !s.dru.allLocked && decide (l.vStill < s.moe.last.v)

/-- The moving-open flag put in force. -/
def setMovingOpen (b : Bool) (s : State) : State := s.withDru { s.dru with movingOpen := b }

/-- The judgement of R115; `tripped` where this report has tripped the haul already (R114). -/
def judgeMovingOpen (tripped : Bool) (s : State) : State :=
  match s.line with
  | some l =>
    if s.movingOpenNow l then
      if s.dru.movingOpen || tripped then setMovingOpen true s
      else trip .doorOpenMoving (setMovingOpen true s)
    else setMovingOpen false s
  | none => s

/-- The four car-sides, in the order of R103. -/
def carSides : List (Car × Side) := [(.a, .left), (.a, .right), (.b, .left), (.b, .right)]

/-- One record withdrawn if it is RELEASING or RELEASED. -/
def withdrawReleased (s : State) (cs : Car × Side) : State :=
  let st := (s.dru.door cs.1 cs.2).state
  if st = .releasing ∨ st = .released then withdraw cs.1 cs.2 s else s

/-- The withdrawal at an update of unknown sheave speed in BOARDING (R116). DESIGN CHOICE (log 31): the records are
taken in the order A-LEFT, A-RIGHT, B-LEFT, B-RIGHT. -/
def judgeWithdrawal (s : State) : State :=
  if s.hlc.state = .boarding ∧ s.moe.last.known = false then carSides.foldl withdrawReleased s else s

/-! ### Reports (R104, R109, R112–R114) -/

/-- A record judged against its side of a report. The second result says that this has tripped the haul. -/
def judgeSide (car : Car) (side : Side) (x : SideStatus) (s : State) : State × Bool :=
  let r := s.dru.door car side
  match r.state with
  | .locked =>
    if x.secure then (s, false)
    else
      let st := s.hlc.state
      if st = .running ∨ st = .serviceStop then
        (faultDoor car side .unexpected st (trip .doorOpenMoving s), true)
      else (faultDoor car side .unexpected st s, false)
  | .releasing => (if x.secure then s else settleDoor car side .released s, false)
  | .released => (s, false)
  | .closing =>
    if x.secure then (settleDoor car side .locked s, false)
    else if x.obstructed then
      (raise .doorObstructed (detailBBW (carCode car) (sideCode side)
        (BitVec.ofNat 16 (sat16 (match r.timer with
          | some t => t.left s.clock
          | none => 0)))) s, false)
    else (s, false)
  | .fault => (if x.secure then settleDoor car side .locked s else s, false)

/-- The report unlocks a door of the car whose record is LOCKED (R99, R114). -/
def State.unlocks (s : State) (car : Car) (left right : SideStatus) : Bool :=
  ((s.dru.door car .left).state == .locked && !left.secure) ||
    ((s.dru.door car .right).state == .locked && !right.secure)

/-- The report stored, with its freshness expiry (R104). -/
def storeReport (car : Car) (left right : SideStatus) (s : State) : State :=
  s.withDru (s.dru.setReports car
    { report := some { left := left, right := right, arrival := s.clock },
      expiry := s.line.map fun l => { start := s.clock, dur := l.tDoorFresh } })

/-- A door report taken (R104), the return of an armed haul standing before the judgements (R99). -/
def takeDoorReport (car : Car) (left right : SideStatus) (s : State) : State :=
  let s1 := storeReport car left right s
  let s2 := if s1.hlc.state = .armed ∧ s1.unlocks car left right then returnToOrigin s1 else s1
  let (s3, t1) := judgeSide car .left left s2
  let (s4, t2) := judgeSide car .right right s3
  judgeMovingOpen (t1 || t2) s4

/-! ### Requests (R106, R107, R111) -/

/-- The results of door requests (R106). -/
inductive DoorResult
  | accepted
  | state
  | moving
  | position
  | noPlatform
  | busy
  | badRequest
  deriving DecidableEq, Repr

/-- The result codes of R106. -/
def DoorResult.code : DoorResult → Byte
  | .accepted => 0x00
  | .state => 0x01
  | .moving => 0x0C
  | .position => 0x0D
  | .noPlatform => 0x0E
  | .busy => 0x0F
  | .badRequest => 0x10

/-- A platform side serves a door side (R107). -/
def Platform.serves : Platform → Side → Bool
  | .none, _ => false
  | .left, .left => true
  | .left, .right => false
  | .right, .left => false
  | .right, .right => true
  | .both, _ => true

/-- The berth gives the car a platform on the side (R107). -/
def State.platformAt (s : State) (car : Car) (side : Side) : Bool :=
  match s.hlc.berth.bind (fun i => s.stops[i]?) with
  | some st => (st.platform car).serves side
  | none => false

/-- The checks of OPEN, in order (R107). -/
def State.openResult (s : State) (car : Car) (side : Side) : DoorResult :=
  if s.hlc.state ≠ .boarding then .state
  else if !s.moe.still then .moving
  else if !s.moe.status.trusted then .position
  else if !s.platformAt car side then .noPlatform
  else if (s.dru.door car side).state ≠ .locked then .busy
  else .accepted

/-- OPEN for a car-side (R107). -/
def openDoor (car : Car) (side : Side) (s : State) : DoorResult × State :=
  match s.openResult car side with
  | .accepted => (.accepted, judgeMovingOpen false (startRelease car side (placeDoor car side .release s)))
  | r => (r, s)

/-- CLOSE for a car-side (R111): accepted in every state. -/
def closeDoor (car : Car) (side : Side) (s : State) : DoorResult × State :=
  (.accepted, match (s.dru.door car side).state with
    | .locked => s
    | .releasing => withdraw car side s
    | .released => withdraw car side s
    | .closing => placeDoor car side .withdraw s
    | .fault => withdraw car side s)

/-- A door request decided (R106). -/
def decideDoor (car side action : Byte) (s : State) : DoorResult × State :=
  match carOf car, sideOf side with
  | some c, some d =>
    if action = 1 then openDoor c d s
    else if action = 2 then closeDoor c d s
    else (.badRequest, s)
  | _, _ => (.badRequest, s)

end Sys2Proof.Machine
end

