-- ==== Sys2Proof/Machine/Motion.lean ====
section
/-! DEFINITION. The Motion Estimator's arithmetic (R8–R13) and the motion update with what each block does at it
(R10). -/

namespace Sys2Proof.Machine

/-! ### Speed arithmetic (R8, R9) -/

/-- The count difference of two samples, modulo 2³² and signed. -/
def countDiff (newer older : Sample) : Int := (newer.count - older.count).toInt

/-- The tick difference of two samples, modulo 2¹⁶ and unsigned. -/
def tickDiff (newer older : Sample) : Nat := (newer.tick - older.tick).toNat

/-- The first entry of a window whose tick differs from the newest one's (R8). -/
def windowOldest (newest : Sample) : List Sample → Option Sample
  | [] => none
  | x :: rest => if tickDiff newest x = 0 then windowOldest newest rest else some x

/-- The newest m entries of a history, oldest first. -/
def newestOf (m : Nat) (h : List Sample) : List Sample := h.drop (h.length - m)

/-- A speed limited to ±32,767, and whether it was limited (R9). -/
def limitSpeed (v : Int) : Int × Bool :=
  if 32767 < v then (32767, true) else if v < -32767 then (-32767, true) else (v, false)

/-- The estimate over a count and a tick difference (R9). -/
def estimateOver (cl : ChannelLine) (dc : Int) (dt : Nat) : Int × Bool :=
  limitSpeed ((cl.sign * dc * cl.scale * 10).tdiv dt)

/-- The estimate of a history (R8, R9); none of fewer than two entries. -/
def estimateOf (cl : ChannelLine) (h : List Sample) : Option (Int × Bool) :=
  match h.getLast? with
  | some newest =>
    (windowOldest newest (newestOf cl.window h)).map fun oldest =>
      estimateOver cl (countDiff newest oldest) (tickDiff newest oldest)
  | none => none

/-- A channel with its estimate and SATURATED formed from its history. -/
def Channel.estimated (c : Channel) (cl : ChannelLine) : Channel :=
  match estimateOf cl c.history with
  | some (v, sat) => { c with estimate := some v, saturated := sat }
  | none => { c with estimate := none, saturated := false }

/-! ### The line speed and its companions (R10) -/

/-- The estimate a channel contributes: that of a FRESH channel. -/
def Channel.contribution (c : Channel) : Option Int := if c.state = .fresh then c.estimate else none

/-- The magnitude a channel contributes to V. -/
def Channel.magnitude (c : Channel) : Nat :=
  match c.contribution with
  | some v => v.natAbs
  | none => 0

/-- V. -/
def Moe.lineSpeed (m : Moe) : Nat :=
  max (max m.s1.magnitude m.s2.magnitude) (max m.ca.magnitude m.cb.magnitude)

/-- The reference sheave estimate. -/
def Moe.sheaveEstimate (m : Moe) : Option Int :=
  match m.source with
  | some .s1 => m.s1.estimate.orElse fun _ => m.s2.contribution
  | some .s2 => m.s2.estimate.orElse fun _ => m.s1.contribution
  | none => none

/-- The actual direction. -/
def directionOf : Option Int → Direction
  | some v => if 0 < v then .up else if v < 0 then .down else .none
  | none => .none

/-- The values of a motion update as they stand. -/
def Moe.motion (m : Moe) : Motion :=
  { v := m.lineSpeed, known := m.sheaveEstimate.isSome, dir := directionOf m.sheaveEstimate, posA := m.posA,
    held := m.held, status := m.status, still := m.still }

/-! ### Position (R11–R13) -/

/-- The position of a sheave channel: none without a history (R11). -/
def Moe.position (m : Moe) (l : Line) (sh : Sheave) : Option Int :=
  ((m.channel sh.channel).history.getLast?).map fun newest =>
    let r := m.reference sh
    let cl := l.channel sh.channel
    limit32 (r.pos + ((newest.count - r.count).toInt * cl.scale * cl.sign).tdiv 1000)

/-- A sheave channel re-based at a position; one without a history stays as it is (R11). -/
def Moe.rebase (m : Moe) (sh : Sheave) (pos : Int) : Moe :=
  match (m.channel sh.channel).history.getLast? with
  | some newest => m.setReference sh { count := newest.count, pos := pos }
  | none => m

/-- Both sheave channels re-based at a position, which posA becomes (R14, R16). -/
def Moe.moveTo (m : Moe) (pos : Int) : Moe := { (m.rebase .s1 pos).rebase .s2 pos with posA := pos }

/-- posA follows the source's position (R12). -/
def Moe.follow (m : Moe) (l : Line) (sh : Sheave) : Moe :=
  if m.source = some sh then
    match m.position l sh with
    | some p => { m with posA := p }
    | none => m
  else m

/-- The source that R12 chooses. -/
def Moe.choice (m : Moe) : Option Sheave :=
  if m.s1.state = .fresh then some .s1 else if m.s2.state = .fresh then some .s2 else none

/-- The source re-chosen: a new source is re-based at posA (R12), and the gap mark is set or spent (R13). -/
def Moe.chooseSource (m : Moe) : Moe :=
  match m.choice with
  | some sh =>
    let m1 := if m.source = some sh then m else m.rebase sh m.posA
    if m.gap then { m1 with source := some sh, status := .suspect, gap := false }
    else { m1 with source := some sh }
  | none => { m with source := none, gap := m.gap || (m.source.isSome && m.status.trusted) }

/-! ### STILL (R18) -/

/-- The still condition judged at a motion update. -/
def judgeStill (s : State) : State :=
  let m := s.moe
  s.withMoe (
    if s.stillCondition m.motion then
      if m.candidate.isSome then m
      else { m with candidate := some s.clock,
                    stillTimer := some { start := s.clock, dur := s.param (·.tStill) 0 } }
    else { m with candidate := none, stillTimer := none, still := false })

/-- The update's values stored. -/
def storeMotion (s : State) : State := s.withMoe { s.moe with last := s.moe.motion }

/-! ### What each block does at a motion update (R10) -/

/-- The Envelope Unit: frozen at a SUSPECT status in NORMAL (R35), evaluated otherwise (R27). -/
def envUpdate (s : State) : State :=
  if s.freezes then demand .positionSuspect (evaluateIn .frozen s) else envEvaluate s

/-- The Brake Supervisor: tiers, overrun, loss of sheave speed, brake test, end of supervision. -/
def brsUpdate (s : State) : State :=
  let s1 := judgeTier s
  let s2 := if s.hlc.state ≠ .tripped ∧ s1.overruns then trip .overrun s1 else s1
  let s3 := judgeTest (judgeLoss s2)
  if s3.moe.last.still then s3.withBrs { s3.brs with sup := s3.brs.sup.ended } else s3

/-- The Door Release Unit: door open while moving, then the withdrawal (R10). DEDUCED (log 35): the withdrawal reads the
haul state as R115 has left it, so an update that R115 trips out of BOARDING withdraws nothing. -/
def druUpdate (s : State) : State := judgeWithdrawal (judgeMovingOpen false s)

/-- ARRIVED with its detail (R95, R96). -/
def raiseArrived (stop : Nat) (via : Byte) (s : State) : State :=
  let x := match s.stops[stop]? with
    | some st => st.pos
    | none => 0
  raise .arrived (detailBBW (byteOf stop) via (BitVec.ofInt 16 (s.moe.last.posA - x))) s

/-- The end of a service stop (R95). -/
def endServiceStop (s : State) : State :=
  match s.berthing s.moe.last.posA with
  | some i => raiseArrived i 2 (enterRest .boarding (some i) false s)
  | none => enterRest .parked none false s

/-- posA lies in the target's window (R96). -/
def State.atTarget (s : State) : Bool :=
  match s.hlc.target.bind (fun i => s.stops[i]?) with
  | some st => st.contains s.moe.last.posA
  | none => false

/-- The arrival of a run (R96). -/
def arrive (s : State) : State :=
  match s.hlc.target with
  | some i => raiseArrived i 1 (enterRest .boarding (some i) false s)
  | none => s

/-- The Haul Controller: the end of a service stop, or the arrival of a run. -/
def hlcUpdate (s : State) : State :=
  if s.moe.last.still then
    if s.hlc.state = .serviceStop then endServiceStop s
    else if s.hlc.state = .running ∧ s.atTarget then arrive s
    else s
  else s

/-- A motion update: STILL is judged, the values are fixed, and the four blocks take them in order (R10, R18). -/
def motionUpdate (s : State) : State :=
  hlcUpdate (druUpdate (brsUpdate (envUpdate (storeMotion (judgeStill s)))))

end Sys2Proof.Machine
end

