-- ==== Sys2Proof/Machine/Samples.lean ====
section
/-! DEFINITION. Taking a sample, the expiry of a channel, the cross-checks and the still timer (R4–R7, R17–R20). -/

namespace Sys2Proof.Machine

/-! ### The checks of R4 -/

/-- The plausibility check against the newest entry. -/
def implausible (l : Line) (cl : ChannelLine) (x newest : Sample) : Bool :=
  decide (2 * l.vTripAbs < (countDiff x newest).natAbs * cl.scale * 10 / tickDiff x newest)

/-- The first check a sample fails, if any. -/
def discardOf (l : Line) (cl : ChannelLine) (c : Channel) (x : Sample) (health : Byte) :
    Option ChannelCounter :=
  if health ≠ 1 then some .unhealthy
  else if c.state = .fresh then
    match c.history.getLast? with
    | some newest =>
      if x.tick = newest.tick then some .duplicate
      else if implausible l cl x newest then some .implausible
      else none
    | none => none
  else none

/-! ### The cross-checks -/

/-- The divergence check (R17). -/
def judgeDivergence (l : Line) (s : State) : State :=
  let m := s.moe
  match m.position l .s1, m.position l .s2 with
  | some p1, some p2 =>
    if m.s1.state = .fresh ∧ m.s2.state = .fresh ∧ m.status.trusted ∧ l.corrMax < (p1 - p2).natAbs then
      raise .positionDiverge (BitVec.ofInt 32 (limit32 (p1 - p2))) (s.withMoe { m with status := .suspect })
    else s
  | _, _ => s

/-- A persistent condition at a sample's arrival: its record, and whether it is to be reported now. -/
def Persistence.judged (p : Persistence) (holds : Bool) (now : Time) (limit : Nat) : Persistence × Bool :=
  if holds then
    let start := p.start.getD now
    if !p.reported && decide (limit ≤ since start now) then ({ start := some start, reported := true }, true)
    else ({ p with start := some start }, false)
  else (.clear, false)

/-- The disagreement check (R19). -/
def judgeDisagree (l : Line) (s : State) : State :=
  match s.moe.s1.contribution, s.moe.s2.contribution with
  | some v1, some v2 =>
    let (p, report) := s.moe.disagree.judged (decide (l.tolSheave < (v1 - v2).natAbs)) s.clock l.tDisagree
    let s1 := s.withMoe { s.moe with disagree := p }
    if report then
      demand .disagree (raise .sensorDisagree (detailWW (BitVec.ofInt 16 v1) (BitVec.ofInt 16 v2)) s1)
    else s1
  | _, _ => s.withMoe { s.moe with disagree := .clear }

/-- A car's slip record. -/
def Moe.slip (m : Moe) : Car → Persistence
  | .a => m.slipA
  | .b => m.slipB

/-- The Motion Estimator with a car's slip record replaced. -/
def Moe.setSlip (m : Moe) (car : Car) (p : Persistence) : Moe :=
  match car with
  | .a => { m with slipA := p }
  | .b => { m with slipB := p }

/-- A car's channel. -/
def carChannel : Car → ChannelId
  | .a => .ca
  | .b => .cb

/-- The slip check of a car (R20). -/
def judgeSlip (l : Line) (car : Car) (s : State) : State :=
  match (s.moe.channel (carChannel car)).contribution, s.moe.sheaveEstimate with
  | some vCar, some vRef =>
    let (p, report) := (s.moe.slip car).judged (decide (l.slipTol < (vCar - vRef).natAbs)) s.clock l.tSlip
    let s1 := s.withMoe (s.moe.setSlip car p)
    if report then
      demand .slip (raise .ropeSlip
        (detailBBW (carCode car) 0 (BitVec.ofInt 16 (limitTo 32767 (vCar - vRef)))) s1)
    else s1
  | _, _ => s.withMoe (s.moe.setSlip car .clear)

/-! ### Acceptance (R5, R6) -/

/-- A channel after an accepted sample: appended to the history of a FRESH channel, of which it keeps the newest
eight (R5), or the single entry of a restarted one (R6). -/
def Channel.accept (c : Channel) (cl : ChannelLine) (limit : Nat) (x : Sample) (now : Time) : Channel :=
  let fresh := c.state = .fresh
  ({ c with
      state := .fresh, history := if fresh then newestOf 8 (c.history ++ [x]) else [x],
      lastArrival := some now, expiry := some { start := now, dur := limit } } : Channel).estimated cl

/-- The sheave a channel belongs to. -/
def sheaveOf : ChannelId → Option Sheave
  | .s1 => some .s1
  | .s2 => some .s2
  | .ca => none
  | .cb => none

/-- The car a channel belongs to. -/
def carOfChannel : ChannelId → Option Car
  | .s1 => none
  | .s2 => none
  | .ca => some .a
  | .cb => some .b

/-- The position of a sheave channel after an accepted sample: a restarted channel is re-based at posA and the
source is re-chosen (R6); otherwise posA follows the source (R5, R12). -/
def Moe.settlePosition (m : Moe) (l : Line) (sh : Sheave) (restarted : Bool) : Moe :=
  if restarted then (m.rebase sh m.posA).chooseSource else m.follow l sh

/-- The checks that follow an accepted sample (R5, R17, R19, R20). DEDUCED (log 29): of the two of an S sample, the
divergence check stands first, in the order of the rules, so POSITION_DIVERGE is raised before SENSOR_DISAGREE. -/
def crossCheck (l : Line) (ch : ChannelId) (s : State) : State :=
  match carOfChannel ch with
  | some car => judgeSlip l car s
  | none => judgeDisagree l (judgeDivergence l s)

/-- A sample accepted on a channel (R5, R6). -/
def acceptSample (l : Line) (ch : ChannelId) (x : Sample) (s : State) : State :=
  let c := s.moe.channel ch
  let m1 := (s.moe.setChannel ch (c.accept (l.channel ch) (l.stale ch) x s.clock)).count (.channel ch .accepted)
  let m2 := match sheaveOf ch with
    | some sh => m1.settlePosition l sh (decide (c.state ≠ .fresh))
    | none => m1
  motionUpdate (crossCheck l ch (s.withMoe m2))

/-- A sample handed to the Motion Estimator for a channel (R2, R4). -/
def takeSample (ch : ChannelId) (x : Sample) (health : Byte) (s : State) : State :=
  match s.line with
  | none => countMotion .noLine s
  | some l =>
    match discardOf l (l.channel ch) (s.moe.channel ch) x health with
    | some why => countMotion (.channel ch why) s
    | none => acceptSample l ch x s

/-- The sample fields of a payload (R170). -/
def sampleOf (p : List Byte) : Sample := { count := longAt p 0, tick := wordAt p 4 }

/-! ### Expiry (R7) -/

/-- A channel that has expired. -/
def Channel.expired (c : Channel) : Channel :=
  { c with state := .stale, history := [], expiry := none, estimate := none, saturated := false }

/-- The further effects of an expiry, by channel. -/
def afterExpiry (ch : ChannelId) (s : State) : State :=
  match carOfChannel ch with
  | some car =>
    raise .carChannelLost (detail4 (carCode car) 0 0 0) (s.withMoe (s.moe.setSlip car .clear))
  | none => s.withMoe ({ s.moe with disagree := .clear } : Moe).chooseSource

/-- A channel expires, without the motion update. -/
def expireChannel (ch : ChannelId) (s : State) : State :=
  afterExpiry ch (s.withMoe ((s.moe.setChannel ch (s.moe.channel ch).expired).count (.channel ch .expired)))

/-- The expiry of a FRESH channel that the line clock has reached. -/
def State.channelDue (s : State) (ch : ChannelId) : Bool :=
  (s.moe.channel ch).state == .fresh && due (s.moe.channel ch).expiry s.clock

/-- The expiry of a channel (R7). -/
def channelExpiry (ch : ChannelId) (s : State) : State :=
  if s.channelDue ch then motionUpdate (expireChannel ch s) else s

/-! ### The still timer (R18) -/

/-- The expiry of the still timer with a candidate present. -/
def stillTimerExpiry (s : State) : State :=
  if due s.moe.stillTimer s.clock && s.moe.candidate.isSome then
    motionUpdate (s.withMoe { s.moe with still := true, stillTimer := none })
  else s

end Sys2Proof.Machine
end

