-- ==== Sys2Proof/Machine/Markers.lean ====
section
/-! DEFINITION. Marker frames (R15, R16). -/

namespace Sys2Proof.Machine

/-- The lowest-indexed entry with an id (R15). -/
def findMarker (id : Byte) : List MarkerEntry → Option MarkerEntry
  | [] => none
  | m :: rest => if m.id = id then some m else findMarker id rest

/-- An unknown marker (R15). -/
def markerUnknown (id car : Byte) (s : State) : State :=
  raise .markerMismatch (detail4 0 id car 0) (countMotion .markerUnknown s)

/-- The posA that a marker implies: x for car A, L − x for car B (R15). -/
def impliedPos (l : Line) (x : Int) : Car → Int
  | .a => x
  | .b => l.length - x

/-- An applied marker (R16). -/
def applyMarker (implied diff : Int) (c : MotionCounter) (s : State) : State :=
  motionUpdate (raise .markerCorrected (BitVec.ofInt 32 (limit32 diff))
    (s.withMoe { (s.moe.moveTo implied).count c with status := .corrected }))

/-- A rejected marker (R16). -/
def rejectMarker (diff : Int) (s : State) : State :=
  motionUpdate (raise .markerMismatch ((1 : Byte) ++ BitVec.ofInt 24 (limitTo 8388607 diff))
    (s.withMoe { s.moe.count .markerRejected with status := .suspect }))

/-- A known marker taken while the position is not HELD (R16). -/
def judgeMarker (l : Line) (implied : Int) (s : State) : State :=
  let diff := implied - s.moe.posA
  if s.moe.status.trusted then
    if diff.natAbs ≤ l.corrMax then applyMarker implied diff .markerCorrected s else rejectMarker diff s
  else applyMarker implied diff .markerSet s

/-- A marker handed to the Motion Estimator (R15). -/
def takeMarker (id car : Byte) (s : State) : State :=
  match carOf car, findMarker id (s.mga.active.marker.getD []) with
  | some c, some e =>
    if s.moe.held then countMotion .markerHeldIgnored s
    else match s.line with
      | some l => judgeMarker l (impliedPos l e.x c) s
      | none => s
  | _, _ => markerUnknown id car s

end Sys2Proof.Machine
end

