-- ==== Sys2Proof/Machine/Tables.lean ====
section
/-! DEFINITION. The eight tables: codes and sizes (R171), entry forms and ranges (R172, R173), validation (R176),
and the typed entries in the form LOAD carries. -/

namespace Sys2Proof.Machine

/-! ### Codes and sizes (R171) -/

/-- The eight tables in code order. -/
def allTables : List TableId := [.node, .stop, .profile, .line, .marker, .product, .hotlist, .reportLevel]

/-- The place of a table, its code less 1. -/
def TableId.idx : TableId → Fin 8
  | .node => 0
  | .stop => 1
  | .profile => 2
  | .line => 3
  | .marker => 4
  | .product => 5
  | .hotlist => 6
  | .reportLevel => 7

/-- A table's code. -/
def TableId.code (t : TableId) : Byte := byteOf (t.idx.val + 1)

/-- The table a code names. -/
def tableOf (b : Byte) : Option TableId := if b = 0 then none else allTables[b.toNat - 1]?

/-- A table's capacity in entries. -/
def TableId.capacity : TableId → Nat
  | .node => 62
  | .stop => 8
  | .profile => 48
  | .line => 3
  | .marker => 32
  | .product => 32
  | .hotlist => 512
  | .reportLevel => 30

/-- The fewest entries of a valid table; the most is the capacity. -/
def TableId.least : TableId → Nat
  | .node => 62
  | .stop => 2
  | .profile => 1
  | .line => 3
  | .marker => 0
  | .product => 0
  | .hotlist => 0
  | .reportLevel => 30

/-- The bytes of entry i. -/
def TableId.entrySize : TableId → Nat → Nat
  | .node, _ => 4
  | .stop, _ => 8
  | .profile, _ => 8
  | .line, i => if i = 0 then 40 else if i = 1 then 46 else 25
  | .marker, _ => 5
  | .product, _ => 7
  | .hotlist, _ => 4
  | .reportLevel, _ => 1

/-- A mask names a table. -/
def names (mask : Byte) (t : TableId) : Bool := mask.getLsbD t.idx.val

/-- A mask of haul tables alone: no bit above 0x1F. -/
def haulMask (mask : Byte) : Bool := mask &&& 0xE0 == 0

/-- A shadow. -/
def Mga.shadow (m : Mga) (t : TableId) : Shadow := m.shadows[t.idx]

/-- The Management Agent with a shadow replaced. -/
def Mga.setShadow (m : Mga) (t : TableId) (x : Shadow) : Mga := { m with shadows := m.shadows.set t.idx x }

/-! ### Ranges (R172, R173) -/

/-- A field of an entry: a number of some bytes with its range, or a sign byte. -/
inductive Field
  | num (width lo hi : Nat)
  | sign
  deriving DecidableEq, Repr

/-- A run of bytes as an unsigned number, most significant byte first. -/
def natOf (bs : List Byte) : Nat := bs.foldl (fun n b => n * 256 + b.toNat) 0

/-- The bytes of a field. -/
def Field.width : Field → Nat
  | .num w _ _ => w
  | .sign => 1

/-- The bytes of a field lie in its range. A signed field whose range starts at 0 or above is read unsigned: its
negative values exceed every range. -/
def Field.holds : Field → List Byte → Bool
  | .num _ lo hi, bs => decide (lo ≤ natOf bs) && decide (natOf bs ≤ hi)
  | .sign, bs => natOf bs == 1 || natOf bs == 255

/-- Every field of an entry lies in its range. -/
def fieldsHold : List Field → List Byte → Bool
  | [], _ => true
  | f :: fs, bs => f.holds (bs.take f.width) && fieldsHold fs (bs.drop f.width)

/-- The three fields of a channel in section 0. -/
def channelFields : List Field := [.num 2 1 65535, .sign, .num 1 2 8]

/-- The fields of a LINE section (R173). -/
def lineFields : Nat → List Field
  | 0 => [.num 4 10000 4000000, .num 2 100 5000] ++ channelFields ++ channelFields ++ channelFields ++
      channelFields ++ [.num 2 5 200, .num 2 20 1000, .num 2 5 200, .num 2 100 5000, .num 2 10 2000,
      .num 2 50 2000, .num 2 50 3000, .num 2 100 5000, .num 2 10 5000]
  | 1 => [.num 2 100 1500, .num 2 100 1500, .num 2 1000 14000, .num 2 0 5000, .num 2 0 500, .num 2 0 500,
      .num 2 0 500, .num 2 0 2000, .num 2 0 2000, .num 2 0 2000, .num 2 1000 16000, .num 2 100 3000,
      .num 2 100 2000, .num 4 0 100000, .num 4 0 100000, .num 4 0 100000, .num 2 100 3000, .num 2 100 3000,
      .num 2 100 3000, .num 2 100 3000]
  | _ => [.num 1 10 100, .num 1 10 100, .num 1 10 100, .num 1 10 100, .num 2 1 400, .num 2 1 400,
      .num 1 50 120, .num 1 2 30, .num 2 0 600, .num 2 100 2000, .num 2 500 10000, .num 1 2 60,
      .num 2 100 2000, .num 1 5 120, .num 2 100 3000, .num 2 100 3000, .num 1 0 60]

/-- The fields of entry i of a table, but for what `entryHolds` adds. -/
def TableId.fields : TableId → Nat → List Field
  | .node, _ => [.num 1 0 8]
  | .stop, _ => [.num 4 0 4000000, .num 2 20 500, .num 1 0 3, .num 1 0 3]
  | .profile, _ => [.num 4 0 4000000, .num 2 0 14000, .num 2 0 14000]
  | .line, i => lineFields i
  | .marker, _ => [.num 1 1 255, .num 4 0 4000000]
  | .product, _ => [.num 1 1 255, .num 1 0 255, .num 1 0 1, .num 2 0 65535, .num 2 0 65535]
  | .hotlist, _ => [.num 4 0 4294967295]
  | .reportLevel, i => if i < 28 then [.num 1 0 3] else [.num 1 0 255]

/-- The further fields of a GATE entry: stop, car and kind. -/
def gateFields : List Field := [.num 1 0 7, .num 1 0 1, .num 1 1 2]

/-- Entry i of a table has every field in its range. -/
def entryHolds (t : TableId) (i : Nat) (bs : List Byte) : Bool :=
  fieldsHold (t.fields i) bs &&
    match t with
    | .node => byteAt bs 0 != 6 || fieldsHold gateFields (bs.drop 1)
    | .reportLevel => decide (i < 28) || decide ((byteAt bs 0).toNat < 28) || byteAt bs 0 == 0xFF
    | _ => true

/-- The first entry, from index i on, that fails a test of its index and bytes. -/
def firstFailing (ok : Nat → List Byte → Bool) : Nat → List (List Byte) → Option Nat
  | _, [] => none
  | i, e :: rest => if ok i e then firstFailing ok (i + 1) rest else some i

/-! ### Typed entries -/

/-- A role code (R172); codes above 8 are refused by validation. -/
def roleOfCode (b : Byte) : Role :=
  match b.toNat with
  | 1 => .sheaveS1
  | 2 => .sheaveS2
  | 3 => .carA
  | 4 => .carB
  | 5 => .markerReader
  | 6 => .gate
  | 7 => .console
  | 8 => .drive
  | _ => .unused

/-- The code of a role. -/
def Role.code : Role → Byte
  | .unused => 0
  | .sheaveS1 => 1
  | .sheaveS2 => 2
  | .carA => 3
  | .carB => 4
  | .markerReader => 5
  | .gate => 6
  | .console => 7
  | .drive => 8

/-- A platform side code (R172). -/
def platformOfCode (b : Byte) : Platform :=
  match b.toNat with
  | 1 => .left
  | 2 => .right
  | 3 => .both
  | _ => .none

/-- The code of a platform side. -/
def Platform.code : Platform → Byte
  | .none => 0
  | .left => 1
  | .right => 2
  | .both => 3

/-- A NODE entry. -/
def nodeOfBytes (bs : List Byte) : Node :=
  { role := roleOfCode (byteAt bs 0), stop := byteAt bs 1, car := byteAt bs 2, kind := byteAt bs 3 }

/-- A NODE entry as LOAD carries it. -/
def Node.bytes (x : Node) : List Byte := [x.role.code, x.stop, x.car, x.kind]

/-- A STOP entry. -/
def stopOfBytes (bs : List Byte) : Stop :=
  { pos := intAt32 bs 0, half := natAt16 bs 4, sideA := platformOfCode (byteAt bs 6),
    sideB := platformOfCode (byteAt bs 7) }

/-- A STOP entry as LOAD carries it. -/
def Stop.bytes (x : Stop) : List Byte := beInt32 x.pos ++ be16 x.half ++ [x.sideA.code, x.sideB.code]

/-- A PROFILE entry. -/
def segmentOfBytes (bs : List Byte) : Segment :=
  { start := intAt32 bs 0, up := natAt16 bs 4, down := natAt16 bs 6 }

/-- A PROFILE entry as LOAD carries it. -/
def Segment.bytes (x : Segment) : List Byte := beInt32 x.start ++ be16 x.up ++ be16 x.down

/-- A MARKER entry. -/
def markerOfBytes (bs : List Byte) : MarkerEntry := { id := byteAt bs 0, x := intAt32 bs 1 }

/-- A MARKER entry as LOAD carries it. -/
def MarkerEntry.bytes (e : MarkerEntry) : List Byte := [e.id] ++ beInt32 e.x

/-- A PRODUCT entry. -/
def productOfBytes (bs : List Byte) : Product :=
  { code := byteAt bs 0, mask := byteAt bs 1, decrement := byteAt bs 2 == 1, first := natAt16 bs 3,
    last := natAt16 bs 5 }

/-- A PRODUCT entry as LOAD carries it. -/
def Product.bytes (x : Product) : List Byte :=
  [x.code, x.mask, flagByte x.decrement] ++ be16 x.first ++ be16 x.last

/-- A sign byte: 0x01 for +1, 0xFF for −1 (R173). -/
def signOfByte (b : Byte) : Int := if b = 1 then 1 else -1

/-- A sign as its byte. -/
def signByte (x : Int) : Byte := if x = 1 then 1 else 0xFF

/-- The fields of a channel at an offset of section 0. -/
def channelLineAt (bs : List Byte) (i : Nat) : ChannelLine :=
  { scale := natAt16 bs i, sign := signOfByte (byteAt bs (i + 2)), window := (byteAt bs (i + 3)).toNat }

/-- The fields of a channel as LOAD carries them. -/
def ChannelLine.bytes (x : ChannelLine) : List Byte := be16 x.scale ++ [signByte x.sign, byteOf x.window]

/-- The LINE record of three sections (R173). -/
def lineOfSections (a b c : List Byte) : Line :=
  { length := natAt32 a 0, overrun := natAt16 a 4, s1 := channelLineAt a 6, s2 := channelLineAt a 10,
    ca := channelLineAt a 14, cb := channelLineAt a 18, tStaleSheave := natAt16 a 22, tStaleCar := natAt16 a 24,
    vStill := natAt16 a 26, tStill := natAt16 a 28, tolSheave := natAt16 a 30, tDisagree := natAt16 a 32,
    slipTol := natAt16 a 34, tSlip := natAt16 a 36, corrMax := natAt16 a 38,
    vCreep := natAt16 b 0, vLand := natAt16 b 2, vLineMax := natAt16 b 4, stopMargin := natAt16 b 6,
    pw := natAt16 b 8, ps := natAt16 b 10, pe := natAt16 b 12, cw := natAt16 b 14, cs := natAt16 b 16,
    ce := natAt16 b 18, vTripAbs := natAt16 b 20, aMin := natAt16 b 22, tSup := natAt16 b 24,
    th1 := natAt32 b 26, th2 := natAt32 b 30, th3 := natAt32 b 34,
    aRef := #v[natAt16 b 38, natAt16 b 40, natAt16 b 42, natAt16 b 44],
    pct := #v[(byteAt c 0).toNat, (byteAt c 1).toNat, (byteAt c 2).toNat, (byteAt c 3).toNat],
    capA := natAt16 c 4, capB := natAt16 c 6, mPass := (byteAt c 8).toNat, tGrant := (byteAt c 9).toNat,
    tPassback := natAt16 c 10, tDoorFresh := natAt16 c 12, tDoorRelease := natAt16 c 14,
    tDoorClose := (byteAt c 16).toNat, tDriveFresh := natAt16 c 17, tArm := (byteAt c 19).toNat,
    aTestSvc := natAt16 c 20, aTestEmg := natAt16 c 22, tBeacon := (byteAt c 24).toNat }

/-- The three sections of a LINE record as LOAD carries them. -/
def Line.sections (l : Line) : List (List Byte) :=
  [be32 l.length ++ be16 l.overrun ++ l.s1.bytes ++ l.s2.bytes ++ l.ca.bytes ++ l.cb.bytes ++
    be16 l.tStaleSheave ++ be16 l.tStaleCar ++ be16 l.vStill ++ be16 l.tStill ++ be16 l.tolSheave ++
    be16 l.tDisagree ++ be16 l.slipTol ++ be16 l.tSlip ++ be16 l.corrMax,
   be16 l.vCreep ++ be16 l.vLand ++ be16 l.vLineMax ++ be16 l.stopMargin ++ be16 l.pw ++ be16 l.ps ++
    be16 l.pe ++ be16 l.cw ++ be16 l.cs ++ be16 l.ce ++ be16 l.vTripAbs ++ be16 l.aMin ++ be16 l.tSup ++
    be32 l.th1 ++ be32 l.th2 ++ be32 l.th3 ++ be16 l.aRef[0] ++ be16 l.aRef[1] ++ be16 l.aRef[2] ++
    be16 l.aRef[3],
   [byteOf l.pct[0], byteOf l.pct[1], byteOf l.pct[2], byteOf l.pct[3]] ++ be16 l.capA ++ be16 l.capB ++
    [byteOf l.mPass, byteOf l.tGrant] ++ be16 l.tPassback ++ be16 l.tDoorFresh ++ be16 l.tDoorRelease ++
    [byteOf l.tDoorClose] ++ be16 l.tDriveFresh ++ [byteOf l.tArm] ++ be16 l.aTestSvc ++ be16 l.aTestEmg ++
    [byteOf l.tBeacon]]

/-- The LINE record of a list of entries, which validation has found to be three. -/
def lineOfEntries : List (List Byte) → Option Line
  | [a, b, c] => some (lineOfSections a b c)
  | _ => none

/-! ### Order and roles (R176) -/

/-- A role that one entry at most may hold. -/
def Role.single : Role → Bool
  | .unused => false
  | .markerReader => false
  | .gate => false
  | _ => true

/-- The first NODE entry that fails: the entry of OA with a role, or a second holder of a single role. -/
def failingNode (oa : Byte) : Nat → List Role → List Node → Option Nat
  | _, _, [] => none
  | i, seen, x :: rest =>
    if (byteOf (i + 1) = oa ∧ x.role ≠ .unused) ∨ (x.role.single ∧ x.role ∈ seen) then some i
    else failingNode oa (i + 1) (x.role :: seen) rest

/-- The first value, from index i on, that does not exceed the one before it. -/
def failingRise : Nat → Option Int → List Int → Option Nat
  | _, _, [] => none
  | i, before, x :: rest =>
    match before with
    | some y => if y < x then failingRise (i + 1) (some x) rest else some i
    | none => failingRise (i + 1) (some x) rest

/-- The starts of a PROFILE: the first must be 0, and each must exceed the one before. -/
def failingStart : List Int → Option Nat
  | [] => none
  | x :: rest => if x = 0 then failingRise 0 none (x :: rest) else some 0

/-- The section of the first broken relation of R173. -/
def failingRelation (l : Line) : Option Nat :=
  if ¬(l.pw < l.ps ∧ l.ps < l.pe) then some 1
  else if ¬(l.cw ≤ l.cs ∧ l.cs ≤ l.ce) then some 1
  else if ¬(l.th1 < l.th2 ∧ l.th2 < l.th3) then some 1
  else if ¬(l.aRef[1] ≤ l.aRef[0] ∧ l.aRef[2] ≤ l.aRef[1] ∧ l.aRef[3] ≤ l.aRef[2]) then some 1
  else if ¬(l.pct[1] ≤ l.pct[0] ∧ l.pct[2] ≤ l.pct[1] ∧ l.pct[3] ≤ l.pct[2]) then some 2
  else if ¬(l.vLand ≤ l.vLineMax) then some 1
  else if ¬(l.vCreep ≤ l.vLineMax) then some 1
  else none

/-- The express slots of a REPORTLEVEL table must differ unless either is none. -/
def failingSlots (bs : List Byte) : Option Nat :=
  if byteAt bs 28 = byteAt bs 29 ∧ byteAt bs 28 ≠ 0xFF then some 29 else none

/-- The first entry that breaks the table's own conditions. -/
def failingOrder (oa : Byte) (t : TableId) (es : List (List Byte)) : Option Nat :=
  match t with
  | .node => failingNode oa 0 [] (es.map nodeOfBytes)
  | .stop => failingRise 0 none (es.map fun e => (stopOfBytes e).pos)
  | .profile => failingStart (es.map fun e => (segmentOfBytes e).start)
  | .line => (lineOfEntries es).bind failingRelation
  | .marker => none
  | .product => failingRise 0 none (es.map fun e => ((byteAt e 0).toNat : Int))
  | .hotlist => failingRise 0 none (es.map fun e => (natAt32 e 0 : Int))
  | .reportLevel => failingSlots (es.map (byteAt · 0))

/-- The reason of a broken condition. -/
def TableId.orderReason : TableId → FailReason
  | .node => .role
  | _ => .order

/-- Validation (R176): the first failing index and its reason, or none. -/
def validate (oa : Byte) (t : TableId) (es : List (List Byte)) : Option (Nat × FailReason) :=
  if es.length < t.least ∨ t.capacity < es.length then some (es.length, .count)
  else match firstFailing (entryHolds t) 0 es with
    | some i => some (i, .range)
    | none => (failingOrder oa t es).map fun i => (i, t.orderReason)

/-! ### Active copies -/

/-- An active copy replaced by the entries of a shadow (R180). -/
def ActiveTables.put (a : ActiveTables) (t : TableId) (es : List (List Byte)) : ActiveTables :=
  match t with
  | .node => { a with node := some (es.map nodeOfBytes) }
  | .stop => { a with stop := some (es.map stopOfBytes) }
  | .profile => { a with profile := some (es.map segmentOfBytes) }
  | .line => { a with line := (lineOfEntries es).orElse fun _ => a.line }
  | .marker => { a with marker := some (es.map markerOfBytes) }
  | .product => { a with product := some (es.map productOfBytes) }
  | .hotlist => { a with hotlist := some (es.map (longAt · 0)) }
  | .reportLevel => { a with reportLevel := es.map (byteAt · 0) }

/-- The entries of an active copy in the form LOAD carries; none of an EMPTY one (R184). -/
def ActiveTables.entries (a : ActiveTables) : TableId → List (List Byte)
  | .node => (a.node.getD []).map Node.bytes
  | .stop => (a.stop.getD []).map Stop.bytes
  | .profile => (a.profile.getD []).map Segment.bytes
  | .line => match a.line with
    | some l => l.sections
    | none => []
  | .marker => (a.marker.getD []).map MarkerEntry.bytes
  | .product => (a.product.getD []).map Product.bytes
  | .hotlist => (a.hotlist.getD []).map bytes32
  | .reportLevel => a.reportLevel.map fun b => [b]

/-- A copy is ACTIVE (R171). -/
def ActiveTables.isActive (a : ActiveTables) : TableId → Bool
  | .node => a.node.isSome
  | .stop => a.stop.isSome
  | .profile => a.profile.isSome
  | .line => a.line.isSome
  | .marker => a.marker.isSome
  | .product => a.product.isSome
  | .hotlist => a.hotlist.isSome
  | .reportLevel => true

/-- The tables in force after a mask takes effect (R179, R180). -/
def Mga.after (m : Mga) (mask : Byte) : ActiveTables :=
  allTables.foldl (fun a t => if names mask t then a.put t (m.shadow t).entries else a) m.active

end Sys2Proof.Machine
end

