-- ==== Sys2Proof/Machine/Activation.lean ====
section
/-! DEFINITION. Activation: the cross-checks (R179), the taking effect (R180) with what each block does at a new
LINE record (R21, R43, R98, R105, R192), and the pending activation (R178). -/

namespace Sys2Proof.Machine

/-! ### Cross-checks (R179) -/

/-- The first element, from index i on, that fails a test. -/
def failingIndex {α : Type} (ok : α → Bool) : Nat → List α → Option Nat
  | _, [] => none
  | i, x :: rest => if ok x then failingIndex ok (i + 1) rest else some i

/-- Check 1: every car A position is at most L. -/
def check1 (a : ActiveTables) : Option Nat :=
  match a.stop, a.line with
  | some st, some l => failingIndex (fun x => decide (x.pos ≤ (l.length : Int))) 0 st
  | _, _ => none

/-- Check 2: every PROFILE start is at most L. -/
def check2 (a : ActiveTables) : Option Nat :=
  match a.profile, a.line with
  | some p, some l => failingIndex (fun x => decide (x.start ≤ (l.length : Int))) 0 p
  | _, _ => none

/-- Check 3: every ceiling is at most v_line_max. -/
def check3 (a : ActiveTables) : Option Nat :=
  match a.profile, a.line with
  | some p, some l =>
    failingIndex (fun x => decide (x.up ≤ l.vLineMax) && decide (x.down ≤ l.vLineMax)) 0 p
  | _, _ => none

/-- A GATE entry's stop is a stop of the table. -/
def gateStopHolds (st : List Stop) (x : Node) : Bool :=
  x.role != .gate || decide (x.stop.toNat < st.length)

/-- A GATE entry's car has a platform at its stop. -/
def gatePlatformHolds (st : List Stop) (x : Node) : Bool :=
  x.role != .gate ||
    match st[x.stop.toNat]?, carOf x.car with
    | some y, some c => y.platform c != .none
    | _, _ => false

/-- Check 4, by the gate's address: entry i is that of address i + 1. -/
def check4 (a : ActiveTables) : Option Nat :=
  match a.node with
  | some t => failingIndex (gateStopHolds (a.stop.getD [])) 1 t
  | none => none

/-- Check 5, by the gate's address. -/
def check5 (a : ActiveTables) : Option Nat :=
  match a.node with
  | some t => failingIndex (gatePlatformHolds (a.stop.getD [])) 1 t
  | none => none

/-- Checks 6 and 7: the capacity covers those aboard and those with a grant. DEDUCED (log 22): made whenever a LINE record
would be in force, whether or not the mask names LINE. -/
def checkCap (a : ActiveTables) (cap : Line → Nat) (held : Nat) : Option Nat :=
  match a.line with
  | some l => if held ≤ cap l then none else some (sat16 held)
  | none => none

/-- A check's failing index with its number. -/
def numbered (n : Nat) (x : Option Nat) : Option (Nat × Nat) := x.map fun i => (n, i)

/-- The first check that fails, with its number and its failing index. -/
def crossChecks (a : ActiveTables) (adu : Adu) : Option (Nat × Nat) :=
  (numbered 1 (check1 a)).orElse fun _ => (numbered 2 (check2 a)).orElse fun _ =>
  (numbered 3 (check3 a)).orElse fun _ => (numbered 4 (check4 a)).orElse fun _ =>
  (numbered 5 (check5 a)).orElse fun _ => (numbered 6 (checkCap a Line.capA (adu.held .a))).orElse fun _ =>
  numbered 7 (checkCap a Line.capB (adu.held .b))

/-! ### A new LINE record in the Motion Estimator (R21) -/

/-- A channel under a new record: its estimate recomputed of two or more entries, its expiry moved while FRESH. -/
def Channel.relined (c : Channel) (l : Line) (ch : ChannelId) : Channel :=
  let c1 := if 2 ≤ c.history.length then c.estimated (l.channel ch) else c
  if c1.state = .fresh then
    { c1 with expiry := c1.lastArrival.map fun t => { start := t, dur := l.stale ch } }
  else c1

/-- The Motion Estimator's records under a new record, before any expiry it brings. -/
def Moe.relined (m : Moe) (l : Line) : Moe :=
  let m1 := (m.rebase .s1 m.posA).rebase .s2 m.posA
  { m1 with s1 := m1.s1.relined l .s1, s2 := m1.s2.relined l .s2, ca := m1.ca.relined l .ca,
            cb := m1.cb.relined l .cb }

/-- The four channels. -/
def allChannels : List ChannelId := [.s1, .s2, .ca, .cb]

/-- A channel whose new expiry has been reached expires at once, by R7; the update follows for all of them (log 16).
DEDUCED (log 30): an at-once expiry that leaves a trusted position without a source sets the gap mark by R13. -/
def expireIfDue (s : State) (ch : ChannelId) : State := if s.channelDue ch then expireChannel ch s else s

/-- The still candidate kept under a new t_still: STILL is set where the new time has passed. -/
def Moe.restill (m : Moe) (l : Line) (now : Time) : Moe :=
  match m.candidate with
  | some t =>
    let timer : Timer := { start := t, dur := l.tStill }
    if timer.reached now then { m with still := true, stillTimer := none }
    else { m with stillTimer := some timer }
  | none => m

/-- The Motion Estimator applies a new record and forms its update. -/
def applyLineMoe (l : Line) (s : State) : State :=
  let s1 := allChannels.foldl expireIfDue (s.withMoe (s.moe.relined l))
  let m := { s1.moe with disagree := .clear, slipA := .clear, slipB := .clear }
  motionUpdate (s1.withMoe (m.restill l s1.clock))

/-! ### A new LINE record in the other blocks -/

/-- A timer that is idle once its expiry is reached. -/
def unlessReached (t : Timer) (now : Time) : Option Timer := if t.reached now then none else some t

/-- The drive expiry moved (R98); one reached at the take-effect becomes idle, without a demand at rest. -/
def applyLineDrive (l : Line) (s : State) : State :=
  match s.hlc.drive.arrival with
  | some t => s.withHlc { s.hlc with drive := { s.hlc.drive with
      expiry := unlessReached { start := t, dur := l.tDriveFresh } s.clock } }
  | none => s

/-- A car's freshness expiry moved; one reached lapses at once (R105). -/
def applyLineDoor (l : Line) (s : State) (car : Car) : State :=
  match (s.dru.reports car).report with
  | some r =>
    let t : Timer := { start := r.arrival, dur := l.tDoorFresh }
    let s1 := s.withDru (s.dru.setReports car { s.dru.reports car with expiry := some t })
    if t.reached s.clock then lapse car s1 else s1
  | none => s

/-- The notices of a new LINE record, in the order of R180. DESIGN CHOICE (log 32): car A's freshness expiry is moved,
and lapses, before car B's. -/
def applyLine (l : Line) (s : State) : State :=
  let s1 := applyLineDrive l (recomputeThresholds (applyLineMoe l s))
  setBeaconTimer l ([Car.a, Car.b].foldl (applyLineDoor l) s1)

/-! ### Taking effect (R180) -/

/-- The tables of a mask copied into the active copies. -/
def copyTables (mask : Byte) (s : State) : State := s.withMga { s.mga with active := s.mga.after mask }

/-- TABLE_ACTIVATED. -/
def raiseActivated (mask : Byte) (wasPending : Bool) (s : State) : State :=
  raise .tableActivated (detail4 mask (flagByte wasPending) s.hlc.state.code 0) s

/-- The notices that follow: of a LINE record, of a haul mask without LINE, or none. -/
def noticeTables (mask : Byte) (s : State) : State :=
  match names mask .line, s.line with
  | true, some l => applyLine l s
  | _, _ => if haulMask mask then motionUpdate s else s

/-- A mask takes effect (R180). A new REPORTLEVEL is in force before TABLE_ACTIVATED is raised (R189). DEDUCED (log 39):
TABLE_ACTIVATED is raised before the notices and their events, so it carries the haul state that stands before the
update they form. -/
def takeEffect (mask : Byte) (wasPending : Bool) (s : State) : State :=
  let s1 := copyTables mask s
  let s2 := if names mask .reportLevel then applyReportLevel s1 else s1
  noticeTables mask (raiseActivated mask wasPending s2)

/-- ACTIVATION_FAILED (R179). -/
def raiseFailed (mask : Byte) (check index : Nat) (s : State) : State :=
  raise .activationFailed (detailBBW (byteOf check) mask (BitVec.ofNat 16 index)) s

/-! ### The pending activation (R178) -/

/-- The pending activation taken: it becomes none, and it takes effect or fails. -/
def takePending (mask : Byte) (s : State) : State :=
  let s1 := s.withMga { s.mga with pendingMask := none }
  match crossChecks (s1.mga.after mask) s1.adu with
  | some (n, i) => raiseFailed mask n i s1
  | none => takeEffect mask true s1

/-- The end of a step: a step that has put the haul into PARKED or TRIPPED takes the pending activation as its
last effect. -/
def settle (before after : State) : State :=
  if after.hlc.state ≠ before.hlc.state ∧ (after.hlc.state = .parked ∨ after.hlc.state = .tripped) then
    match after.mga.pendingMask with
    | some mask => takePending mask after
    | none => after
  else after

end Sys2Proof.Machine
end

