-- ==== Sys2Proof/Machine/Admission.lean ====
section
/-! DEFINITION. The Admission Unit: tickets (chapter 7) and car loading (chapter 8). -/

namespace Sys2Proof.Machine

/-! ### Gates (R121) -/

/-- The car a gate serves. -/
def Node.gateCar (x : Node) : Car := if x.car = 1 then .b else .a

/-- A gate of kind ENTRY. -/
def Node.isEntry (x : Node) : Bool := x.role == .gate && x.kind == 1

/-- A car's capacity; 0 where no LINE record is active. -/
def State.capacity (s : State) : Car → Nat
  | .a => s.param (·.capA) 0
  | .b => s.param (·.capB) 0

/-! ### The passback list (R123, R133) -/

/-- Ageing from the head (R123). -/
def agePassback (now : Time) (limit : Nat) : List Passback → List Passback
  | [] => []
  | p :: rest => if limit ≤ since p.passedAt now then agePassback now limit rest else p :: rest

/-- The passback list aged at an arrival. -/
def age (s : State) : State :=
  s.withAdu { s.adu with passback := agePassback s.clock (s.param (·.tPassback) 0 * 1000) s.adu.passback }

/-- A record appended, the oldest of a full list removed for room and counted (R133). -/
def appendPassback (serial : BitVec 32) (s : State) : State :=
  let p : Passback := { serial := serial, passedAt := s.clock }
  if 64 ≤ s.adu.passback.length then
    countAdu .passbackOverflow (s.withAdu { s.adu with passback := s.adu.passback.drop 1 ++ [p] })
  else s.withAdu { s.adu with passback := s.adu.passback ++ [p] }

/-! ### The checks of a query (R124–R128) -/

/-- The fields of a TICKET that ADU reads (R170). -/
structure Ticket where
  serial : BitVec 32
  product : Byte
  expiry : Nat
  balance : Byte
  deriving DecidableEq, Repr

/-- The fields of a payload. -/
def ticketOf (p : List Byte) : Ticket :=
  { serial := longAt p 0, product := byteAt p 4, expiry := natAt16 p 5, balance := byteAt p 7 }

/-- The search by halving (R127) within the entries lo..hi − 1, at most n halvings. -/
def halving (serial : BitVec 32) (t : List (BitVec 32)) : Nat → Nat → Nat → Bool
  | 0, _, _ => false
  | n + 1, lo, hi =>
    if lo < hi then
      let mid := (lo + hi) / 2
      let x := t.getD mid 0
      if serial = x then true
      else if serial.toNat < x.toNat then halving serial t n lo mid
      else halving serial t n (mid + 1) hi
    else false

/-- The serial is found in the active HOTLIST: a range of n entries is empty after at most n halvings. -/
def blocked (serial : BitVec 32) (t : List (BitVec 32)) : Bool := halving serial t t.length 0 t.length

/-- The product of a code (R126). -/
def findProduct (code : Byte) (t : List Product) : Option Product := t.find? fun p => p.code == code

/-- Check 2 (R125). -/
def State.gateOpen (s : State) (g : Node) : Bool :=
  s.hlc.state == .boarding && s.hlc.boardingOpen && s.hlc.berth == some g.stop.toNat &&
    s.hasPlatform g.stop.toNat g.gateCar

/-- Check 5 (R126). -/
def inSeason (day : Nat) (t : Ticket) (p : Product) : Bool :=
  decide (day ≤ t.expiry) && decide (p.first ≤ day) && decide (day ≤ p.last)

/-- Check 8 (R128): a pending grant or a passback record holds the serial. -/
def Adu.serialHeld (a : Adu) (serial : BitVec 32) : Bool :=
  a.grants.any (fun g => g.serial == serial) || a.passback.any (fun p => p.serial == serial)

/-- Check 10: a pending grant is the gate's. -/
def Adu.gateBusy (a : Adu) (gate : Byte) : Bool := a.grants.any fun g => g.gate == gate

/-- Checks 8 to 11, which judge a ticket that is in order against what is in hand. -/
def State.handVerdict (s : State) (gate : Byte) (car : Car) (t : Ticket) : Verdict :=
  if s.adu.serialHeld t.serial then .passback
  else if s.capacity car ≤ s.adu.held car then .full
  else if s.adu.gateBusy gate then .gateBusy
  else if 16 ≤ s.adu.grants.length then .queueFull
  else .accept

/-- Checks 3 to 11 for a gate that is open. -/
def State.ticketVerdict (s : State) (gate : Byte) (g : Node) (t : Ticket) : Verdict :=
  if blocked t.serial (s.mga.active.hotlist.getD []) then .blocked
  else match findProduct t.product (s.mga.active.product.getD []) with
    | none => .product
    | some p =>
      if !inSeason s.mga.day.toNat t p then .expired
      else if !p.mask.getLsbD g.stop.toNat then .stop
      else if p.decrement && t.balance == 0 then .balance
      else s.handVerdict gate g.gateCar t

/-- The verdict on a query from a node (R124). -/
def State.verdict (s : State) (src : Byte) (t : Ticket) : Verdict :=
  match s.nodeOf src with
  | some g =>
    if !g.isEntry then .notGate
    else if !s.gateOpen g then .closed
    else s.ticketVerdict src g t
  | none => .notGate

/-! ### Answering (R129–R132) -/

/-- The next token after one: 255 is followed by 1. -/
def nextToken (t : Byte) : Byte := if t = 255 then 1 else t + 1

/-- The first candidate that no grant holds, among at most n (R130). -/
def freeToken (grants : List Grant) : Nat → Byte → Byte
  | 0, t => t
  | n + 1, t => if grants.any (fun g => g.token == t) then freeToken grants n (nextToken t) else t

/-- The token an allocation yields: of 16 candidates in a row at most 15 are held (R130). -/
def Adu.allocate (a : Adu) : Byte := freeToken a.grants 16 a.token

/-- The balance after an acceptance (R129). -/
def newBalance (decrement : Bool) (balance : Byte) : Byte :=
  if decrement && balance != 0 && balance != 255 then balance - 1 else balance

/-- The decrement flag of a ticket's product. -/
def State.decrements (s : State) (t : Ticket) : Bool :=
  match findProduct t.product (s.mga.active.product.getD []) with
  | some p => p.decrement
  | none => false

/-- The grant of an acceptance appended, and the token counter moved on (R129, R130). -/
def appendGrant (gate : Byte) (car : Car) (serial : BitVec 32) (s : State) : State :=
  let token := s.adu.allocate
  s.withAdu { s.adu with
    token := nextToken token
    grants := s.adu.grants ++ [{ gate := gate, car := car, serial := serial, token := token,
                                 expiry := { start := s.clock, dur := s.param (·.tGrant) 0 * 1000 } }] }

/-- The frame of an answer (R132). -/
def State.answer (s : State) (f : Frame) (v : Verdict) (balance token : Byte) : Frame :=
  { f with dst := f.src, src := s.oaByte, payload := f.payload.take 8 ++ [v.code, balance, token] }

/-- The full-reported flag of a car. -/
def Adu.fullReported (a : Adu) : Car → Bool
  | .a => a.fullA
  | .b => a.fullB

/-- The full-reported flag of a car set. -/
def Adu.setFull (a : Adu) : Car → Adu
  | .a => { a with fullA := true }
  | .b => { a with fullB := true }

/-- CAR_FULL at the first refusal for a full car of this berth (R131). -/
def reportFull (gate : Byte) (car : Car) (s : State) : State :=
  if s.adu.fullReported car then s
  else raise .carFull (detailBBW (carCode car) gate (BitVec.ofNat 16 (s.adu.held car)))
    (s.withAdu (s.adu.setFull car))

/-- The car of the node that asks; the node of an accepted or full query is a gate. -/
def State.askingCar (s : State) (src : Byte) : Car :=
  match s.nodeOf src with
  | some g => g.gateCar
  | none => .a

/-- A query decided whole at its arrival and answered in its FIFO place (R122–R132). -/
def takeTicket (f : Frame) (s : State) : State :=
  let s1 := age s
  let t := ticketOf f.payload
  let v := s1.verdict f.src t
  let car := s1.askingCar f.src
  match v with
  | .accept =>
    let out := s1.answer f v (newBalance (s1.decrements t) t.balance) s1.adu.allocate
    countAdu (.verdict v) (pushFifo out .answered (appendGrant f.src car t.serial s1))
  | .full =>
    reportFull f.src car (countAdu (.verdict v) (pushFifo (s1.answer f v t.balance 0) .answered s1))
  | _ => countAdu (.verdict v) (pushFifo (s1.answer f v t.balance 0) .answered s1)

/-! ### Passes (R142–R146) -/

/-- A grant matches a pass (R143). -/
def Grant.matchesPass (g : Grant) (gate token : Byte) : Bool := g.gate == gate && g.token == token

/-- The list without its first element that satisfies a test. -/
def removeFirst {α : Type} (p : α → Bool) : List α → List α
  | [] => []
  | x :: rest => if p x then rest else x :: removeFirst p rest

/-- An entry pass that consumes a grant (R143). -/
def consumeGrant (gate token : Byte) (g : Grant) (s : State) : State :=
  let a := { s.adu with grants := removeFirst (fun x => x.matchesPass gate token) s.adu.grants }
  countAdu .passGranted (appendPassback g.serial (s.withAdu (a.setAboard g.car (a.aboard g.car + 1))))

/-- A forced pass (R144). -/
def forcedPass (gate token : Byte) (car : Car) (s : State) : State :=
  let n := min (s.adu.unticketed car + 1) 255
  countAdu .passForced (raise .gateForced (detail4 gate (carCode car) token (byteOf n))
    (s.withAdu (s.adu.setUnticketed car n)))

/-- An entry pass (R143, R144). -/
def entryPass (gate token : Byte) (g : Node) (s : State) : State :=
  match if token = 0 then none else s.adu.grants.find? (fun x => x.matchesPass gate token) with
  | some grant => consumeGrant gate token grant s
  | none => forcedPass gate token g.gateCar s

/-- An exit pass at the berth (R145). -/
def exitAtBerth (gate : Byte) (car : Car) (berth : Byte) (s : State) : State :=
  if 0 < s.adu.aboard car then
    countAdu .passExit (s.withAdu (s.adu.setAboard car (s.adu.aboard car - 1)))
  else if 0 < s.adu.unticketed car then
    countAdu .passExit (s.withAdu (s.adu.setUnticketed car (s.adu.unticketed car - 1)))
  else countAdu .countUnderflow (raise .countUnderflow (detail4 gate (carCode car) berth 0) s)

/-- An exit pass (R145, R146). -/
def exitPass (gate : Byte) (g : Node) (s : State) : State :=
  if s.hlc.state = .boarding ∧ s.hlc.berth = some g.stop.toNat then exitAtBerth gate g.gateCar g.stop s
  else countAdu .gateStray
    (raise .gateStray (detail4 gate (carCode g.gateCar) g.stop s.hlc.state.code) s)

/-- A pass of a gate taken at its arrival (R142). -/
def takePass (gate token : Byte) (g : Node) (s : State) : State :=
  let s1 := age s
  if g.isEntry then entryPass gate token g s1 else exitPass gate g s1

/-! ### Removals (R147, R148, R154) -/

/-- The expiry of the grant that a gate holds (R147). -/
def grantExpiry (gate : Byte) (s : State) : State :=
  match s.adu.grants.find? (fun g => g.gate == gate) with
  | some g =>
    if g.expiry.reached s.clock then
      countAdu .grantExpired (raise .grantExpired (detail4 1 g.gate (carCode g.car) g.token)
        (s.withAdu { s.adu with grants := removeFirst (fun x => x.gate == gate) s.adu.grants }))
    else s
  | none => s

/-- The pending grants removed by an accepted PARK (R148). -/
def parkGrants (s : State) : State :=
  let n := s.adu.grants.length
  let s1 := s.withAdu (({ s.adu with grants := [] } : Adu).countBy .grantParked n)
  if n = 0 then s1 else raise .grantExpired (detail4 (byteOf n) 0 0xFF 0) s1

/-- The Admission Unit at an accepted REINIT (R138, R154). -/
def Adu.reinit (a : Adu) : Adu :=
  { a.countBy .grantCleared a.grants.length with
      passback := [], fullA := false, fullB := false, grants := [],
      aboardA := 0, aboardB := 0, unticketedA := 0, unticketedB := 0 }

/-- The least of the ms left on the grants; none without a grant (R151). -/
def Adu.earliest (a : Adu) (now : Time) : Option Nat := (a.grants.map fun g => g.expiry.left now).min?

end Sys2Proof.Machine
end

