-- ==== Sys2Proof/Machine/Status.lean ====
section
/-! DEFINITION. What the manager reads: the pages of READ_STATUS (R183), tables (R184), trips (R57), counters
(R185). Nothing here changes the state. -/

namespace Sys2Proof.Machine

/-! ### Parts of pages -/

/-- The sticky link flags: bit 0 CRC, bit 1 FORMAT, bit 2 OVERRUN (R183). -/
def Rif.linkFlags (r : Rif) : Byte :=
  (if r.crcFlag then 1 else 0) ||| (if r.formatFlag then 2 else 0) ||| (if r.overrunFlag then 4 else 0)

/-- The mask of ACTIVE tables. -/
def ActiveTables.mask (a : ActiveTables) : Byte :=
  allTables.foldl (fun m t => if a.isActive t then m ||| (1 <<< t.idx.val) else m) 0

/-- The first failing index and the reason: 0 unless the shadow is INVALID (R175; for R183 DEDUCED, log 17). -/
def Shadow.failing (x : Shadow) : Nat × Byte :=
  match x.state, x.failure with
  | .invalid, some (i, r) => (i, r.code)
  | _, _ => (0, 0)

/-- A shadow's five bytes of page 0: the state in bits 1–0 with the reason in bits 7–4, fill count, failing index. -/
def Shadow.statusBytes (x : Shadow) : List Byte :=
  [x.state.code ||| (x.failing.2 <<< 4)] ++ be16 x.entries.length ++ be16 x.failing.1

/-- A channel's byte of page 1: the state in bits 1–0, SATURATED in bit 7. -/
def Channel.statusByte (c : Channel) : Byte := c.state.code ||| (if c.saturated then 0x80 else 0)

/-- A stage's result fields of page 4. -/
def Stage.resultBytes (x : Stage) : List Byte :=
  be16 x.vApply ++ beInt32 x.pApply ++ be32 x.tStop ++ be32 x.dStop ++ be16 (sat16 x.decel)

/-- The debounced levels: bit 0 STOP_CHAIN closed, bit 1 RESET_KEY closed. -/
def Brs.levels (b : Brs) : Byte :=
  (if b.chain.level = .closed then 1 else 0) ||| (if b.key.level = .closed then 2 else 0)

/-- The selected stages as BRAKE_TEST's mask gives them (DEDUCED, log 17). -/
def BrakeTest.selected (t : BrakeTest) : Byte := (if t.selSvc then 1 else 0) ||| (if t.selEmg then 2 else 0)

/-- The stop cause of page 5: its code, or the free code of none (log 7). -/
def State.stopCauseByte (s : State) : Byte :=
  match s.hlc.stopCause with
  | some c => c.code
  | none => Config.stopCauseNone s.steps

/-- The outputs of page 5: bit 0 SB_DEMAND, bit 1 DRIVE_ENABLE, bit 2 EB_HOLD. -/
def State.outputsByte (s : State) : Byte :=
  (if s.sbDemand then 1 else 0) ||| (if s.driveEnable then 2 else 0) ||| (if s.ebHold then 4 else 0)

/-- The five bytes of a car on page 6 (R117): its report's two sides, fresh, the ms since its arrival. -/
def State.carStatusBytes (s : State) (car : Car) : List Byte :=
  let r := s.dru.reports car
  match r.report with
  | some x => [x.left.byte, x.right.byte, flagByte (running r.expiry s.clock)] ++
      be16 (sat16 (since x.arrival s.clock))
  | none => [(Config.noReportStatus s.steps (decide (car = .b)) false).setWidth 8,
      (Config.noReportStatus s.steps (decide (car = .b)) true).setWidth 8,
      flagByte (running r.expiry s.clock)] ++ be16 65535

/-- The pending flags of the 28 kinds, bit n for code n (R193). -/
def Rpu.pendingFlags (r : Rpu) : BitVec 32 :=
  (List.finRange 28).foldl (fun m k =>
    if r.slots[k].entry.isSome then m ||| BitVec.ofNat 32 (2 ^ k.val) else m) 0

/-! ### The pages (R183) -/

/-- Page 0. -/
def State.page0 (s : State) : List Byte :=
  [s.hlc.state.code, s.mga.active.mask, s.mga.pendingMask.getD 0] ++
  allTables.flatMap (fun t => (s.mga.shadow t).statusBytes) ++
  [s.oaByte, s.maByte, flagByte s.strapFault, s.rif.linkFlags] ++ bytes16 s.mga.day

/-- Page 1. -/
def State.page1 (s : State) : List Byte :=
  [s.moe.s1.statusByte, s.moe.s2.statusByte, s.moe.ca.statusByte, s.moe.cb.statusByte, s.moe.status.code,
   flagByte s.moe.held] ++ beInt32 s.moe.posA ++ beInt16 s.moe.last.signed ++
  [flagByte s.moe.last.known, flagByte s.moe.still]

/-- Page 2. -/
def State.page2 (s : State) : List Byte :=
  [s.env.mode.code] ++ be16 s.env.e ++ [byteOf s.env.loadClass.val] ++ be32 s.env.load ++
  [indexByte s.env.target, s.env.dir.code]

/-- Page 3. -/
def State.page3 (s : State) : List Byte :=
  let b := s.brs
  [b.tier.code, flagByte b.aboveService] ++ be16 b.tWarn ++ be16 b.tSvc ++ be16 b.tEmg ++
  [flagByte b.trip.latched, firstCauseCode b.trip.first] ++ bytes16 b.trip.causes ++ beInt32 b.trip.posA ++
  beInt16 b.trip.v ++ bytes32 b.trip.time ++
  [flagByte b.estopLatched, b.levels, flagByte b.sup.active, byteOf b.sup.short, flagByte b.lossFlag,
   flagByte b.lossTimer.isSome]

/-- Page 4. -/
def State.page4 (s : State) : List Byte :=
  let t := s.test
  [t.state.code, t.selected] ++ be16 t.vTest ++
  [flagByte t.abortPending, flagByte t.failureMark, t.svc.status.code, t.emg.status.code] ++
  t.svc.resultBytes ++ t.emg.resultBytes ++
  [(if t.svcFailed then 1 else 0) ||| (if t.emgFailed then 2 else 0)]

/-- Page 5. -/
def State.page5 (s : State) : List Byte :=
  let h := s.hlc
  [h.state.code, indexByte h.berth, flagByte h.boardingOpen, indexByte h.target, h.dir.code,
   originCode h.origin] ++ left32 h.armTimer s.clock ++
  [s.stopCauseByte, byteOf h.further, h.drive.ready, h.drive.fault] ++ bytes16 h.drive.speed ++
  [flagByte (running h.drive.expiry s.clock), s.outputsByte]

/-- Page 6. -/
def State.page6 (s : State) : List Byte :=
  carSides.map (fun cs => (s.dru.door cs.1 cs.2).state.code) ++
  carSides.flatMap (fun cs => left16 (s.dru.door cs.1 cs.2).timer s.clock) ++
  s.carStatusBytes .a ++ s.carStatusBytes .b ++ [flagByte s.dru.movingOpen]

/-- Page 7. -/
def State.page7 (s : State) : List Byte :=
  let a := s.adu
  bytes16 s.mga.day ++ [a.token, byteOf a.passback.length,
    (if a.fullA then 1 else 0) ||| (if a.fullB then 2 else 0)] ++
  be16 a.aboardA ++ be16 a.aboardB ++
  [byteOf a.unticketedA, byteOf a.unticketedB, byteOf (a.grantsOf .a), byteOf (a.grantsOf .b)] ++
  be16 (sat16 ((a.earliest s.clock).getD 65535))

/-- Page 8: a frame OUT is sending still stands in the FIFO if it was forwarded (log 17). DEDUCED (log 36): the request
that reads the page, which is absorbed at its own arrival, is not counted among the frames in the FIFO. -/
def State.page8 (s : State) : List Byte :=
  let r := s.rif
  [s.oaByte, s.maByte, flagByte s.strapFault, r.linkFlags, byteOf r.fifoUsed, flagByte r.force.isSome,
   byteOf r.door.length, byteOf r.reply.length, byteOf r.report.length, flagByte r.beacon.isSome,
   byteOf r.backToBack]

/-- Page 9 (R193). -/
def State.page9 (s : State) : List Byte :=
  [s.rpu.seq] ++ bytes32 s.rpu.pendingFlags ++
  [byteOf s.rif.report.length, byteAt s.mga.active.reportLevel 28, byteAt s.mga.active.reportLevel 29] ++
  left32 s.rpu.beacon s.clock

/-- The contents of a page; none above 9. -/
def State.page (s : State) : Nat → Option (List Byte)
  | 0 => some s.page0
  | 1 => some s.page1
  | 2 => some s.page2
  | 3 => some s.page3
  | 4 => some s.page4
  | 5 => some s.page5
  | 6 => some s.page6
  | 7 => some s.page7
  | 8 => some s.page8
  | 9 => some s.page9
  | _ => none

/-! ### Tables, trips and counters -/

/-- The whole entries that fit in some bytes, at most n (R184). -/
def fitting : Nat → Nat → List (List Byte) → List (List Byte)
  | 0, _, _ => []
  | _, _, [] => []
  | n + 1, room, e :: rest => if e.length ≤ room then e :: fitting n (room - e.length) rest else []

/-- The entries of a copy: 0 the shadow, 1 the active copy (R184). -/
def Mga.copyEntries (m : Mga) (t : TableId) (copy : Byte) : List (List Byte) :=
  if copy = 0 then (m.shadow t).entries else m.active.entries t

/-- The body of a READ_TABLE reply. -/
def Mga.tableBody (m : Mga) (t : TableId) (copy : Byte) (first count : Nat) : List Byte :=
  let es := fitting count 48 ((m.copyEntries t copy).drop first)
  [t.code, copy] ++ be16 first ++ [byteOf es.length] ++ es.flatten

/-- An entry of the trip history as READ_TRIPS carries it (R170). -/
def TripEntry.bytes (e : TripEntry) : List Byte :=
  [firstCauseCode e.first] ++ bytes16 e.causes ++ beInt32 e.posA ++ beInt16 e.v ++ bytes32 e.time ++
  [flagByte e.cleared]

/-- The body of a READ_TRIPS reply (R57, R170). -/
def Brs.tripsBody (b : Brs) (first : Nat) : List Byte :=
  [byteOf b.history.length] ++ ((b.history.drop first).take 3).flatMap TripEntry.bytes

/-- The counters of a group in its order (R185). -/
def State.counterGroup (s : State) (group : Byte) : Option (List (BitVec 16)) :=
  if group = 1 then some s.rif.counters.toList
  else if group = 2 then some s.moe.counters.toList
  else if group = 3 then some s.adu.counters.toList
  else if group = 4 then some (s.rpu.slots.toList.map (·.count))
  else none

/-- The body of a READ_COUNTERS reply. -/
def countersBody (group : Byte) (cs : List (BitVec 16)) (first : Nat) : List Byte :=
  [group] ++ ((cs.drop first).take 26).flatMap bytes16

end Sys2Proof.Machine
end

