-- ==== Sys2Proof/Machine/Management.lean ====
section
/-! DEFINITION. The requests of the manager (R174) and their effects: LOAD (R175), activation (R177, R182),
REFERENCE (R14), trips (R61, R62), brake tests (R67, R75), REINIT (R186) and the reads and clears. -/

namespace Sys2Proof.Machine

/-- The results of management requests (R174). -/
inductive MgmtResult
  | accepted
  | acceptedPending
  | unknownRequest
  | length
  | state
  | badTable
  | outOfRange
  | outOfOrder
  | activationPending
  | badMask
  | notValid
  | alreadyPending
  | checkFailed
  | nothingPending
  | badGroup
  | tables
  | badStop
  | moving
  | notTripped
  | noKey
  | chainOpen
  | busy
  | range
  | nothingActive
  deriving DecidableEq, Repr

/-- The result codes of R174. -/
def MgmtResult.code : MgmtResult → Byte
  | .accepted => 0x00
  | .acceptedPending => 0x01
  | .unknownRequest => 0x02
  | .length => 0x03
  | .state => 0x04
  | .badTable => 0x05
  | .outOfRange => 0x06
  | .outOfOrder => 0x07
  | .activationPending => 0x08
  | .badMask => 0x09
  | .notValid => 0x0A
  | .alreadyPending => 0x0B
  | .checkFailed => 0x0C
  | .nothingPending => 0x0D
  | .badGroup => 0x0E
  | .tables => 0x0F
  | .badStop => 0x10
  | .moving => 0x11
  | .notTripped => 0x12
  | .noKey => 0x14
  | .chainOpen => 0x15
  | .busy => 0x16
  | .range => 0x17
  | .nothingActive => 0x18

/-- What a request comes to: its result, the body of its reply, and the state it leaves. -/
structure Decision where
  result : MgmtResult
  body : List Byte
  state : State

/-- A refusal, with an empty body. -/
def refuse (r : MgmtResult) (s : State) : Decision := { result := r, body := [], state := s }

/-- An acceptance. -/
def accept (body : List Byte) (s : State) : Decision := { result := .accepted, body := body, state := s }

/-! ### LOAD (R175) -/

/-- The sizes of the entries first, first + 1, …, first + count − 1 together. -/
def TableId.sizeOf (t : TableId) (first : Nat) : Nat → Nat
  | 0 => 0
  | n + 1 => t.entrySize first + t.sizeOf (first + 1) n

/-- A run of bytes cut into the entries from index first on. -/
def splitEntries (t : TableId) (first : Nat) : Nat → List Byte → List (List Byte)
  | 0, _ => []
  | n + 1, bs =>
    bs.take (t.entrySize first) :: splitEntries t (first + 1) n (bs.drop (t.entrySize first))

/-- A shadow as a LOAD writes it. -/
def Shadow.written (x : Shadow) (oa : Byte) (t : TableId) (first : Nat) (es : List (List Byte)) (last : Bool) :
    Shadow :=
  let entries := (if first = 0 then [] else x.entries) ++ es
  if last then
    match validate oa t entries with
    | none => { state := .valid, entries := entries, failure := none }
    | some f => { state := .invalid, entries := entries, failure := some f }
  else { state := .filling, entries := entries, failure := none }

/-- The body of an accepted LOAD's reply. -/
def Shadow.loadBody (x : Shadow) (t : TableId) : List Byte :=
  [t.code, x.state.code] ++ be16 x.entries.length ++ be16 x.failing.1 ++ [x.failing.2]

/-- The table is named by the pending activation. -/
def Mga.isPending (m : Mga) (t : TableId) : Bool :=
  match m.pendingMask with
  | some mask => names mask t
  | none => false

/-- A LOAD to a table, its refusals in order. -/
def loadTable (t : TableId) (first count : Nat) (last : Bool) (bs : List Byte) (s : State) : Decision :=
  let x := s.mga.shadow t
  if s.mga.isPending t then refuse .activationPending s
  else if t.capacity < first + count then refuse .outOfRange s
  else if bs.length ≠ t.sizeOf first count then refuse .length s
  else if first ≠ 0 ∧ (x.state ≠ .filling ∨ first ≠ x.entries.length) then refuse .outOfOrder s
  else
    let y := x.written s.oaByte t first (splitEntries t first count bs) last
    accept (y.loadBody t) (s.withMga (s.mga.setShadow t y))

/-- LOAD (R175). -/
def decideLoad (body : List Byte) (s : State) : Decision :=
  match tableOf (byteAt body 0) with
  | some t =>
    loadTable t (natAt16 body 1) (byteAt body 3).toNat ((byteAt body 4).getLsbD 0) (body.drop 5) s
  | none => refuse .badTable s

/-! ### Activation (R177, R182) -/

/-- A mask that ACTIVATE refuses. -/
def badMask (mask : Byte) : Bool := mask == 0 || (mask &&& 0x1F != 0 && mask &&& 0xE0 != 0)

/-- The lowest table of a mask whose shadow is not VALID. -/
def Mga.notValid (m : Mga) (mask : Byte) : Option TableId :=
  allTables.find? fun t => names mask t && (m.shadow t).state != .valid

/-- A haul mask with the haul PARKED or TRIPPED. -/
def activateNow (mask : Byte) (s : State) : Decision :=
  match crossChecks (s.mga.after mask) s.adu with
  | some (n, i) =>
    { result := .checkFailed, body := [byteOf n] ++ be16 i, state := raiseFailed mask n i s }
  | none => accept [mask] (takeEffect mask false s)

/-- ACTIVATE (R177). -/
def decideActivate (mask : Byte) (s : State) : Decision :=
  if badMask mask then refuse .badMask s
  else if s.mga.pendingMask.isSome then refuse .alreadyPending s
  else match s.mga.notValid mask with
    | some t => { result := .notValid, body := [t.code], state := s }
    | none =>
      if !haulMask mask then accept [mask] (takeEffect mask false s)
      else if s.hlc.state = .parked ∨ s.hlc.state = .tripped then activateNow mask s
      else { result := .acceptedPending, body := [mask],
             state := s.withMga { s.mga with pendingMask := some mask } }

/-- CANCEL_ACTIVATE (R182). -/
def decideCancel (s : State) : Decision :=
  match s.mga.pendingMask with
  | some mask => accept [mask] (s.withMga { s.mga with pendingMask := none })
  | none => refuse .nothingPending s

/-! ### Reading and clearing (R183–R185, R57, R159) -/

/-- READ_STATUS (R183). -/
def decideReadStatus (page : Byte) (s : State) : Decision :=
  match s.page page.toNat with
  | some bs => accept (page :: bs) s
  | none => refuse .outOfRange s

/-- READ_TABLE (R184). -/
def decideReadTable (body : List Byte) (s : State) : Decision :=
  let copy := byteAt body 1
  match tableOf (byteAt body 0) with
  | some t =>
    if copy = 0 ∨ copy = 1 then
      accept (s.mga.tableBody t copy (natAt16 body 2) (byteAt body 4).toNat) s
    else refuse .badTable s
  | none => refuse .badTable s

/-- READ_TRIPS (R57). -/
def decideReadTrips (first : Byte) (s : State) : Decision := accept (s.brs.tripsBody first.toNat) s

/-- READ_COUNTERS (R185). -/
def decideReadCounters (group first : Byte) (s : State) : Decision :=
  match s.counterGroup group with
  | some cs => accept (countersBody group cs first.toNat) s
  | none => refuse .badGroup s

/-- CLEAR_COUNTERS (R185). -/
def decideClearCounters (group : Byte) (s : State) : Decision :=
  if group = 1 then accept [] (s.withRif { s.rif with counters := Vector.replicate 16 0 })
  else if group = 2 then accept [] (s.withMoe { s.moe with counters := Vector.replicate 26 0 })
  else if group = 3 then accept [] (s.withAdu { s.adu with counters := Vector.replicate 23 0 })
  else if group = 4 then
    accept [] (s.withRpu { s.rpu with slots := s.rpu.slots.map fun x => { x with count := 0 } })
  else refuse .badGroup s

/-- CLEAR_FLAGS (R159). -/
def decideClearFlags (s : State) : Decision :=
  accept [] (s.withRif { s.rif with crcFlag := false, formatFlag := false, overrunFlag := false })

/-- SET_DAY (R134). -/
def decideSetDay (day : BitVec 16) (s : State) : Decision := accept [] (s.withMga { s.mga with day := day })

/-! ### REFERENCE (R14) -/

/-- REFERENCE: the declared stop becomes the position. -/
def decideReference (stop : Byte) (s : State) : Decision :=
  if ¬(s.hlc.state = .parked ∨ s.hlc.state = .tripped) then refuse .state s
  else if s.mga.active.stop.isNone || s.mga.active.line.isNone then refuse .tables s
  else match s.stops[stop.toNat]? with
    | none => refuse .badStop s
    | some st =>
      if !s.moe.still then refuse .moving s
      else accept [] (motionUpdate (s.withMoe { s.moe.moveTo st.pos with status := .referenced, gap := false }))

/-! ### Trips (R61, R62) -/

/-- The NODE, STOP, PROFILE and LINE tables are all ACTIVE. -/
def ActiveTables.runnable (a : ActiveTables) : Bool :=
  a.node.isSome && a.stop.isSome && a.profile.isSome && a.line.isSome

/-- The Brake Supervisor after an accepted TRIP_RESET. -/
def Brs.cleared (b : Brs) : Brs :=
  { b with trip := { latched := false, first := none, causes := 0, posA := 0, v := 0, time := 0 }
           history := onNewest (fun e => { e with cleared := true }) b.history
           estopLatched := false }

/-- TRIP_RESET (R61). -/
def decideTripReset (s : State) : Decision :=
  if !s.brs.trip.latched then refuse .notTripped s
  else if s.brs.key.level = .opened then refuse .noKey s
  else if !s.moe.still then refuse .moving s
  else if s.brs.chain.level = .opened then refuse .chainOpen s
  else if !s.mga.active.runnable then refuse .tables s
  else accept [] (enterRest .parked none false (s.withBrs s.brs.cleared))

/-- MANUAL_TRIP (R62). -/
def decideManualTrip (s : State) : Decision := accept [] (trip .manual s)

/-! ### Brake tests (R67, R75) -/

/-- The test record of a new test. -/
def BrakeTest.started (t : BrakeTest) (svc emg : Bool) (v : Nat) : BrakeTest :=
  { state := .active, selSvc := svc, selEmg := emg, vTest := v, abortPending := false, failureMark := false,
    svc := { Stage.reset with status := if svc then .waiting else .idle },
    emg := { Stage.reset with status := if svc then .idle else .waiting },
    svcFailed := t.svcFailed, emgFailed := t.emgFailed }

/-- BRAKE_TEST (R67). -/
def decideBrakeTest (mask : Byte) (v : Nat) (s : State) : Decision :=
  if ¬(s.hlc.state = .parked ∨ s.hlc.state = .boarding) then refuse .state s
  else if s.test.state = .active then refuse .busy s
  else if mask &&& 0x03 = 0 ∨ mask &&& 0xFC ≠ 0 then refuse .badMask s
  else if v < 500 ∨ s.param (·.vLineMax) 0 < v then refuse .range s
  else accept [] (s.withTest (s.test.started (mask.getLsbD 0) (mask.getLsbD 1) v))

/-- The stage of an ACTIVE test that is WAITING or BRAKING, with its status (R66). -/
def BrakeTest.current (t : BrakeTest) : Option StageId :=
  if t.svc.status = .waiting ∨ t.svc.status = .braking then some .service
  else if t.emg.status = .waiting ∨ t.emg.status = .braking then some .emergency
  else none

/-- A WAITING stage ended by an abort (R75). -/
def abortWaiting (id : StageId) (s : State) : State :=
  raise .brakeTestResult (detailBBW id.code 3 0)
    (s.withTest { s.test.setStage id { s.test.stage id with status := .aborted } with state := .idle })

/-- BRAKE_TEST_ABORT (R75). -/
def decideAbort (s : State) : Decision :=
  if s.test.state = .active then
    match s.test.current with
    | some id =>
      if (s.test.stage id).status = .waiting then accept [] (abortWaiting id s)
      else accept [] (s.withTest { s.test with abortPending := true })
    | none => accept [] s
  else refuse .nothingActive s

/-! ### REINIT (R186) -/

/-- The berth that REINIT recomputes (R102). -/
def State.reinitBerth (s : State) : Option Nat :=
  if s.hlc.state = .parked ∧ s.moe.still ∧ s.moe.status.trusted then s.berthing s.moe.last.posA else none

/-- The haul record at REINIT (R102). -/
def reinitHlc (s : State) : State :=
  s.withHlc { s.hlc with berth := s.reinitBerth, target := none, dir := .none, origin := none,
                         stopCause := none, further := 0 }

/-- The envelope record at REINIT (R42). -/
def Env.reinit (e : Env) : Env := { e with loadClass := 0, load := 0, target := none, dir := .none }

/-- The test record at REINIT (R79). -/
def BrakeTest.reinit (t : BrakeTest) : BrakeTest :=
  { BrakeTest.reset with svcFailed := t.svcFailed, emgFailed := t.emgFailed }

/-- A channel at REINIT (R25): as after power-on reset. -/
def Moe.reinit (m : Moe) : Moe :=
  { m with s1 := .reset, s2 := .reset, ca := .reset, cb := .reset, source := none, gap := false, still := false,
           candidate := none, stillTimer := none, disagree := .clear, slipA := .clear, slipB := .clear }

/-- REINIT, block by block: the haul record first, on STILL as it stands; the Motion Estimator's update last. -/
def reinit (s : State) : State :=
  let s1 := reinitHlc s
  let s2 := recomputeThresholds (s1.withEnv s1.env.reinit)
  let s3 := (s2.withTest s2.test.reinit).withAdu s2.adu.reinit
  motionUpdate ((s3.withMga { s3.mga with pendingMask := none }).withMoe s3.moe.reinit)

/-- REINIT (R186). -/
def decideReinit (s : State) : Decision :=
  if s.hlc.state = .parked ∨ s.hlc.state = .tripped then accept [] (reinit s) else refuse .state s

/-! ### The requests (R174) -/

/-- The requests of the table. -/
inductive Request
  | readStatus
  | load
  | activate
  | cancelActivate
  | readTable
  | readTrips
  | readCounters
  | clearCounters
  | clearFlags
  | setDay
  | reference
  | tripReset
  | manualTrip
  | brakeTest
  | brakeTestAbort
  | reinit
  deriving DecidableEq, Repr

/-- The requests in code order, from 0x01. -/
def allRequests : List Request :=
  [.readStatus, .load, .activate, .cancelActivate, .readTable, .readTrips, .readCounters, .clearCounters,
   .clearFlags, .setDay, .reference, .tripReset, .manualTrip, .brakeTest, .brakeTestAbort, .reinit]

/-- The request a code names. -/
def requestOf (code : Byte) : Option Request := if code = 0 then none else allRequests[code.toNat - 1]?

/-- The body length is the one the table gives. -/
def Request.lengthHolds (r : Request) (n : Nat) : Bool :=
  match r with
  | .readStatus => n == 1
  | .load => decide (5 ≤ n)
  | .activate => n == 1
  | .cancelActivate => n == 0
  | .readTable => n == 5
  | .readTrips => n == 1
  | .readCounters => n == 2
  | .clearCounters => n == 1
  | .clearFlags => n == 0
  | .setDay => n == 2
  | .reference => n == 1
  | .tripReset => n == 0
  | .manualTrip => n == 0
  | .brakeTest => n == 3
  | .brakeTestAbort => n == 0
  | .reinit => n == 0

/-- A request decided by its own rule. -/
def Request.decide (r : Request) (body : List Byte) (s : State) : Decision :=
  match r with
  | .readStatus => decideReadStatus (byteAt body 0) s
  | .load => decideLoad body s
  | .activate => decideActivate (byteAt body 0) s
  | .cancelActivate => decideCancel s
  | .readTable => decideReadTable body s
  | .readTrips => decideReadTrips (byteAt body 0) s
  | .readCounters => decideReadCounters (byteAt body 0) (byteAt body 1) s
  | .clearCounters => decideClearCounters (byteAt body 0) s
  | .clearFlags => decideClearFlags s
  | .setDay => decideSetDay (wordAt body 0) s
  | .reference => decideReference (byteAt body 0) s
  | .tripReset => decideTripReset s
  | .manualTrip => decideManualTrip s
  | .brakeTest => decideBrakeTest (byteAt body 0) (natAt16 body 1) s
  | .brakeTestAbort => decideAbort s
  | .reinit => decideReinit s

/-- A request as MGA decides it: unknown, of the wrong length, or by its own rule (R174). -/
def decideRequest (code : Byte) (body : List Byte) (s : State) : Decision :=
  match requestOf code with
  | some r => if r.lengthHolds body.length then r.decide body s else refuse .length s
  | none => refuse .unknownRequest s

/-- A MGMT_REQ decided and answered. -/
def takeRequest (f : Frame) (s : State) : State :=
  let d := decideRequest (byteAt f.payload 0) (f.payload.drop 2) s
  placeReply f 0x61 ([byteAt f.payload 0, byteAt f.payload 1, d.result.code] ++ d.body) d.state

end Sys2Proof.Machine
end

