-- ==== Sys2Proof/Machine/Commands.lean ====
section
/-! DEFINITION. The line commands of the console (R83–R87, R91, R92), the drive record (R98), and the expiries and
inputs of the Haul Controller and the Brake Supervisor (R49, R52, R59, R60, R89). -/

namespace Sys2Proof.Machine

/-! ### Results (R83) -/

/-- The results of line commands. -/
inductive LineResult
  | accepted
  | state
  | notBerthed
  | brakeTestFailed
  | alreadyOpen
  | badTarget
  | sameStop
  | boardingOpen
  | pendingGrants
  | doors
  | drive
  | unknownCommand
  deriving DecidableEq, Repr

/-- The result codes of R83. -/
def LineResult.code : LineResult → Byte
  | .accepted => 0x00
  | .state => 0x01
  | .notBerthed => 0x02
  | .brakeTestFailed => 0x03
  | .alreadyOpen => 0x04
  | .badTarget => 0x05
  | .sameStop => 0x06
  | .boardingOpen => 0x07
  | .pendingGrants => 0x08
  | .doors => 0x09
  | .drive => 0x0A
  | .unknownCommand => 0x0B

/-! ### OPEN and CLOSE_BOARDING (R84, R85) -/

/-- A brake has failed its test (R76). -/
def BrakeTest.anyFailed (t : BrakeTest) : Bool := t.svcFailed || t.emgFailed

/-- The berthing stop of the position, if STILL is set and the position trusted (R84). -/
def State.berthable (s : State) : Option Nat :=
  if s.moe.still && s.moe.status.trusted then s.berthing s.moe.last.posA else none

/-- OPEN (R84). -/
def openLine (s : State) : LineResult × State :=
  match s.hlc.state with
  | .parked =>
    match s.berthable with
    | none => (.notBerthed, s)
    | some i =>
      if s.test.anyFailed then (.brakeTestFailed, s) else (.accepted, enterRest .boarding (some i) true s)
  | .boarding =>
    if s.hlc.boardingOpen then (.alreadyOpen, s)
    else if s.test.anyFailed then (.brakeTestFailed, s)
    else (.accepted, s.withHlc { s.hlc with boardingOpen := true })
  | .armed => (.state, s)
  | .running => (.state, s)
  | .serviceStop => (.state, s)
  | .tripped => (.state, s)

/-- CLOSE_BOARDING (R85). -/
def closeBoarding (s : State) : LineResult × State :=
  if s.hlc.state = .boarding ∧ s.hlc.boardingOpen then
    (.accepted, s.withHlc { s.hlc with boardingOpen := false })
  else (.state, s)

/-! ### DEPART (R86, R87) -/

/-- A car's report is fresh and shows both sides closed and locked. -/
def State.carSecure (s : State) (car : Car) : Bool :=
  running (s.dru.reports car).expiry s.clock &&
    match (s.dru.reports car).report with
    | some r => r.left.secure && r.right.secure
    | none => false

/-- The drive record is fresh and ready (R98). -/
def State.driveReady (s : State) : Bool :=
  running s.hlc.drive.expiry s.clock && s.hlc.drive.ready == 1

/-- The checks of R86 after the target has been found, in order. -/
def State.departResult (s : State) (target : Nat) (st : Stop) : LineResult :=
  if s.hlc.berth = some target ∨ st.contains s.moe.last.posA then .sameStop
  else if s.hlc.boardingOpen then .boardingOpen
  else if !s.adu.grants.isEmpty then .pendingGrants
  else if !(s.dru.allLocked && s.carSecure .a && s.carSecure .b) then .doors
  else if !s.driveReady then .drive
  else .accepted

/-- The run direction to a stop (R87). -/
def directionTo (st : Stop) (pos : Int) : Direction := if pos < st.pos then .up else .down

/-- DEPART (R86, R87). -/
def departLine (target : Nat) (s : State) : LineResult × State :=
  if ¬(s.hlc.state = .boarding ∨ s.hlc.state = .parked) then (.state, s)
  else match s.stops[target]? with
    | none => (.badTarget, s)
    | some st =>
      match s.departResult target st with
      | .accepted => (.accepted, enterArmed target (directionTo st s.moe.last.posA) s)
      | r => (r, s)

/-! ### STOP and PARK (R91, R92) -/

/-- STOP (R91). -/
def stopLine (s : State) : LineResult × State :=
  match s.hlc.state with
  | .armed => (.accepted, returnToOrigin s)
  | .running => (.accepted, demand .console s)
  | .serviceStop => (.accepted, demand .console s)
  | .parked => (.state, s)
  | .boarding => (.state, s)
  | .tripped => (.state, s)

/-- PARK (R92, R148). -/
def parkLine (s : State) : LineResult × State :=
  if s.hlc.state ≠ .boarding then (.state, s)
  else if !s.dru.allLocked then (.doors, s)
  else (.accepted, parkGrants (enterRest .parked s.hlc.berth false s))

/-! ### The commands (R83) -/

/-- A line command decided. -/
def decideLine (command argument : Byte) (s : State) : LineResult × State :=
  if command = 0x01 then openLine s
  else if command = 0x02 then closeBoarding s
  else if command = 0x03 then departLine argument.toNat s
  else if command = 0x04 then stopLine s
  else if command = 0x05 then parkLine s
  else (.unknownCommand, s)

/-- A LINE_CMD decided and answered. -/
def takeLineCmd (f : Frame) (s : State) : State :=
  let d := decideLine (byteAt f.payload 0) (byteAt f.payload 1) s
  placeReply f 0x51 [byteAt f.payload 2, 0x50, byteAt f.payload 0, d.1.code] d.2

/-- A DOOR_REQ decided and answered (R106). -/
def takeDoorReq (f : Frame) (s : State) : State :=
  let d := decideDoor (byteAt f.payload 0) (byteAt f.payload 1) (byteAt f.payload 2) s
  placeReply f 0x51 [byteAt f.payload 3, 0x40, byteAt f.payload 2, d.1.code] d.2

/-! ### The arm timer and the drive (R89, R98) -/

/-- The arm expiry in ARMED (R89). DESIGN CHOICE (log 37): the return, with its forced zero set-point, comes before the
raise of ARM_TIMEOUT, so the set-point takes the earlier transmit sequence. -/
def armExpiry (s : State) : State :=
  if s.hlc.state = .armed ∧ due s.hlc.armTimer s.clock then
    raise .armTimeout (detailBBW (originCode s.hlc.origin) (indexByte s.hlc.target)
      (BitVec.ofNat 16 (s.param (·.tArm) 0))) (returnToOrigin s)
  else s

/-- A loss of drive readiness is judged in ARMED, RUNNING and SERVICE_STOP (R98). -/
def driveLost (s : State) : State := if s.hlc.state.atRest then s else demand .drive s

/-- A DRIVE_STATUS taken (R98). -/
def takeDrive (p : List Byte) (s : State) : State :=
  let s1 := s.withHlc { s.hlc with drive :=
    { ready := byteAt p 0, fault := byteAt p 1, speed := wordAt p 2, arrival := some s.clock,
      expiry := s.line.map fun l => { start := s.clock, dur := l.tDriveFresh } } }
  if byteAt p 0 = 1 then s1 else driveLost s1

/-- The drive expiry (R98). -/
def driveExpiry (s : State) : State :=
  if due s.hlc.drive.expiry s.clock then
    driveLost (s.withHlc { s.hlc with drive := { s.hlc.drive with expiry := none } })
  else s

/-! ### Supervision and the loss timer (R49, R52) -/

/-- The speed that a sufficient period comes down to (R49). -/
def expectedSpeed (l : Line) (vStart : Nat) : Int := vStart - ((l.aMin * l.tSup / 1000 : Nat) : Int)

/-- A period is sufficient. -/
def periodSufficient (l : Line) (vStart v : Nat) : Bool :=
  decide ((v : Int) ≤ expectedSpeed l vStart) || decide (v ≤ l.vStill)

/-- The supervision record after a period judged without a trip. -/
def Supervision.nextPeriod (x : Supervision) (v short tSup : Nat) : Supervision :=
  { x with vStart := v, short := short, expiry := x.expiry.map (·.again tSup) }

/-- The period judged (R49). -/
def judgePeriod (l : Line) (s : State) : State :=
  let x := s.brs.sup
  let v := s.moe.last.v
  if periodSufficient l x.vStart v then s.withBrs { s.brs with sup := x.nextPeriod v 0 l.tSup }
  else if x.short = 0 then s.withBrs { s.brs with sup := x.nextPeriod v 1 l.tSup }
  else trip .sbIneffective (s.withBrs { s.brs with sup := { x with short := 2 } })

/-- The expiry of a supervision period. -/
def supervisionExpiry (s : State) : State :=
  match s.line with
  | some l => if s.brs.sup.active && due s.brs.sup.expiry s.clock then judgePeriod l s else s
  | none => s

/-- The expiry of the loss timer (R52). -/
def lossExpiry (s : State) : State :=
  if due s.brs.lossTimer s.clock then trip .speedLost (s.withBrs { s.brs with lossTimer := none }) else s

/-! ### The hardwired inputs (R59, R60) -/

/-- An input's record. -/
def Brs.pin (b : Brs) : Pin → InputPin
  | .stopChain => b.chain
  | .resetKey => b.key

/-- The Brake Supervisor with an input's record replaced. -/
def Brs.setPin (b : Brs) (p : Pin) (x : InputPin) : Brs :=
  match p with
  | .stopChain => { b with chain := x }
  | .resetKey => { b with key := x }

/-- A raw level change restarts the debounce timer (R59); a level that is the raw level already is no change. -/
def rawChange (p : Pin) (level : Level) (s : State) : State :=
  if (s.brs.pin p).raw = level then s
  else s.withBrs (s.brs.setPin p { s.brs.pin p with raw := level, timer := some { start := s.clock, dur := 4 } })

/-- ESTOP_CHAIN, with the signed V and whether this opening latches the trip. -/
def raiseEstop (v : Int) (latches : Bool) (s : State) : State :=
  raise .estopChain (BitVec.ofInt 16 v ++ flagByte latches ++ (0 : Byte)) s

/-- The debounced stop chain turns OPEN (R60). -/
def chainOpened (s : State) : State :=
  trip .estopChain (raiseEstop s.moe.last.signed (!s.brs.trip.latched)
    (s.withBrs { s.brs with estopLatched := true }))

/-- A debounce expiry (R59). -/
def debounceExpiry (p : Pin) (s : State) : State :=
  let x := s.brs.pin p
  if due x.timer s.clock then
    let s1 := s.withBrs (s.brs.setPin p { x with level := x.raw, timer := none })
    if p = .stopChain ∧ x.level = .closed ∧ x.raw = .opened then chainOpened s1 else s1
  else s

end Sys2Proof.Machine
end

