-- ==== Sys2Proof/Machine/Ring.lean ====
section
/-! DEFINITION. The Ring Interface: receive checks (R158), disposition (R160–R164), strap fault (R156), the clamp
(R46) and the OUT arbiter (R167). -/

namespace Sys2Proof.Machine

/-! ### Drops at the receive checks (R158, R159) -/

/-- The three kinds of link error. -/
inductive LinkError
  | crc
  | format
  | overrun
  deriving DecidableEq, Repr

/-- The error kinds of R158. -/
def LinkError.code : LinkError → Byte
  | .crc => 1
  | .format => 2
  | .overrun => 3

/-- The counter of an error kind. -/
def LinkError.counter : LinkError → RingCounter
  | .crc => .crcError
  | .format => .formatError
  | .overrun => .overrun

/-- The sticky flag of an error kind set. -/
def Rif.setFlag (r : Rif) : LinkError → Rif
  | .crc => { r with crcFlag := true }
  | .format => { r with formatFlag := true }
  | .overrun => { r with overrunFlag := true }

/-- A frame dropped by a receive check: counted, flagged and, unless the straps are in fault, raised. -/
def dropFrame (e : LinkError) (s : State) : State :=
  let r := (s.rif.count e.counter).setFlag e
  let s1 := s.withRif r
  if s.strapFault then s1
  else raise .linkError (detailBBW e.code 0 r.counters[e.counter.idx]) s1

/-! ### Role checks (R162) -/

/-- ROLE_MISMATCH counted and raised with its outcome. -/
def mismatch (f : Frame) (outcome : Byte) (s : State) : State :=
  raise .roleMismatch (detail4 f.kind f.src f.dst outcome) (countRing .roleMismatch s)

/-- The channel a src selects for SAMPLE_SHEAVE. -/
def sheaveChannelOf : Option Role → Option ChannelId
  | some .sheaveS1 => some .s1
  | some .sheaveS2 => some .s2
  | _ => none

/-- The car a role names. -/
def carOfRole : Option Role → Option Car
  | some .carA => some .a
  | some .carB => some .b
  | _ => none

/-! ### Read kinds (R160–R162) -/

/-- A frame of a read kind that is not read: forwarded, or absorbed if dst = OA (R161). -/
def passUnread (f : Frame) (s : State) : State := if f.dst = s.oaByte then s else pushFifo f .plain s

/-- A frame of a read kind whose src fails the role check (R162). -/
def rejectRead (f : Frame) (s : State) : State :=
  if f.dst = s.oaByte then mismatch f 2 s else mismatch f 1 (pushFifo f .plain s)

/-- A frame of a read kind that is read: absorbed or forwarded, and handed to its block. -/
def readFrame (f : Frame) (hand : State → State) (s : State) : State :=
  hand (if f.dst = s.oaByte then countRing .absorbed s else pushFifo f .plain s)

/-- A frame of a read kind: its length, its role, then its block. -/
def dealRead (f : Frame) (len : Nat) (hand : Option (State → State)) (s : State) : State :=
  if f.payload.length ≠ len then passUnread f (countRing .malformed s)
  else match hand with
    | some h => readFrame f h s
    | none => rejectRead f s

/-- SAMPLE_SHEAVE. -/
def dealSheave (f : Frame) (s : State) : State :=
  dealRead f 7 ((sheaveChannelOf (s.roleOf f.src)).map fun ch =>
    takeSample ch (sampleOf f.payload) (byteAt f.payload 6)) s

/-- SAMPLE_CAR. -/
def dealCar (f : Frame) (s : State) : State :=
  dealRead f 7 ((carOfRole (s.roleOf f.src)).map fun car =>
    takeSample (carChannel car) (sampleOf f.payload) (byteAt f.payload 6)) s

/-- MARKER. -/
def dealMarker (f : Frame) (s : State) : State :=
  dealRead f 2 (if s.roleOf f.src = some .markerReader then
    some (takeMarker (byteAt f.payload 0) (byteAt f.payload 1)) else none) s

/-- DRIVE_STATUS. -/
def dealDrive (f : Frame) (s : State) : State :=
  dealRead f 4 (if s.roleOf f.src = some .drive then some (takeDrive f.payload) else none) s

/-- DOOR_STATE. -/
def dealDoorState (f : Frame) (s : State) : State :=
  dealRead f 2 ((carOfRole (s.roleOf f.src)).map fun car =>
    takeDoorReport car (sideStatusOf (byteAt f.payload 0)) (sideStatusOf (byteAt f.payload 1))) s

/-! ### SETPOINT (R161–R163) -/

/-- SETPOINT: placed in the FIFO with its role judgement. -/
def dealSetpoint (f : Frame) (s : State) : State :=
  if f.payload.length ≠ 5 then countRing .malformed s
  else if s.roleOf f.src = some .console then pushFifo f .consoleSetpoint s
  else mismatch f 3 (pushFifo f .zeroedSetpoint s)

/-! ### Requests (R164) -/

/-- The command or request code, or the door action, and the tag of a request. -/
def droppedCodes (f : Frame) : Byte × Byte :=
  if f.kind = 0x40 then (byteAt f.payload 2, byteAt f.payload 3)
  else if f.kind = 0x50 then (byteAt f.payload 0, byteAt f.payload 2)
  else (byteAt f.payload 0, byteAt f.payload 1)

/-- A request that finds the REPLY class full (R164). -/
def dropRequest (f : Frame) (s : State) : State :=
  raise .mgmtDropped (detail4 f.kind f.src (droppedCodes f).1 (droppedCodes f).2)
    (countRing .replyDropped s)

/-- A request taken only if REPLY holds fewer than 4 frames. -/
def takeIfRoom (f : Frame) (hand : State → State) (s : State) : State :=
  if s.rif.reply.length < 4 then hand (countRing .absorbed s) else dropRequest f s

/-- A LINE_CMD, DOOR_REQ or MGMT_REQ: its length, its dst, its role, then its block. -/
def dealRequest (f : Frame) (lengthOk roleOk : Bool) (hand : State → State) (s : State) : State :=
  if f.dst = s.oaByte then
    if !lengthOk then countRing .malformed s
    else if !roleOk then mismatch f 2 s
    else takeIfRoom f hand s
  else pushFifo f .plain (if lengthOk then s else countRing .malformed s)

/-- LINE_CMD. -/
def dealLineCmd (f : Frame) (s : State) : State :=
  dealRequest f (f.payload.length == 3) (s.roleOf f.src == some .console) (takeLineCmd f) s

/-- DOOR_REQ. -/
def dealDoorReq (f : Frame) (s : State) : State :=
  dealRequest f (f.payload.length == 4) (s.roleOf f.src == some .console) (takeDoorReq f) s

/-- MGMT_REQ: from MA, whatever the NODE table holds. -/
def dealMgmtReq (f : Frame) (s : State) : State :=
  dealRequest f (decide (2 ≤ f.payload.length)) (f.src == s.maByte) (takeRequest f) s

/-! ### TICKET and GATE_PASS (R122, R142, R162) -/

/-- TICKET. -/
def dealTicket (f : Frame) (s : State) : State :=
  if f.dst ≠ s.oaByte then pushFifo f .plain s
  else if f.payload.length ≠ 11 then pushFifo f .plain (countAdu .malformed s)
  else if byteAt f.payload 8 ≠ 0 then pushFifo f .plain s
  else countRing .rewritten (takeTicket f
    (if s.roleOf f.src = some .gate then s else mismatch f 4 s))

/-- GATE_PASS: the role, then the length (log 13). DEDUCED (log 33): a gate's GATE_PASS of a wrong length is absorbed
and handed to the Admission Unit like any other, so ABSORBED is counted beside MALFORMED_PASS. -/
def dealGatePass (f : Frame) (s : State) : State :=
  if f.dst ≠ s.oaByte then pushFifo f .plain s
  else match s.nodeOf f.src with
    | some g =>
      if g.role ≠ .gate then mismatch f 2 s
      else
        let s1 := countRing .absorbed s
        if f.payload.length ≠ 1 then countAdu .malformedPass s1
        else takePass f.src (byteAt f.payload 0) g s1
    | none => mismatch f 2 s

/-! ### Disposition (R160) -/

/-- DOOR_CMD, LINE_REPLY, MGMT_REPLY, REPORT and BEACON: discarded if dst = OA. -/
def dealUnhandled (f : Frame) (s : State) : State :=
  if f.dst = s.oaByte then countRing .unhandled s else pushFifo f .plain s

/-- A frame that is not the part's own, by its kind. -/
def dealKind (f : Frame) (s : State) : State :=
  match FrameKind.ofCode f.kind with
  | .sampleSheave => dealSheave f s
  | .sampleCar => dealCar f s
  | .marker => dealMarker f s
  | .setpoint => dealSetpoint f s
  | .driveStatus => dealDrive f s
  | .ticket => dealTicket f s
  | .gatePass => dealGatePass f s
  | .doorReq => dealDoorReq f s
  | .doorState => dealDoorState f s
  | .lineCmd => dealLineCmd f s
  | .mgmtReq => dealMgmtReq f s
  | .unhandled => dealUnhandled f s
  | .other => pushFifo f .plain s

/-- The disposition with good straps: the part's own frames are stripped first. -/
def disposeGood (f : Frame) (s : State) : State :=
  if f.src = s.oaByte then countRing .stripped s else dealKind f s

/-- The disposition under a strap fault (R156). -/
def disposeFault (f : Frame) (s : State) : State :=
  if f.kind = 0x20 then
    if f.payload.length = 5 then pushFifo f .zeroedSetpoint s else countRing .malformed s
  else pushFifo f .plain s

/-- A run of bytes taken on IN: the receive checks, then the disposition. -/
def takeFrame (rx : List Byte) (s : State) : State :=
  match receive s.rif.fifoUsed rx with
  | .crcError => dropFrame .crc s
  | .formatError => dropFrame .format s
  | .overrun => dropFrame .overrun s
  | .frame f => if s.strapFault then disposeFault f s else disposeGood f s

/-! ### The clamp (R46) -/

/-- The speed and flag a console set-point leaves with, in a haul state, run direction and envelope. -/
def clamp (st : HaulState) (dir : Direction) (e : Nat) (v : Int) : Int × Byte :=
  if ¬(st = .armed ∨ st = .running) then (0, flagZeroed)
  else if (dir = .up ∧ v < 0) ∨ (dir = .down ∧ 0 < v) then (0, flagZeroed)
  else if e < v.natAbs then ((if v < 0 then -(e : Int) else (e : Int)), flagClamped)
  else (v, 0)

/-- A set-point with its speed and flags rewritten; the accel limit is kept. -/
def Frame.withSpeed (f : Frame) (v : Int) (flags : Byte) : Frame :=
  { f with payload := setpointPayload v (accelBytes f.payload) flags }

/-- The haul enters RUNNING at the leaving of its starting set-point (R88), and the loss of sheave speed is judged
(R51). DEDUCED (log 34): DEPARTED is raised before the loss is judged, and so before its SERVICE_STOP and SPEED_LOST. -/
def startRun (s : State) : State :=
  let left := s.hlc.berth
  let s1 := envEvaluate (s.withHlc { s.hlc with state := .running, berth := none, armTimer := none })
  judgeLoss (raise .departed (detail4 (indexByte left) (indexByte s.hlc.target) s.hlc.dir.code
    (byteOf s.env.loadClass.val)) s1)

/-- A frame put on OUT. -/
def putOut (f : Frame) (fromFifo : Bool) (s : State) : State :=
  s.withRif { s.rif with sending := some { frame := f, fromFifo := fromFifo } }

/-- A console set-point leaves, clamped (R46, R88, R163). -/
def sendConsole (f : Frame) (s : State) : State :=
  let c := clamp s.hlc.state s.hlc.dir s.env.e (intAt16 f.payload 0)
  let s1 := countRing .rewritten (putOut (f.withSpeed c.1 c.2) true s)
  if s.hlc.state = .armed ∧ c.1 ≠ 0 then startRun s1 else s1

/-- A forwarded frame leaves, as its place in the FIFO notes (R163, R168). -/
def sendForward (x : FifoEntry) (s : State) : State :=
  match x.note with
  | .plain => countRing .forwarded (putOut x.frame true s)
  | .answered => putOut x.frame true s
  | .zeroedSetpoint => countRing .rewritten (putOut (x.frame.withSpeed 0 flagZeroed) true s)
  | .consoleSetpoint => sendConsole x.frame s

/-! ### The OUT arbiter (R167) -/

/-- Some frame waits in classes 2 to 5. -/
def Rif.insertWaits (r : Rif) : Bool :=
  !r.door.isEmpty || !r.reply.isEmpty || !r.report.isEmpty || r.beacon.isSome

/-- The back-to-back count put in force. -/
def setCount (n : Nat) (s : State) : State := s.withRif { s.rif with backToBack := n }

/-- An inserted frame leaves (R165). -/
def sendInserted (f : Frame) (s : State) : State := countRing .inserted (putOut f false s)

/-- The first frame of the highest of classes 2 to 5 that holds one leaves, and the count becomes 0. A REPORT that
leaves is followed by the selection (R190). -/
def sendInsertion (s : State) : State :=
  let r := s.rif
  match r.door, r.reply, r.report, r.beacon with
  | x :: rest, _, _, _ => sendInserted x.frame (setCount 0 (s.withRif { r with door := rest }))
  | [], f :: rest, _, _ => sendInserted f (setCount 0 (s.withRif { r with reply := rest }))
  | [], [], x :: rest, _ =>
    selectReports (sendInserted x.frame (setCount 0 (s.withRif { r with report := rest })))
  | [], [], [], some f => sendInserted f (setCount 0 (s.withRif { r with beacon := none }))
  | [], [], [], none => setCount 0 s

/-- The oldest frame of the FIFO leaves (case 3). DESIGN CHOICE (log 38): the waiting classes are judged before the
effects of the leaving, so a REPORT that DEPARTED places at this boundary is not counted as waiting. -/
def sendOldest (x : FifoEntry) (rest : List FifoEntry) (s : State) : State :=
  let n := if s.rif.insertWaits then s.rif.backToBack + 1 else 0
  sendForward x (setCount n (s.withRif { s.rif with fifo := rest }))

/-- The arbiter's choice with good straps. -/
def arbitrate (s : State) : State :=
  let r := s.rif
  match r.force, r.fifo with
  | some f, _ => sendInserted f (s.withRif { r with force := none })
  | none, x :: rest =>
    if r.backToBack = 4 ∧ r.insertWaits then sendInsertion (countRing .insertTurns s) else sendOldest x rest s
  | none, [] =>
    if r.backToBack = 4 ∧ r.insertWaits then sendInsertion (countRing .insertTurns s) else sendInsertion s

/-- The arbiter under a strap fault: the forward FIFO alone. -/
def arbitrateFault (s : State) : State :=
  match s.rif.fifo with
  | x :: rest => sendForward x (setCount 0 (s.withRif { s.rif with fifo := rest }))
  | [] => setCount 0 s

/-- A frame boundary: the frame being sent has left, and the arbiter chooses. -/
def boundary (s : State) : State :=
  let s1 := s.withRif { s.rif with sending := none }
  if s.strapFault then arbitrateFault s1 else arbitrate s1

end Sys2Proof.Machine
end

