-- ==== Sys2Proof/Machine/Power.lean ====
section
/-! DEFINITION. Power-on reset (R24, R41, R64, R78, R101, R118, R137, R153, R156, R169, R187, R194), the time the
part is held in it, and what every other command shares. -/

namespace Sys2Proof.Machine

/-- An input at the release of reset: its debounced level is its raw level (R59). -/
def pinAtReset (level : Level) : InputPin := { raw := level, level := level, timer := none }

/-- The Brake Supervisor at the release of reset: the causes STRAP and ESTOP_CHAIN are added where they hold
(R64). -/
def brsAtReset (fault : Bool) (chain key : Level) : Brs :=
  let b := { Brs.reset with chain := pinAtReset chain, key := pinAtReset key,
                            estopLatched := decide (chain = .opened) }
  let b1 := if fault then b.addCause .strap else b
  if chain = .opened then b1.addCause .estopChain else b1

/-- The release of power-on reset (R156): every block at its reset values; ESTOP_CHAIN raised where the chain is
OPEN (R64), the forced set-point placed unless the straps are in fault (R47). -/
def powerOn (oa ma : BitVec 6) (chain key : Level) (s : State) : State :=
  let s0 : State :=
    { pending := s.pending, steps := s.steps + 1, inReset := false, clock := 0, oa := oa, ma := ma,
      rif := .reset, mga := .reset, moe := .reset, env := .reset, brs := brsAtReset (strapsBad oa ma) chain key,
      test := .reset, hlc := .reset, dru := .reset, adu := .reset, rpu := .reset }
  let s1 := if chain = .opened then raiseEstop 0 false s0 else s0
  if strapsBad oa ma then s1 else placeForce s1

/-- The supply is lost or POR_N is driven low: OUT sends nothing, and the outputs are off (R58, R81, R169). -/
def holdInReset (s : State) : State :=
  { s.withRif { s.rif with sending := none } with inReset := true, steps := s.steps + 1 }

/-- A command of the running part: the line clock moves on, the command acts, and a pending activation is taken
last (R178). A part held in reset takes nothing (R169). -/
def perform (elapsed : Time) (act : State → State) (s : State) : State :=
  if s.inReset then s else settle (begin elapsed s) (act (begin elapsed s))

/-- A frame row: the frame of this kind and payload taken on IN. -/
def performFrame (arr : Arrival) (kind : Byte) (payload : List Byte) (s : State) : State :=
  perform arr.elapsed (takeFrame (frameBytes arr kind payload)) s

/-- A LINE_CMD frame (R170). -/
def performLine (arr : Arrival) (command argument tag : Byte) (s : State) : State :=
  performFrame arr 0x50 [command, argument, tag] s

/-- A DOOR_REQ frame (R170). -/
def performDoor (arr : Arrival) (car side action tag : Byte) (s : State) : State :=
  performFrame arr 0x40 [car, side, action, tag] s

/-- A MGMT_REQ frame (R170). -/
def performRequest (arr : Arrival) (request tag : Byte) (body : List Byte) (s : State) : State :=
  performFrame arr 0x60 (request :: tag :: body) s

end Sys2Proof.Machine
end

