-- ==== Sys2Proof/Machine/AdmissionCommands.lean ====
section
/-! DEFINITION. The meanings of the commands of one family: tickets, passes and grants. -/

namespace Sys2Proof.Machine

/-- TICKET (R122): a frame of kind 0x30. -/
def execTicket (arr : Arrival) (payload : List Byte) (s : State) : Host.Outcome State Fault Refusal :=
  .next (performFrame arr 0x30 payload s)

/-- GATE_PASS (R142): a frame of kind 0x31. -/
def execGatePass (arr : Arrival) (payload : List Byte) (s : State) : Host.Outcome State Fault Refusal :=
  .next (performFrame arr 0x31 payload s)

/-- GRANT_EXPIRY (R147). -/
def execGrantExpiry (elapsed : Time) (gate : Byte) (s : State) : Host.Outcome State Fault Refusal :=
  .next (perform elapsed (grantExpiry gate) s)

end Sys2Proof.Machine
end

