-- ==== Sys2Proof/Machine/DoorCommands.lean ====
section
/-! DEFINITION. The meanings of the commands of one family: door reports, the timers of the door records, and the door requests. -/

namespace Sys2Proof.Machine

/-- DOOR_STATE (R104): a frame of kind 0x41. -/
def execDoorState (arr : Arrival) (payload : List Byte) (s : State) : Host.Outcome State Fault Refusal :=
  .next (performFrame arr 0x41 payload s)

/-- DOOR_STATE_LOST (R105). -/
def execDoorStateLost (elapsed : Time) (car : Car) (s : State) : Host.Outcome State Fault Refusal :=
  .next (perform elapsed (freshnessExpiry car) s)

/-- RELEASE_EXPIRY (R109). -/
def execReleaseExpiry (elapsed : Time) (car : Car) (side : Side)
    (s : State) : Host.Outcome State Fault Refusal :=
  .next (perform elapsed (releaseExpiry car side) s)

/-- CLOSE_EXPIRY (R112). -/
def execCloseExpiry (elapsed : Time) (car : Car) (side : Side)
    (s : State) : Host.Outcome State Fault Refusal :=
  .next (perform elapsed (closeExpiry car side) s)

/-- DOOR_REQ_OPEN (R107): a DOOR_REQ with action 1. -/
def execDoorReqOpen (arr : Arrival) (car side tag : Byte) (s : State) : Host.Outcome State Fault Refusal :=
  .next (performDoor arr car side 1 tag s)

/-- DOOR_REQ_CLOSE (R111): a DOOR_REQ with action 2. -/
def execDoorReqClose (arr : Arrival) (car side tag : Byte) (s : State) : Host.Outcome State Fault Refusal :=
  .next (performDoor arr car side 2 tag s)

/-- BAD_REQUEST (R106): a DOOR_REQ with an invalid car, side or action. -/
def execBadRequest (arr : Arrival) (car side action tag : Byte)
    (s : State) : Host.Outcome State Fault Refusal :=
  .next (performDoor arr car side action tag s)

end Sys2Proof.Machine
end

