-- ==== Sys2Proof/Machine/HaulCommands.lean ====
section
/-! DEFINITION. The meanings of the commands of one family: the timers of the Brake Supervisor and the Haul Controller, the drive, and the line commands. -/

namespace Sys2Proof.Machine

/-- LOSS_TIMER_EXPIRY (R52). -/
def execLossTimerExpiry (elapsed : Time) (s : State) : Host.Outcome State Fault Refusal :=
  .next (perform elapsed lossExpiry s)

/-- SUPERVISION_PERIOD_EXPIRY (R49). -/
def execSupervisionPeriodExpiry (elapsed : Time) (s : State) : Host.Outcome State Fault Refusal :=
  .next (perform elapsed supervisionExpiry s)

/-- ARM_EXPIRY (R89). -/
def execArmExpiry (elapsed : Time) (s : State) : Host.Outcome State Fault Refusal :=
  .next (perform elapsed armExpiry s)

/-- DRIVE_STATUS (R98): a frame of kind 0x21. -/
def execDriveStatus (arr : Arrival) (payload : List Byte) (s : State) : Host.Outcome State Fault Refusal :=
  .next (performFrame arr 0x21 payload s)

/-- DRIVE_EXPIRY (R98). -/
def execDriveExpiry (elapsed : Time) (s : State) : Host.Outcome State Fault Refusal :=
  .next (perform elapsed driveExpiry s)

/-- LINE_OPEN (R84): a LINE_CMD with command 0x01. -/
def execLineOpen (arr : Arrival) (argument tag : Byte) (s : State) : Host.Outcome State Fault Refusal :=
  .next (performLine arr 0x01 argument tag s)

/-- CLOSE_BOARDING (R85): a LINE_CMD with command 0x02. -/
def execCloseBoarding (arr : Arrival) (argument tag : Byte) (s : State) : Host.Outcome State Fault Refusal :=
  .next (performLine arr 0x02 argument tag s)

/-- DEPART (R86): a LINE_CMD with command 0x03. -/
def execDepart (arr : Arrival) (target tag : Byte) (s : State) : Host.Outcome State Fault Refusal :=
  .next (performLine arr 0x03 target tag s)

/-- LINE_STOP (R91): a LINE_CMD with command 0x04. -/
def execLineStop (arr : Arrival) (argument tag : Byte) (s : State) : Host.Outcome State Fault Refusal :=
  .next (performLine arr 0x04 argument tag s)

/-- PARK (R92): a LINE_CMD with command 0x05. -/
def execPark (arr : Arrival) (argument tag : Byte) (s : State) : Host.Outcome State Fault Refusal :=
  .next (performLine arr 0x05 argument tag s)

/-- UNKNOWN_COMMAND (R83): a LINE_CMD with any other command code. -/
def execUnknownCommand (arr : Arrival) (command argument tag : Byte)
    (s : State) : Host.Outcome State Fault Refusal :=
  .next (performLine arr command argument tag s)

end Sys2Proof.Machine
end

