-- ==== Sys2Proof/Machine/InputCommands.lean ====
section
/-! DEFINITION. The meanings of the commands of one family: the release of power-on reset, the time held in it, and the hardwired inputs. -/

namespace Sys2Proof.Machine

/-- POWER_ON_RESET (R156): the release of the reset, with the straps and levels read at it. -/
def execPowerOnReset (oa ma : BitVec 6) (stopChain resetKey : Level)
    (s : State) : Host.Outcome State Fault Refusal :=
  .next (powerOn oa ma stopChain resetKey s)

/-- HELD_IN_POWER_ON_RESET (R58, R81, R169). -/
def execHeldInPowerOnReset (s : State) : Host.Outcome State Fault Refusal :=
  .next (holdInReset s)

/-- RAW_LEVEL_CHANGE (R59). -/
def execRawLevelChange (elapsed : Time) (pin : Pin) (level : Level)
    (s : State) : Host.Outcome State Fault Refusal :=
  .next (perform elapsed (rawChange pin level) s)

/-- DEBOUNCE_EXPIRY (R59, R60). -/
def execDebounceExpiry (elapsed : Time) (pin : Pin) (s : State) : Host.Outcome State Fault Refusal :=
  .next (perform elapsed (debounceExpiry pin) s)

end Sys2Proof.Machine
end

