-- ==== Sys2Proof/Machine/ManagerCommands.lean ====
section
/-! DEFINITION. The meanings of the commands of one family: the requests of the manager. -/

namespace Sys2Proof.Machine

/-- READ_STATUS (R183): a MGMT_REQ with request 0x01. -/
def execReadStatus (arr : Arrival) (tag : Byte) (body : List Byte)
    (s : State) : Host.Outcome State Fault Refusal :=
  .next (performRequest arr 0x01 tag body s)

/-- LOAD (R175): a MGMT_REQ with request 0x02. -/
def execLoad (arr : Arrival) (tag : Byte) (body : List Byte) (s : State) : Host.Outcome State Fault Refusal :=
  .next (performRequest arr 0x02 tag body s)

/-- ACTIVATE (R177): a MGMT_REQ with request 0x03. -/
def execActivate (arr : Arrival) (tag : Byte) (body : List Byte)
    (s : State) : Host.Outcome State Fault Refusal :=
  .next (performRequest arr 0x03 tag body s)

/-- CANCEL_ACTIVATE (R182): a MGMT_REQ with request 0x04. -/
def execCancelActivate (arr : Arrival) (tag : Byte) (body : List Byte)
    (s : State) : Host.Outcome State Fault Refusal :=
  .next (performRequest arr 0x04 tag body s)

/-- READ_TABLE (R184): a MGMT_REQ with request 0x05. -/
def execReadTable (arr : Arrival) (tag : Byte) (body : List Byte)
    (s : State) : Host.Outcome State Fault Refusal :=
  .next (performRequest arr 0x05 tag body s)

/-- READ_TRIPS (R57): a MGMT_REQ with request 0x06. -/
def execReadTrips (arr : Arrival) (tag : Byte) (body : List Byte)
    (s : State) : Host.Outcome State Fault Refusal :=
  .next (performRequest arr 0x06 tag body s)

/-- READ_COUNTERS (R185): a MGMT_REQ with request 0x07. -/
def execReadCounters (arr : Arrival) (tag : Byte) (body : List Byte)
    (s : State) : Host.Outcome State Fault Refusal :=
  .next (performRequest arr 0x07 tag body s)

/-- CLEAR_COUNTERS (R185): a MGMT_REQ with request 0x08. -/
def execClearCounters (arr : Arrival) (tag : Byte) (body : List Byte)
    (s : State) : Host.Outcome State Fault Refusal :=
  .next (performRequest arr 0x08 tag body s)

/-- CLEAR_FLAGS (R159): a MGMT_REQ with request 0x09. -/
def execClearFlags (arr : Arrival) (tag : Byte) (body : List Byte)
    (s : State) : Host.Outcome State Fault Refusal :=
  .next (performRequest arr 0x09 tag body s)

/-- SET_DAY (R134): a MGMT_REQ with request 0x0A. -/
def execSetDay (arr : Arrival) (tag : Byte) (body : List Byte)
    (s : State) : Host.Outcome State Fault Refusal :=
  .next (performRequest arr 0x0A tag body s)

/-- REFERENCE (R14): a MGMT_REQ with request 0x0B. -/
def execReference (arr : Arrival) (tag : Byte) (body : List Byte)
    (s : State) : Host.Outcome State Fault Refusal :=
  .next (performRequest arr 0x0B tag body s)

/-- TRIP_RESET (R61): a MGMT_REQ with request 0x0C. -/
def execTripReset (arr : Arrival) (tag : Byte) (body : List Byte)
    (s : State) : Host.Outcome State Fault Refusal :=
  .next (performRequest arr 0x0C tag body s)

/-- MANUAL_TRIP (R62): a MGMT_REQ with request 0x0D. -/
def execManualTrip (arr : Arrival) (tag : Byte) (body : List Byte)
    (s : State) : Host.Outcome State Fault Refusal :=
  .next (performRequest arr 0x0D tag body s)

/-- BRAKE_TEST (R67): a MGMT_REQ with request 0x0E. -/
def execBrakeTest (arr : Arrival) (tag : Byte) (body : List Byte)
    (s : State) : Host.Outcome State Fault Refusal :=
  .next (performRequest arr 0x0E tag body s)

/-- BRAKE_TEST_ABORT (R75): a MGMT_REQ with request 0x0F. -/
def execBrakeTestAbort (arr : Arrival) (tag : Byte) (body : List Byte)
    (s : State) : Host.Outcome State Fault Refusal :=
  .next (performRequest arr 0x0F tag body s)

/-- REINIT (R186): a MGMT_REQ with request 0x10. -/
def execReinit (arr : Arrival) (tag : Byte) (body : List Byte)
    (s : State) : Host.Outcome State Fault Refusal :=
  .next (performRequest arr 0x10 tag body s)

/-- UNKNOWN_REQUEST (R174): a MGMT_REQ with any other request code. -/
def execUnknownRequest (arr : Arrival) (request tag : Byte) (body : List Byte)
    (s : State) : Host.Outcome State Fault Refusal :=
  .next (performRequest arr request tag body s)

end Sys2Proof.Machine
end

