-- ==== Sys2Proof/Machine/MotionCommands.lean ====
section
/-! DEFINITION. The meanings of the commands of one family: samples, markers and the timers of the Motion Estimator. -/

namespace Sys2Proof.Machine

/-- SAMPLE_SHEAVE (R4): a frame of kind 0x10. -/
def execSampleSheave (arr : Arrival) (payload : List Byte) (s : State) : Host.Outcome State Fault Refusal :=
  .next (performFrame arr 0x10 payload s)

/-- SAMPLE_CAR (R4): a frame of kind 0x11. -/
def execSampleCar (arr : Arrival) (payload : List Byte) (s : State) : Host.Outcome State Fault Refusal :=
  .next (performFrame arr 0x11 payload s)

/-- CHANNEL_EXPIRY (R7). -/
def execChannelExpiry (elapsed : Time) (ch : ChannelId) (s : State) : Host.Outcome State Fault Refusal :=
  .next (perform elapsed (channelExpiry ch) s)

/-- STILL_TIMER_EXPIRY (R18). -/
def execStillTimerExpiry (elapsed : Time) (s : State) : Host.Outcome State Fault Refusal :=
  .next (perform elapsed stillTimerExpiry s)

/-- MARKER (R15): a frame of kind 0x12. -/
def execMarker (arr : Arrival) (payload : List Byte) (s : State) : Host.Outcome State Fault Refusal :=
  .next (performFrame arr 0x12 payload s)

end Sys2Proof.Machine
end

