-- ==== Sys2Proof/Machine/RingCommands.lean ====
section
/-! DEFINITION. The meanings of the commands of one family: set-points, the frame boundary on OUT, and the frames no block takes; the beacon expiry. -/

namespace Sys2Proof.Machine

/-- SETPOINT (R163): a frame of kind 0x20. -/
def execSetpoint (arr : Arrival) (payload : List Byte) (s : State) : Host.Outcome State Fault Refusal :=
  .next (performFrame arr 0x20 payload s)

/-- OUT_BOUNDARY (R167). -/
def execOutBoundary (elapsed : Time) (s : State) : Host.Outcome State Fault Refusal :=
  .next (perform elapsed boundary s)

/-- FRAME_FORWARD (R160): any run of bytes between two delimiters. -/
def execFrameForward (elapsed : Time) (rx : List Byte) (s : State) : Host.Outcome State Fault Refusal :=
  .next (perform elapsed (takeFrame rx) s)

/-- STRIPPED (R160): a frame that comes back with src = OA. -/
def execStripped (arr : Arrival) (kind : Byte) (payload : List Byte)
    (s : State) : Host.Outcome State Fault Refusal :=
  .next (performFrame arr kind payload s)

/-- UNHANDLED (R160): a DOOR_CMD, reply, REPORT or BEACON. -/
def execUnhandled (arr : Arrival) (kind : Byte) (payload : List Byte)
    (s : State) : Host.Outcome State Fault Refusal :=
  .next (performFrame arr kind payload s)

/-- BEACON_EXPIRY (R192). -/
def execBeaconExpiry (elapsed : Time) (s : State) : Host.Outcome State Fault Refusal :=
  .next (perform elapsed beaconExpiry s)

end Sys2Proof.Machine
end

