-- ==== Sys2Proof/Machine/Dispatch.lean ====
section
/-! DEFINITION. One arm per command: the meaning of each row of the table. -/

namespace Sys2Proof.Machine

def exec (i : Instr) (s : State) : Host.Outcome State Fault Refusal :=
  match i with
  | .powerOnReset oa ma stopChain resetKey => Sys2Proof.Machine.execPowerOnReset oa ma stopChain resetKey s
  | .rawLevelChange elapsed pin level => Sys2Proof.Machine.execRawLevelChange elapsed pin level s
  | .debounceExpiry elapsed pin => Sys2Proof.Machine.execDebounceExpiry elapsed pin s
  | .sampleSheave arr payload => Sys2Proof.Machine.execSampleSheave arr payload s
  | .sampleCar arr payload => Sys2Proof.Machine.execSampleCar arr payload s
  | .channelExpiry elapsed ch => Sys2Proof.Machine.execChannelExpiry elapsed ch s
  | .stillTimerExpiry elapsed => Sys2Proof.Machine.execStillTimerExpiry elapsed s
  | .marker arr payload => Sys2Proof.Machine.execMarker arr payload s
  | .lossTimerExpiry elapsed => Sys2Proof.Machine.execLossTimerExpiry elapsed s
  | .supervisionPeriodExpiry elapsed => Sys2Proof.Machine.execSupervisionPeriodExpiry elapsed s
  | .armExpiry elapsed => Sys2Proof.Machine.execArmExpiry elapsed s
  | .driveStatus arr payload => Sys2Proof.Machine.execDriveStatus arr payload s
  | .driveExpiry elapsed => Sys2Proof.Machine.execDriveExpiry elapsed s
  | .lineOpen arr argument tag => Sys2Proof.Machine.execLineOpen arr argument tag s
  | .closeBoarding arr argument tag => Sys2Proof.Machine.execCloseBoarding arr argument tag s
  | .depart arr target tag => Sys2Proof.Machine.execDepart arr target tag s
  | .lineStop arr argument tag => Sys2Proof.Machine.execLineStop arr argument tag s
  | .park arr argument tag => Sys2Proof.Machine.execPark arr argument tag s
  | .unknownCommand arr command argument tag => Sys2Proof.Machine.execUnknownCommand arr command argument tag s
  | .doorState arr payload => Sys2Proof.Machine.execDoorState arr payload s
  | .doorStateLost elapsed car => Sys2Proof.Machine.execDoorStateLost elapsed car s
  | .releaseExpiry elapsed car side => Sys2Proof.Machine.execReleaseExpiry elapsed car side s
  | .closeExpiry elapsed car side => Sys2Proof.Machine.execCloseExpiry elapsed car side s
  | .doorReqOpen arr car side tag => Sys2Proof.Machine.execDoorReqOpen arr car side tag s
  | .doorReqClose arr car side tag => Sys2Proof.Machine.execDoorReqClose arr car side tag s
  | .badRequest arr car side action tag => Sys2Proof.Machine.execBadRequest arr car side action tag s
  | .ticket arr payload => Sys2Proof.Machine.execTicket arr payload s
  | .gatePass arr payload => Sys2Proof.Machine.execGatePass arr payload s
  | .grantExpiry elapsed gate => Sys2Proof.Machine.execGrantExpiry elapsed gate s
  | .setpoint arr payload => Sys2Proof.Machine.execSetpoint arr payload s
  | .outBoundary elapsed => Sys2Proof.Machine.execOutBoundary elapsed s
  | .frameForward elapsed rx => Sys2Proof.Machine.execFrameForward elapsed rx s
  | .stripped arr kind payload => Sys2Proof.Machine.execStripped arr kind payload s
  | .unhandled arr kind payload => Sys2Proof.Machine.execUnhandled arr kind payload s
  | .readStatus arr tag body => Sys2Proof.Machine.execReadStatus arr tag body s
  | .load arr tag body => Sys2Proof.Machine.execLoad arr tag body s
  | .activate arr tag body => Sys2Proof.Machine.execActivate arr tag body s
  | .cancelActivate arr tag body => Sys2Proof.Machine.execCancelActivate arr tag body s
  | .readTable arr tag body => Sys2Proof.Machine.execReadTable arr tag body s
  | .readTrips arr tag body => Sys2Proof.Machine.execReadTrips arr tag body s
  | .readCounters arr tag body => Sys2Proof.Machine.execReadCounters arr tag body s
  | .clearCounters arr tag body => Sys2Proof.Machine.execClearCounters arr tag body s
  | .clearFlags arr tag body => Sys2Proof.Machine.execClearFlags arr tag body s
  | .setDay arr tag body => Sys2Proof.Machine.execSetDay arr tag body s
  | .reference arr tag body => Sys2Proof.Machine.execReference arr tag body s
  | .tripReset arr tag body => Sys2Proof.Machine.execTripReset arr tag body s
  | .manualTrip arr tag body => Sys2Proof.Machine.execManualTrip arr tag body s
  | .brakeTest arr tag body => Sys2Proof.Machine.execBrakeTest arr tag body s
  | .brakeTestAbort arr tag body => Sys2Proof.Machine.execBrakeTestAbort arr tag body s
  | .reinit arr tag body => Sys2Proof.Machine.execReinit arr tag body s
  | .unknownRequest arr request tag body => Sys2Proof.Machine.execUnknownRequest arr request tag body s
  | .beaconExpiry elapsed => Sys2Proof.Machine.execBeaconExpiry elapsed s
  | .heldInPowerOnReset => Sys2Proof.Machine.execHeldInPowerOnReset s

end Sys2Proof.Machine
end

