-- ==== Sys2Proof/Safety.lean ====
section
/-! DEFINITION. What claims are stated in: arrivals that reach a block, streams that skip no expiry, and the laws
that every reachable state keeps. -/

namespace Sys2Proof.Machine

/-! ### Runs of the part -/

/-- Every running timer of the part. -/
def State.timers (s : State) : List Timer :=
  ([s.moe.s1.expiry, s.moe.s2.expiry, s.moe.ca.expiry, s.moe.cb.expiry, s.moe.stillTimer, s.brs.lossTimer,
    s.brs.sup.expiry, s.brs.chain.timer, s.brs.key.timer, s.hlc.armTimer, s.hlc.drive.expiry,
    s.dru.aLeft.timer, s.dru.aRight.timer, s.dru.bLeft.timer, s.dru.bRight.timer, s.dru.repA.expiry,
    s.dru.repB.expiry, s.rpu.beacon].filterMap id) ++ s.adu.grants.map (·.expiry)

/-- A command is punctual: no running timer has been reached before the moment at which it is taken, so no expiry
has been skipped (log 4). A stream whose commands are all punctual is a run of the part. -/
def punctual (c : Instr) (s : State) : Prop :=
  ∀ elapsed, rowElapsed c = some elapsed →
    ∀ t ∈ s.timers, since t.start s.clock + elapsed.toNat ≤ t.dur

/-- The command c takes the state s to a state of which P holds. -/
def Completes (c : Instr) (s : State) (P : State → Prop) : Prop := ∃ t, exec c s = .next t ∧ P t

/-- The command c answers a next state, made of a state u of which P holds by what the end of every step does: it takes
an activation that is pending in u, where the step has put the haul into PARKED or TRIPPED (R178). u keeps the pending
mask that s holds; where there is none, u is the next state. -/
def Settles (c : Instr) (s : State) (P : State → Prop) : Prop :=
  ∃ e u, rowElapsed c = some e ∧ exec c s = .next (settle (begin e s) u) ∧ P u ∧
    u.mga.pendingMask = s.mga.pendingMask ∧ (s.mga.pendingMask = none → exec c s = .next u)

/-! ### Arrivals -/

/-- A frame of this kind and payload arrives intact at a part that takes frames: it is out of reset, its straps are
good, and the FIFO has a place (R156, R158). -/
structure Arrives (s : State) (arr : Arrival) (kind : Byte) (payload : List Byte) : Prop where
  running : s.inReset = false
  straps : s.strapFault = false
  sound : intact arr kind payload = true
  room : s.rif.fifoUsed < 8

/-- A request that is taken: addressed to OA, from another node, with room for its reply (R160, R164). -/
structure RequestArrives (s : State) (arr : Arrival) (kind : Byte) (payload : List Byte) : Prop
    extends Arrives s arr kind payload where
  toPart : arr.dst = s.oaByte
  fromOther : arr.src ≠ s.oaByte
  replyRoom : s.rif.reply.length < 4

/-- A LINE_CMD or DOOR_REQ of the console that is taken. -/
structure ConsoleArrives (s : State) (arr : Arrival) (kind : Byte) (payload : List Byte) : Prop
    extends RequestArrives s arr kind payload where
  console : s.roleOf arr.src = some .console

/-- A MGMT_REQ of the manager that is taken. -/
structure ManagerArrives (s : State) (arr : Arrival) (payload : List Byte) : Prop
    extends RequestArrives s arr 0x60 payload where
  manager : arr.src = s.maByte

/-- A frame of a read kind that is read on its way past: sent by another node to a node other than the part. -/
structure PassesBy (s : State) (arr : Arrival) (kind : Byte) (payload : List Byte) : Prop
    extends Arrives s arr kind payload where
  toOther : arr.dst ≠ s.oaByte
  fromOther : arr.src ≠ s.oaByte

/-! ### What claims say of the state after a command -/

/-- The queue, the straps and the reset stand; the clock has moved on and one more command is taken. -/
structure Timed (elapsed : Time) (s t : State) : Prop where
  pending : t.pending = s.pending
  steps : t.steps = s.steps + 1
  inReset : t.inReset = s.inReset
  clock : t.clock = s.clock + elapsed
  oa : t.oa = s.oa
  ma : t.ma = s.ma

/-- The LINE_REPLY to a request of the console: tag, kind replied to, command or door action, result (R170). -/
def lineReply (s : State) (arr : Arrival) (tag kind command result : Byte) : Frame :=
  { kind := 0x51, dst := arr.src, src := s.oaByte, seq := arr.seq, payload := [tag, kind, command, result] }

/-- The MGMT_REPLY to a request of the manager: request, tag, result, body (R170). -/
def mgmtReply (s : State) (arr : Arrival) (request tag result : Byte) (body : List Byte) : Frame :=
  { kind := 0x61, dst := arr.src, src := s.oaByte, seq := arr.seq, payload := [request, tag, result] ++ body }

/-- The Ring Interface after a request that is answered and places nothing else: ABSORBED is counted and the reply
stands last in its class (R164, R168). -/
def State.answered (s : State) (reply : Frame) : Rif :=
  { s.rif.count .absorbed with reply := s.rif.reply ++ [reply] }

/-- The Ring Interface after a frame that is forwarded: it stands last in the FIFO (R160). -/
def State.forwarded (s : State) (f : Frame) (note : FifoNote) : Rif :=
  { s.rif with fifo := s.rif.fifo ++ [⟨f, note⟩] }

/-- The forced zero set-point of the part, with the transmit sequence seq (R47). -/
def State.forcedZero (s : State) (seq : Byte) : Frame :=
  { kind := 0x20, dst := s.addressOf .drive, src := s.oaByte, seq := seq, payload := [0, 0, 0, 0, 4] }

/-- The sample row of a channel (R2). -/
def sampleRow (ch : ChannelId) (arr : Arrival) (payload : List Byte) : Instr :=
  match ch with
  | .s1 => .sampleSheave arr payload
  | .s2 => .sampleSheave arr payload
  | .ca => .sampleCar arr payload
  | .cb => .sampleCar arr payload

/-- The frame kind and the sending role of a channel (R2). -/
def sampleSource : ChannelId → Byte × Role
  | .s1 => (0x10, .sheaveS1)
  | .s2 => (0x10, .sheaveS2)
  | .ca => (0x11, .carA)
  | .cb => (0x11, .carB)

/-- A sample frame of seven payload bytes on its way past, from the node whose role selects the channel, while a
LINE record is active (R2, R161, R162). -/
structure SamplePasses (s : State) (arr : Arrival) (payload : List Byte) (ch : ChannelId) (l : Line) : Prop
    extends PassesBy s arr (sampleSource ch).1 payload where
  length : payload.length = 7
  role : s.roleOf arr.src = some (sampleSource ch).2
  line : s.line = some l

/-! ### The laws of the haul -/

/-- The thresholds are those of the envelope in force (R43). -/
def State.thresholdsFollow (s : State) : Prop :=
  match s.line with
  | some l => s.brs.tWarn = warnThreshold l s.env.e ∧ s.brs.tSvc = serviceThreshold l s.env.e ∧
      s.brs.tEmg = emergencyThreshold l s.env.e s.env.mode
  | none => s.brs.tWarn = 0 ∧ s.brs.tSvc = 0 ∧ s.brs.tEmg = 0

/-- The laws that tie the haul state, the trip, the doors, the envelope and the supervision together. -/
structure HaulSound (s : State) : Prop where
  /-- a trip is latched exactly while the haul is TRIPPED (R55, R58, R61) -/
  latched : s.brs.trip.latched = true ↔ s.hlc.state = .tripped
  /-- whenever ESTOP_LATCHED is set, a trip is latched (R60) -/
  estop : s.brs.estopLatched = true → s.brs.trip.latched = true
  /-- every door record is LOCKED in ARMED and RUNNING (R99) -/
  doors : s.hlc.state = .armed ∨ s.hlc.state = .running → s.dru.allLocked = true
  /-- boarding is open only in BOARDING (R80) -/
  boarding : s.hlc.boardingOpen = true → s.hlc.state = .boarding
  /-- the berth is none in RUNNING, SERVICE_STOP and TRIPPED (R80) -/
  berth : s.hlc.state = .running ∨ s.hlc.state = .serviceStop ∨ s.hlc.state = .tripped → s.hlc.berth = none
  /-- the arm timer runs in ARMED alone (R80, R88, R90, R97) -/
  arm : s.hlc.state ≠ .armed → s.hlc.armTimer = none
  /-- the mode is OFF exactly at rest, and E is then 0 (R28, R29) -/
  mode : s.env.mode = .off ↔ s.hlc.state.atRest = true
  envelope : s.hlc.state.atRest = true → s.env.e = 0
  /-- the envelope lies within 0..v_line_max (R38) -/
  limit : s.env.e ≤ s.param (·.vLineMax) 0
  /-- at rest the tier is NORMAL, the flags clear and the supervision IDLE (R45, R50, R51) -/
  tier : s.hlc.state.atRest = true → s.brs.tier = .normal ∧ s.brs.aboveService = false ∧
    s.brs.lossFlag = false ∧ s.brs.lossTimer = none ∧ s.brs.sup.active = false
  /-- the thresholds follow the envelope (R43) -/
  thresholds : s.thresholdsFollow
  /-- the trip history holds at most 8 entries (R57) -/
  history : s.brs.history.length ≤ 8

/-! ### The laws of the ring -/

/-- The capacities of the FIFO and of the insertion classes, and the bound of the back-to-back count (R158, R165,
R167). -/
structure RingSound (s : State) : Prop where
  fifo : s.rif.fifoUsed ≤ 8
  door : (s.rif.door.map fun x => (x.car, x.side)).Nodup
  reply : s.rif.reply.length ≤ 4
  report : s.rif.report.length ≤ 8
  count : s.rif.backToBack ≤ 4

/-! ### The laws of admission -/

/-- The laws of the pending grants, the passback list and the capacities (R120, R130, R139, R141, R149). -/
structure AdmissionSound (s : State) : Prop where
  grants : s.adu.grants.length ≤ 16
  gates : (s.adu.grants.map (·.gate)).Nodup
  tokens : (s.adu.grants.map (·.token)).Nodup
  tokenNonzero : ∀ g ∈ s.adu.grants, g.token ≠ 0
  counter : s.adu.token ≠ 0
  serials : (s.adu.grants.map (·.serial) ++ s.adu.passback.map (·.serial)).Nodup
  passback : s.adu.passback.length ≤ 64
  unticketed : s.adu.unticketedA ≤ 255 ∧ s.adu.unticketedB ≤ 255
  capacity : ∀ l, s.line = some l → s.adu.held .a ≤ l.capA ∧ s.adu.held .b ≤ l.capB

/-! ### The laws of the tables -/

/-- Each element is below the next. -/
def rising (xs : List Int) : Prop := xs.Pairwise (· < ·)

/-- The active PROFILE and STOP tables rise by position, HOTLIST and PRODUCT by serial and code (R180); a VALID
shadow has passed validation (R176); a pending activation names VALID shadows of haul tables and waits for
PARKED or TRIPPED (R177, R178). -/
structure TablesSound (s : State) : Prop where
  stop : ∀ t, s.mga.active.stop = some t → rising (t.map (·.pos))
  profile : ∀ t, s.mga.active.profile = some t → rising (t.map (·.start))
  product : ∀ t, s.mga.active.product = some t → rising (t.map fun p => (p.code.toNat : Int))
  hotlist : ∀ t, s.mga.active.hotlist = some t → rising (t.map fun x => (x.toNat : Int))
  shadows : ∀ t, (s.mga.shadow t).state = .valid → validate s.oaByte t (s.mga.shadow t).entries = none
  pending : ∀ mask, s.mga.pendingMask = some mask → haulMask mask = true ∧
    (∀ t, names mask t = true → (s.mga.shadow t).state = .valid) ∧
    s.hlc.state ≠ .parked ∧ s.hlc.state ≠ .tripped

/-! ### The laws of the motion estimate -/

/-- The laws of the channel records, the source and STILL (R3, R5, R9, R10, R12, R18). -/
structure MotionSound (s : State) : Prop where
  /-- a FRESH channel holds at least one entry, any other holds none (R3) -/
  fresh : ∀ ch, (s.moe.channel ch).state = .fresh ↔ (s.moe.channel ch).history ≠ []
  /-- a history holds at most 8 entries (R5) -/
  history : ∀ ch, (s.moe.channel ch).history.length ≤ 8
  /-- a channel that is not FRESH has no estimate and no expiry, and SATURATED is clear (R3, R7) -/
  idle : ∀ ch, (s.moe.channel ch).state ≠ .fresh → (s.moe.channel ch).estimate = none ∧
    (s.moe.channel ch).expiry = none ∧ (s.moe.channel ch).saturated = false
  /-- a FRESH channel has an arrival and an expiry (R3) -/
  timed : ∀ ch, (s.moe.channel ch).state = .fresh →
    (s.moe.channel ch).lastArrival.isSome = true ∧ (s.moe.channel ch).expiry.isSome = true
  /-- every estimate lies within ±32,767 (R9) -/
  estimate : ∀ ch v, (s.moe.channel ch).estimate = some v → -32767 ≤ v ∧ v ≤ 32767
  /-- V lies in 0..32,767 (R10) -/
  speed : s.moe.last.v ≤ 32767
  /-- the source is S1 if FRESH, else S2 if FRESH, else none (R12) -/
  source : s.moe.source = s.moe.choice
  /-- STILL lasts as long as its candidate (R18) -/
  still : s.moe.still = true → s.moe.candidate.isSome = true

/-! ### The laws of the timed records -/

/-- A stage that is WAITING or BRAKING. -/
def Stage.live (x : Stage) : Prop := x.status = .waiting ∨ x.status = .braking

/-- The laws of the door timers, the brake test, the supervision and the stop chain (R48, R50, R60, R66, R103). -/
structure RecordSound (s : State) : Prop where
  /-- an action timer runs in RELEASING and CLOSING alone (R103) -/
  doors : ∀ car side, (s.dru.door car side).timer.isSome = true ↔
    (s.dru.door car side).state = .releasing ∨ (s.dru.door car side).state = .closing
  /-- a test is ACTIVE exactly while a stage is WAITING or BRAKING (R66) -/
  test : s.test.state = .active ↔ s.test.svc.live ∨ s.test.emg.live
  /-- only one stage is WAITING or BRAKING (R66) -/
  single : ¬ (s.test.svc.live ∧ s.test.emg.live)
  /-- supervision is ACTIVE exactly in SERVICE_STOP (R48, R50) -/
  supervision : s.brs.sup.active = true ↔ s.hlc.state = .serviceStop
  /-- ESTOP_LATCHED stays set for as long as the debounced chain is OPEN (R60) -/
  chain : s.brs.chain.level = .opened → s.brs.estopLatched = true

/-! ### The laws of the set-points -/

/-- The SETPOINT frames inside the part (R46, R47, R163): the forced one carries speed 0; a forwarded one waits
with its role judgement; no other class holds one. -/
structure SetpointSound (s : State) : Prop where
  force : ∀ f, s.rif.force = some f → f.kind = 0x20 ∧ f.payload = [0, 0, 0, 0, 4]
  fifo : ∀ x ∈ s.rif.fifo, (x.frame.kind = 0x20 ↔ x.note = .consoleSetpoint ∨ x.note = .zeroedSetpoint) ∧
    (x.frame.kind = 0x20 → x.frame.payload.length = 5)
  door : ∀ x ∈ s.rif.door, x.frame.kind ≠ 0x20
  reply : ∀ f ∈ s.rif.reply, f.kind ≠ 0x20
  report : ∀ x ∈ s.rif.report, x.frame.kind ≠ 0x20
  beacon : ∀ f, s.rif.beacon = some f → f.kind ≠ 0x20

end Sys2Proof.Machine
end

