-- ==== Sys2Proof/Certificates/Slice0/Obligations.lean ====
section
/-! DEFINITION. The statements of the model, rule by rule. -/

open Sys2Proof Sys2Proof.Machine

/-! ### The queue, the clock and the reset -/

/-- The step takes the command at the front of the queue and runs it on the state with the queue's rest; on an
empty queue the part idles (the model's choice, log 3). -/
def Obligations.StepRunsTheFrontCommand : Prop :=
  (∀ (c : Instr) (rest : List Instr) (s : State), s.pending = c :: rest →
    step s = exec c (s.withPending rest)) ∧
  ∀ s : State, s.pending = [] → step s = .next s

/-- Every command completes from every state: none ends in a fault or a refusal. No command touches the queue, whatever
it is and whatever the state. Every command but the two resets, taken by
a running part, moves the line clock on by its own time and leaves the straps and the reset as they are (R1; the
time as an operand is the model's form, log 1). -/
def Obligations.CommandsKeepTheQueueAndTheTime : Prop :=
  (∀ (c : Instr) (s : State), ∃ t, exec c s = .next t) ∧
  (∀ (c : Instr) (s t : State), exec c s = .next t → t.pending = s.pending) ∧
  (∀ (c : Instr) (elapsed : Time) (s t : State), rowElapsed c = some elapsed → s.inReset = false →
     exec c s = .next t → Timed elapsed s t)

/-- The three outputs follow the haul state and, in SERVICE_STOP, the stop cause; held in reset, EB_HOLD is
de-energised, SB_DEMAND asserted and DRIVE_ENABLE deasserted (R58, R81). HELD_IN_POWER_ON_RESET stops OUT (R169);
that no other record changes before the release, and that a timed command then leaves the part and its clock as they
are, is the model's choice (log 8). -/
def Obligations.OutputsFollowTheHaulStateAndTheReset : Prop :=
  (∀ s : State, s.inReset = false →
    (s.ebHold = true ↔ s.hlc.state ≠ .tripped) ∧
    (s.sbDemand = false ↔ s.hlc.state = .armed ∨ s.hlc.state = .running) ∧
    (s.driveEnable = true ↔ s.hlc.state = .armed ∨ s.hlc.state = .running ∨
      (s.hlc.state = .serviceStop ∧ s.hlc.stopCause ≠ some .brakeTest))) ∧
  (∀ s : State, s.inReset = true → s.ebHold = false ∧ s.sbDemand = true ∧ s.driveEnable = false) ∧
  (∀ s : State, exec .heldInPowerOnReset s =
    .next { s with inReset := true, steps := s.steps + 1, rif := { s.rif with sending := none } }) ∧
  ∀ (c : Instr) (elapsed : Time) (s : State), rowElapsed c = some elapsed → s.inReset = true →
    exec c s = .next s

/-- POWER_ON_RESET, whatever state the part was in: the straps as read, the clock at 0, MOE, ENV, the brake test,
the haul record, the doors, ADU and MGA at their reset values; the tier NORMAL, the thresholds 0, supervision IDLE and no
loss; POWER_UP latched, with STRAP and ESTOP_CHAIN in the cause set where they hold; every counter 0 and nothing pending
but ESTOP_CHAIN where the chain is open, which good straps place at once as REPORT 1 and bad ones leave pending; no beacon
timer; the forced set-point waiting unless the straps are in fault (R24, R41, R47, R64, R78, R101, R118, R137, R153, R156,
R169, R187, R194). The set-point's seq follows ESTOP_CHAIN, which is raised first (the
model's reading, log 18); the latest update of t.moe, the supervision's V_start and short periods, the idle pin timers and
the cleared mark of the history entry are the model's choice (log 20). -/
def Obligations.PowerOnResetSetsEveryBlock : Prop :=
  ∀ (oa ma : BitVec 6) (chain key : Level) (s : State),
    Completes (.powerOnReset oa ma chain key) s fun t =>
      t.pending = s.pending ∧ t.inReset = false ∧ t.clock = 0 ∧ t.oa = oa ∧ t.ma = ma ∧
      (t.strapFault = true ↔ oa = 0 ∨ oa = 63 ∨ ma = 0 ∨ ma = 63 ∨ oa = ma) ∧
      t.moe = State.reset.moe ∧ t.env = State.reset.env ∧ t.test = State.reset.test ∧
      t.hlc = State.reset.hlc ∧ t.dru = State.reset.dru ∧ t.adu = State.reset.adu ∧ t.mga = State.reset.mga ∧
      t.brs.chain = { raw := chain, level := chain, timer := none } ∧
      t.brs.key = { raw := key, level := key, timer := none } ∧
      t.brs.trip = { latched := true, first := some .powerUp,
                     causes := 1 ||| (if t.strapFault then 2 else 0) ||| (if chain = .opened then 32 else 0),
                     posA := 0, v := 0, time := 0 } ∧
      t.brs.history = [{ first := some .powerUp, causes := t.brs.trip.causes, posA := 0, v := 0, time := 0,
                         cleared := false }] ∧
      (t.brs.estopLatched = true ↔ chain = .opened) ∧
      t.brs.tier = .normal ∧ t.brs.aboveService = false ∧ t.brs.tWarn = 0 ∧ t.brs.tSvc = 0 ∧ t.brs.tEmg = 0 ∧
      t.brs.sup = { active := false, vStart := 0, short := 0, expiry := none } ∧
      t.brs.lossFlag = false ∧ t.brs.lossTimer = none ∧
      t.rpu.beacon = none ∧ (∀ k : Fin 28, k ≠ EventKind.estopChain.code → t.rpu.slots[k] = ⟨0, none⟩) ∧
      t.rpu.slots[EventKind.estopChain.code] = ⟨if chain = .opened then 1 else 0,
        if chain = .opened ∧ t.strapFault = true then some ⟨1, 0, 0⟩ else none⟩ ∧
      t.rif.fifo = [] ∧ t.rif.sending = none ∧ t.rif.door = [] ∧ t.rif.reply = [] ∧ t.rif.beacon = none ∧
      t.rif.backToBack = 0 ∧ t.rif.counters = Vector.replicate 16 0 ∧
      (t.rif.crcFlag = false ∧ t.rif.formatFlag = false ∧ t.rif.overrunFlag = false) ∧
      (if t.strapFault then t.rif.force = none ∧ t.rif.report = [] ∧ t.rif.txSeq = 0 ∧ t.rpu.seq = 0
       else t.rpu.seq = (if chain = .opened then 1 else 0) ∧ t.rif.txSeq = t.rpu.seq + 1 ∧
         t.rif.report = (if chain = .opened then [⟨⟨0x70, ma.setWidth 8, oa.setWidth 8, 0,
           [1, 1, 2, 1, 0, 0, 0, 0, 0, 0, 0, 0]⟩, true⟩] else []) ∧
         t.rif.force = some ⟨0x20, 63, oa.setWidth 8, t.rpu.seq, [0, 0, 0, 0, 4]⟩) ∧
      t.ebHold = false ∧ t.sbDemand = true ∧ t.driveEnable = false

/-- The values the manual gives for power-on reset, written out field by field (R24, R41, R64, R78, R101, R118,
R137, R153, R169, R187, R194). The forced set-point of R47 waits with the first transmit sequence, 0, so that 1 is
the next. The straps 5 and 2, the closed chain and the open key are the model's board (log 2).
The state at reset meets every law that the steps keep. -/
def Obligations.ResetStateHoldsTheManualsValuesAndTheLaws : Prop :=
  (let s := State.reset
   (s.hlc.state = .tripped ∧ s.hlc.berth = none ∧ s.hlc.boardingOpen = false ∧ s.hlc.target = none ∧
     s.hlc.dir = .none ∧ s.hlc.origin = none ∧ s.hlc.armTimer = none ∧ s.hlc.stopCause = none ∧ s.hlc.further = 0 ∧
     s.hlc.drive = { ready := 0, fault := 0, speed := 0, arrival := none, expiry := none }) ∧
   (s.brs.tier = .normal ∧ s.brs.aboveService = false ∧ s.brs.tWarn = 0 ∧ s.brs.tSvc = 0 ∧ s.brs.tEmg = 0 ∧
     s.brs.sup.active = false ∧ s.brs.sup.expiry = none ∧ s.brs.lossFlag = false ∧ s.brs.lossTimer = none ∧
     s.brs.trip = { latched := true, first := some .powerUp, causes := 1, posA := 0, v := 0, time := 0 } ∧
     s.brs.history.length = 1 ∧ (∀ x ∈ s.brs.history, x.first = some .powerUp ∧ x.causes = 1 ∧ x.posA = 0 ∧ x.v = 0 ∧
       x.time = 0) ∧
     s.brs.estopLatched = false ∧ s.brs.chain.level = .closed ∧ s.brs.key.level = .opened) ∧
   (s.env.mode = .off ∧ s.env.e = 0 ∧ s.env.loadClass = 0 ∧ s.env.load = 0 ∧ s.env.target = none ∧
     s.env.dir = .none) ∧
   (∀ ch, s.moe.channel ch =
       { state := .absent, history := [], lastArrival := none, expiry := none, estimate := none,
         saturated := false }) ∧
   (s.moe.ref1 = ⟨0, 0⟩ ∧ s.moe.ref2 = ⟨0, 0⟩ ∧ s.moe.posA = 0 ∧ s.moe.source = none ∧ s.moe.gap = false ∧
     s.moe.status = .unreferenced ∧ s.moe.still = false ∧ s.moe.candidate = none ∧ s.moe.stillTimer = none ∧
     s.moe.held = true ∧ s.moe.disagree = ⟨none, false⟩ ∧ s.moe.slipA = ⟨none, false⟩ ∧ s.moe.slipB = ⟨none, false⟩ ∧
     s.moe.last.v = 0 ∧ s.moe.last.known = false ∧ s.moe.last.dir = .none ∧
     s.moe.counters = Vector.replicate 26 0) ∧
   (s.test.state = .idle ∧ s.test.vTest = 0 ∧ s.test.svcFailed = false ∧ s.test.emgFailed = false ∧
     s.test.abortPending = false ∧ s.test.failureMark = false ∧ s.test.selSvc = false ∧ s.test.selEmg = false ∧
     s.test.svc = ⟨.idle, 0, 0, 0, 0, 0, 0⟩ ∧ s.test.emg = ⟨.idle, 0, 0, 0, 0, 0, 0⟩) ∧
   (∀ car side, s.dru.door car side = { state := .locked, timer := none }) ∧
   (s.dru.movingOpen = false ∧ (∀ car, s.dru.reports car = ⟨none, none⟩)) ∧
   (s.adu.token = 1 ∧ s.adu.passback = [] ∧ s.adu.fullA = false ∧ s.adu.fullB = false ∧ s.adu.grants = [] ∧
     s.adu.aboardA = 0 ∧ s.adu.aboardB = 0 ∧ s.adu.unticketedA = 0 ∧ s.adu.unticketedB = 0 ∧
     s.adu.counters = Vector.replicate 23 0) ∧
   (∀ t, s.mga.shadow t = { state := .empty, entries := [], failure := none }) ∧
   (s.mga.active.mask = 0x80 ∧ s.mga.pendingMask = none ∧ s.mga.day = 0 ∧
     s.mga.active.reportLevel = List.replicate 28 2 ++ [0, 1]) ∧
   (s.rpu.seq = 0 ∧ s.rpu.beacon = none ∧ ∀ k : Fin 28, s.rpu.slots[k] = ⟨0, none⟩) ∧
   (s.clock = 0 ∧ s.rif.fifo = [] ∧ s.rif.sending = none ∧ s.rif.counters = Vector.replicate 16 0 ∧
     s.rif.backToBack = 0 ∧ s.rif.door = [] ∧ s.rif.reply = [] ∧ s.rif.report = [] ∧ s.rif.beacon = none ∧
     s.rif.crcFlag = false ∧ s.rif.formatFlag = false ∧ s.rif.overrunFlag = false ∧
     s.rif.force = some ⟨0x20, 63, 5, 0, [0, 0, 0, 0, 4]⟩ ∧ s.rif.txSeq = 1)) ∧
  (HaulSound State.reset ∧ RingSound State.reset ∧ AdmissionSound State.reset ∧ TablesSound State.reset ∧
   MotionSound State.reset ∧ RecordSound State.reset ∧ SetpointSound State.reset)

/-! ### The laws that every step keeps -/

/-- Every step keeps the laws of the haul: a trip is latched exactly while TRIPPED; every door is LOCKED in ARMED and
RUNNING; boarding is open in BOARDING alone; the mode is OFF exactly at rest and E is then 0; E lies within
0..v_line_max; the thresholds follow E; the history holds at most 8 (R29, R38, R43, R45, R57, R60, R80, R99). -/
def Obligations.EveryStepKeepsTheHaulLaws : Prop :=
  ∀ s t : State, HaulSound s → step s = .next t → HaulSound t

/-- Every step keeps the capacities of the FIFO and the insertion classes and the bound of the back-to-back count
(R158, R165, R167). Every step keeps the laws of the set-points inside the part (R46, R47, R163). -/
def Obligations.EveryStepKeepsTheRingAndSetpointLaws : Prop :=
  (∀ s t : State, RingSound s → step s = .next t → RingSound t) ∧
  (∀ s t : State, SetpointSound s → step s = .next t → SetpointSound t)

/-- Every step keeps the laws of admission: at most 16 grants, one for each gate and each token, no serial twice
across grants and passback list, aboard plus pending within the capacity (R130, R139, R141, R149). -/
def Obligations.EveryStepKeepsTheAdmissionLaws : Prop :=
  ∀ s t : State, AdmissionSound s → step s = .next t → AdmissionSound t

/-- Every step keeps the laws of the tables: active tables in ascending order, VALID shadows validated, a pending
activation of VALID haul tables in no state but BOARDING, ARMED, RUNNING and SERVICE_STOP (R176–R178, R180). -/
def Obligations.EveryStepKeepsTheTableLaws : Prop :=
  ∀ s t : State, TablesSound s → step s = .next t → TablesSound t

/-- Every step keeps the laws of the motion estimate: histories, estimates, the choice of source, STILL (R3, R5, R9,
R10, R12, R18). Every step keeps the laws of the timed records: door timers, the live stage of a brake test,
supervision exactly in SERVICE_STOP, ESTOP_LATCHED while the chain is OPEN (R48, R50, R60, R66, R103). -/
def Obligations.EveryStepKeepsTheMotionAndTimedRecordLaws : Prop :=
  (∀ s t : State, MotionSound s → step s = .next t → MotionSound t) ∧
  (∀ s t : State, RecordSound s → step s = .next t → RecordSound t)

/-! ### Motion estimation (chapter 1) -/

/-- A sample that fails a check of R4 is discarded: it is forwarded, the counter of the first failing check rises
by one, and nothing else changes: no channel record, no event, no motion update. Without a LINE record NO_LINE is
counted (R2, R4, R160).
A sample accepted on a FRESH channel stands last in the history, of which the newest eight stay; the arrival and
the expiry are those of the moment, the estimate is that of the new history, ACCEPTED rises by one, and no other
channel changes. posA follows the source alone (R5, R8, R11, R12).
A healthy sample on an ABSENT or STALE channel restarts it: one history entry, FRESH, no estimate; a sheave's
reference becomes the sample's count at posA, posA does not step, and the source is re-chosen (R6, R12). What is said
holds before the end of the step takes a pending activation (R178). -/
def Obligations.SamplesAreCheckedThenTaken : Prop :=
  (∀ (s : State) (arr : Arrival) (p : List Byte) (ch : ChannelId),
     (PassesBy s arr (sampleSource ch).1 p → p.length = 7 → s.roleOf arr.src = some (sampleSource ch).2 →
       s.line = none →
       exec (sampleRow ch arr p) s = .next { begin arr.elapsed s with
         rif := s.forwarded (frameOf arr (sampleSource ch).1 p) .plain
         moe := { s.moe with counters := bumpBy s.moe.counters MotionCounter.noLine.idx 1 } }) ∧
     ∀ (l : Line), SamplePasses s arr p ch l →
       ∀ why : ChannelCounter,
         ((why = .unhealthy ∧ byteAt p 6 ≠ 1) ∨
           ∃ newest, byteAt p 6 = 1 ∧ (s.moe.channel ch).state = .fresh ∧
             (s.moe.channel ch).history.getLast? = some newest ∧
             ((why = .duplicate ∧ wordAt p 4 = newest.tick) ∨
               (why = .implausible ∧ wordAt p 4 ≠ newest.tick ∧
                 2 * l.vTripAbs < (longAt p 0 - newest.count).toInt.natAbs * (l.channel ch).scale * 10 /
                   (wordAt p 4 - newest.tick).toNat))) →
         exec (sampleRow ch arr p) s = .next { begin arr.elapsed s with
           rif := s.forwarded (frameOf arr (sampleSource ch).1 p) .plain
           moe := { s.moe with counters := bumpBy s.moe.counters (MotionCounter.channel ch why).idx 1 } }) ∧
  (∀ (s : State) (arr : Arrival) (p : List Byte) (ch : ChannelId) (l : Line) (newest : Sample),
     SamplePasses s arr p ch l → byteAt p 6 = 1 →
     (s.moe.channel ch).state = .fresh → (s.moe.channel ch).history.getLast? = some newest →
     wordAt p 4 ≠ newest.tick →
     (longAt p 0 - newest.count).toInt.natAbs * (l.channel ch).scale * 10 / (wordAt p 4 - newest.tick).toNat
       ≤ 2 * l.vTripAbs →
     Settles (sampleRow ch arr p) s fun t =>
       let x : Sample := ⟨longAt p 0, wordAt p 4⟩
       let h := (s.moe.channel ch).history ++ [x]
       let c := t.moe.channel ch
       c.state = .fresh ∧ c.history = h.drop (h.length - 8) ∧ c.lastArrival = some t.clock ∧
       c.expiry = some { start := t.clock, dur := l.stale ch } ∧
       c.estimate = (estimateOf (l.channel ch) c.history).map (·.1) ∧
       (∀ ch', ch' ≠ ch → t.moe.channel ch' = s.moe.channel ch') ∧
       t.moe.counters = bumpBy s.moe.counters (MotionCounter.channel ch .accepted).idx 1 ∧
       t.moe.source = s.moe.source ∧ t.moe.ref1 = s.moe.ref1 ∧ t.moe.ref2 = s.moe.ref2 ∧
       (∀ sh : Sheave, s.moe.source = some sh → sh.channel = ch →
         some t.moe.posA = t.moe.position l sh) ∧
       (∀ sh : Sheave, s.moe.source = some sh → sh.channel ≠ ch → t.moe.posA = s.moe.posA) ∧
       t.rif.fifo = s.rif.fifo ++ [⟨frameOf arr (sampleSource ch).1 p, .plain⟩] ∧ t.mga = s.mga) ∧
  (∀ (s : State) (arr : Arrival) (p : List Byte) (ch : ChannelId) (l : Line),
     SamplePasses s arr p ch l → byteAt p 6 = 1 →
     (s.moe.channel ch).state ≠ .fresh →
     Settles (sampleRow ch arr p) s fun t =>
       t.moe.channel ch =
         { state := .fresh, history := [⟨longAt p 0, wordAt p 4⟩], lastArrival := some t.clock,
           expiry := some { start := t.clock, dur := l.stale ch }, estimate := none, saturated := false } ∧
       (∀ ch', ch' ≠ ch → t.moe.channel ch' = s.moe.channel ch') ∧
       t.moe.counters = bumpBy s.moe.counters (MotionCounter.channel ch .accepted).idx 1 ∧
       t.moe.posA = s.moe.posA ∧
       (∀ sh : Sheave, sh.channel = ch → t.moe.reference sh = { count := longAt p 0, pos := s.moe.posA } ∧
         t.moe.source = t.moe.choice) ∧
       ((ch = .ca ∨ ch = .cb) → t.moe.source = s.moe.source ∧ t.moe.ref1 = s.moe.ref1 ∧ t.moe.ref2 = s.moe.ref2) ∧
       t.rif.fifo = s.rif.fifo ++ [⟨frameOf arr (sampleSource ch).1 p, .plain⟩] ∧ t.mga = s.mga)

/-- The estimate over a history: the window is the newest W entries; its oldest entry is the first one whose tick
differs from the newest one's; the quotient is truncated toward zero and limited to ±32,767, SATURATED where it was
limited (R8, R9). -/
def Obligations.EstimateFollowsTheWindow : Prop :=
  ∀ (cl : ChannelLine) (pre : List Sample) (y x : Sample), 2 ≤ cl.window → y.tick ≠ x.tick →
    ∃ older oldest newer v sat,
      newestOf cl.window (pre ++ [y, x]) = older ++ oldest :: newer ∧
      (∀ z ∈ older, z.tick = x.tick) ∧ oldest.tick ≠ x.tick ∧
      estimateOf cl (pre ++ [y, x]) = some (v, sat) ∧
      (let q := (cl.sign * (x.count - oldest.count).toInt * cl.scale * 10).tdiv ((x.tick - oldest.tick).toNat : Int)
       v = max (-32767) (min 32767 q) ∧ (sat = true ↔ q < -32767 ∨ 32767 < q))

/-- The expiry of a FRESH channel that the clock has reached: STALE, history emptied, estimate dropped, SATURATED
clear, EXPIRED counted; no other channel changes. An expiry of a car channel clears its slip record and raises
CAR_CHANNEL_LOST with the car, before the update; of a sheave, it clears the disagreement record, and the source is
re-chosen, with the gap mark set where a trusted position is left without one (R7, R12, R13). An expiry that is not
reached, or of a channel that is not FRESH, changes nothing. What is said holds before the end of the step takes a
pending activation (R178). -/
def Obligations.ChannelExpiryMakesItStale : Prop :=
  ∀ (s : State) (e : Time) (ch : ChannelId), s.inReset = false →
    (((s.moe.channel ch).state ≠ .fresh ∨ due (s.moe.channel ch).expiry (s.clock + e) = false) →
      exec (.channelExpiry e ch) s = .next (begin e s)) ∧
    ((s.moe.channel ch).state = .fresh → due (s.moe.channel ch).expiry (s.clock + e) = true →
      Settles (.channelExpiry e ch) s fun t =>
        t.moe.channel ch = { s.moe.channel ch with
          state := .stale, history := [], expiry := none, estimate := none, saturated := false } ∧
        (∀ ch', ch' ≠ ch → t.moe.channel ch' = s.moe.channel ch') ∧
        t.moe.counters = bumpBy s.moe.counters (MotionCounter.channel ch .expired).idx 1 ∧
        t.moe.posA = s.moe.posA ∧
        (ch = .ca → t.moe.slipA = .clear) ∧ (ch = .cb → t.moe.slipB = .clear) ∧
        ((ch = .s1 ∨ ch = .s2) → t.moe.disagree = .clear ∧ t.moe.source = t.moe.choice ∧
          (t.moe.source = none → t.moe.status = s.moe.status ∧
            t.moe.gap = (s.moe.gap || (s.moe.source.isSome && s.moe.status.trusted)))) ∧
        ((ch = .ca ∨ ch = .cb) → t.rpu.slots[EventKind.carChannelLost.code].count =
          satAdd s.rpu.slots[EventKind.carChannelLost.code].count 1) ∧
        ((ch = .s1 ∨ ch = .s2) → t.rpu.slots[EventKind.carChannelLost.code].count =
          s.rpu.slots[EventKind.carChannelLost.code].count) ∧
        t.mga = s.mga) ∧
    (∀ car : Car, ch = (if car = .a then ChannelId.ca else ChannelId.cb) →
      (s.moe.channel ch).state = .fresh → due (s.moe.channel ch).expiry (s.clock + e) = true →
      let lost := { s.moe.channel ch with
        state := .stale, history := [], expiry := none, estimate := none, saturated := false }
      let counters := bumpBy s.moe.counters (MotionCounter.channel ch .expired).idx 1
      let u := motionUpdate (raise .carChannelLost (carCode car ++ (0 : Byte) ++ (0 : Byte) ++ (0 : Byte))
        { begin e s with
          moe := if car = .a then { s.moe with ca := lost, slipA := .clear, counters := counters }
            else { s.moe with cb := lost, slipB := .clear, counters := counters } })
      exec (.channelExpiry e ch) s = .next (settle (begin e s) u) ∧
      (s.mga.pendingMask = none → exec (.channelExpiry e ch) s = .next u))

/-- STILL_TIMER_EXPIRY with the timer reached, a candidate present and the still condition holding: STILL is set,
the candidate stays, the timer is done, and the update carries STILL; channels, position and references stand (R18).
A timer that is not reached changes nothing. Every motion update judges the still condition: where it fails, STILL
is cleared, the candidate none and the timer cancelled; where it holds a candidate is kept or starts now with the
timer at t_still; the update carries what then stands, and nothing else of the Motion Estimator changes (R10, R18).
What is said holds before the end of the step takes a pending activation (R178). -/
def Obligations.StillIsJudgedAndTimed : Prop :=
  (∀ (s : State) (e : Time), s.inReset = false →
     (due s.moe.stillTimer (s.clock + e) = false → exec (.stillTimerExpiry e) s = .next (begin e s)) ∧
     (due s.moe.stillTimer (s.clock + e) = true → s.moe.candidate.isSome = true →
       s.stillCondition s.moe.motion = true →
       Settles (.stillTimerExpiry e) s fun t =>
         t.moe = { s.moe with
           still := true, stillTimer := none, last := { s.moe.motion with still := true } } ∧ t.mga = s.mga)) ∧
  (∀ s : State,
     (s.stillCondition s.moe.motion = false →
       (motionUpdate s).moe = { s.moe with
         candidate := none, stillTimer := none, still := false, last := { s.moe.motion with still := false } }) ∧
     (s.stillCondition s.moe.motion = true → s.moe.candidate.isSome = true →
       (motionUpdate s).moe = { s.moe with last := s.moe.motion }) ∧
     ∀ l, s.line = some l → s.stillCondition s.moe.motion = true → s.moe.candidate = none →
       (motionUpdate s).moe = { s.moe with
         candidate := some s.clock, stillTimer := some { start := s.clock, dur := l.tStill }, last := s.moe.motion })

/-- V is the largest magnitude among the FRESH channels that hold an estimate, 0 where none does. The reference sheave
estimate is the source's, else that of the other sheave if it is FRESH, else none; the sheave speed is KNOWN while
there is one, and the direction is its sign; the signed speed is V, negative for DOWN. A motion update carries that V,
speed and direction, posA, the status, STILL as judged, and HELD, set while there is no source (R10, R12). The position
of a sheave with a history is its reference position plus the signed count difference times scale and sign over 1,000,
truncated and limited to 32 bits (R11). The source chosen: S1 if FRESH, else S2 if FRESH, else none. The source
re-chosen: posA does not step, and a new source that holds a history is re-based at posA, so that its position equals
it; with the gap mark set the status becomes SUSPECT and the mark is spent (R11, R12, R13). -/
def Obligations.SpeedAndSourceAreChosenAmongFreshChannels : Prop :=
  (∀ m : Moe,
     (∀ ch v, (m.channel ch).state = .fresh → (m.channel ch).estimate = some v → v.natAbs ≤ m.lineSpeed) ∧
     (m.lineSpeed = 0 ∨ ∃ ch v, (m.channel ch).state = .fresh ∧ (m.channel ch).estimate = some v ∧
       m.lineSpeed = v.natAbs) ∧
     (m.motion.dir = .up ↔ ∃ v, m.sheaveEstimate = some v ∧ 0 < v) ∧
     (m.motion.dir = .down ↔ ∃ v, m.sheaveEstimate = some v ∧ v < 0) ∧
     (m.motion.known = true ↔ m.sheaveEstimate ≠ none) ∧
     m.motion.v = m.lineSpeed ∧ m.motion.posA = m.posA ∧ (m.held = true ↔ m.source = none) ∧
     (m.motion.held = true ↔ m.source = none) ∧ m.motion.status = m.status ∧ m.motion.still = m.still) ∧
  (∀ x : Motion, (x.dir = .down → x.signed = -(x.v : Int)) ∧ (x.dir ≠ .down → x.signed = (x.v : Int))) ∧
  (∀ s : State,
     let x := (motionUpdate s).moe.last
     x.v = s.moe.lineSpeed ∧ x.known = s.moe.sheaveEstimate.isSome ∧ x.dir = s.moe.motion.dir ∧
     x.posA = s.moe.posA ∧ (x.held = true ↔ s.moe.source = none) ∧ x.status = s.moe.status ∧
     x.still = (motionUpdate s).moe.still) ∧
  (∀ (m : Moe) (sh other : Sheave), m.source = some sh → other ≠ sh →
     let own := (m.channel sh.channel).estimate
     let second := m.channel other.channel
     (∀ v, own = some v → m.sheaveEstimate = some v) ∧
     (∀ v, own = none → second.state = .fresh → second.estimate = some v → m.sheaveEstimate = some v) ∧
     (own = none → (second.state ≠ .fresh ∨ second.estimate = none) → m.sheaveEstimate = none)) ∧
  (∀ m : Moe, m.source = none → m.s1.state ≠ .fresh → m.s2.state ≠ .fresh → m.sheaveEstimate = none) ∧
  (∀ m : Moe,
     (m.choice = some .s1 ↔ m.s1.state = .fresh) ∧
     (m.choice = some .s2 ↔ m.s1.state ≠ .fresh ∧ m.s2.state = .fresh) ∧
     (m.choice = none ↔ m.s1.state ≠ .fresh ∧ m.s2.state ≠ .fresh)) ∧
  (∀ (m : Moe) (l : Line) (sh : Sheave),
     let h := (m.channel sh.channel).history
     let r := if sh = .s1 then m.ref1 else m.ref2
     let line := if sh = .s1 then l.s1 else l.s2
     (h = [] → m.position l sh = none) ∧
     ∀ newest, h.getLast? = some newest → m.position l sh = some (max (-2147483648) (min 2147483647
       (r.pos + ((newest.count - r.count).toInt * line.scale * line.sign).tdiv 1000)))) ∧
  (∀ (m : Moe) (l : Line),
     m.chooseSource.source = m.choice ∧ m.chooseSource.posA = m.posA ∧
     (∀ ch, m.chooseSource.channel ch = m.channel ch) ∧
     (∀ sh, m.choice = some sh → m.source ≠ some sh → (m.channel sh.channel).history ≠ [] →
       -2147483648 ≤ m.posA → m.posA ≤ 2147483647 → m.chooseSource.position l sh = some m.posA) ∧
     (∀ sh, m.choice = some sh → m.gap = true →
       m.chooseSource.status = .suspect ∧ m.chooseSource.gap = false) ∧
     ((m.choice = none ∨ m.gap = false) → m.chooseSource.status = m.status))

/-- MARKER: one that is unknown is counted and raises MARKER_MISMATCH and changes no position, reference or status;
a known one met while HELD is counted alone (R15, R160). MARKER: a known one met while not HELD is applied where the
position is untrusted or within corr_max: posA is the implied position, the status CORRECTED, MARKER_CORRECTED
counted as an event; beyond corr_max of a trusted position it is rejected: posA and references stand, the status is
SUSPECT (R15, R16).
REFERENCE: the refusals in the order STATE, TABLES, BAD_STOP, MOVING change nothing but the reply; accepted,
posA becomes the declared stop's position, every sheave that holds a history is re-based at it, the status is
REFERENCED and the gap mark clear (R14). The event carries the difference, limited to its field, and the motion update
follows. What is said holds before the end of the step takes a pending activation (R178). -/
def Obligations.MarkersAndReferenceSetThePosition : Prop :=
  ((∀ (s : State) (arr : Arrival) (id car : Byte), PassesBy s arr 0x12 [id, car] →
      s.roleOf arr.src = some .markerReader →
      ((carOf car = none ∨ findMarker id (s.mga.active.marker.getD []) = none) →
        exec (.marker arr [id, car]) s = .next (raise .markerMismatch ((0 : Byte) ++ id ++ car ++ (0 : Byte))
          { begin arr.elapsed s with
            rif := s.forwarded (frameOf arr 0x12 [id, car]) .plain
            moe := { s.moe with counters := bumpBy s.moe.counters MotionCounter.markerUnknown.idx 1 } })) ∧
      (∀ c e, carOf car = some c → findMarker id (s.mga.active.marker.getD []) = some e → s.moe.held = true →
        exec (.marker arr [id, car]) s = .next { begin arr.elapsed s with
          rif := s.forwarded (frameOf arr 0x12 [id, car]) .plain
          moe := { s.moe with counters := bumpBy s.moe.counters MotionCounter.markerHeldIgnored.idx 1 } })) ∧
   (∀ (s : State) (arr : Arrival) (id car : Byte) (c : Car) (e : MarkerEntry) (l : Line),
      PassesBy s arr 0x12 [id, car] → s.roleOf arr.src = some .markerReader →
      carOf car = some c → findMarker id (s.mga.active.marker.getD []) = some e → s.moe.held = false →
      s.line = some l →
      let implied := match c with
        | .a => e.x
        | .b => (l.length : Int) - e.x
      let diff := implied - s.moe.posA
      let settled := fun u : State => exec (.marker arr [id, car]) s =
        .next (settle (begin arr.elapsed s) (motionUpdate u))
      let found := fun moe : Moe => { begin arr.elapsed s with
        rif := s.forwarded (frameOf arr 0x12 [id, car]) .plain, moe := { moe with
          counters := bumpBy s.moe.counters (if s.moe.status.trusted = false then MotionCounter.markerSet
            else if diff.natAbs ≤ l.corrMax then .markerCorrected else .markerRejected).idx 1 } }
      ((s.moe.status.trusted = false ∨ diff.natAbs ≤ l.corrMax) → settled (raise .markerCorrected
        (BitVec.ofInt 32 (max (-2147483648) (min 2147483647 diff)))
        (found { s.moe.moveTo implied with status := .corrected }))) ∧
      (s.moe.status.trusted = true → l.corrMax < diff.natAbs → settled (raise .markerMismatch
        ((1 : Byte) ++ BitVec.ofInt 24 (max (-8388607) (min 8388607 diff)))
        (found { s.moe with status := .suspect }))) ∧
      let corrected := s.rpu.slots[EventKind.markerCorrected.code].count
      let mismatched := s.rpu.slots[EventKind.markerMismatch.code].count
      ((s.moe.status.trusted = false ∨ (implied - s.moe.posA).natAbs ≤ l.corrMax) →
        Settles (.marker arr [id, car]) s fun t =>
          t.moe.posA = implied ∧ t.moe.status = .corrected ∧ t.moe.gap = s.moe.gap ∧
          (∀ ch, t.moe.channel ch = s.moe.channel ch) ∧
          (∀ sh newest, (s.moe.channel sh.channel).history.getLast? = some newest →
            t.moe.reference sh = { count := newest.count, pos := implied }) ∧
          t.moe.counters = bumpBy s.moe.counters
            (if s.moe.status.trusted then MotionCounter.markerCorrected else MotionCounter.markerSet).idx 1 ∧
          t.rpu.slots[EventKind.markerCorrected.code].count = satAdd corrected 1 ∧ t.mga = s.mga) ∧
      (s.moe.status.trusted = true → l.corrMax < (implied - s.moe.posA).natAbs →
        Settles (.marker arr [id, car]) s fun t =>
          t.moe.posA = s.moe.posA ∧ t.moe.status = .suspect ∧ t.moe.ref1 = s.moe.ref1 ∧ t.moe.ref2 = s.moe.ref2 ∧
          (∀ ch, t.moe.channel ch = s.moe.channel ch) ∧
          t.moe.counters = bumpBy s.moe.counters MotionCounter.markerRejected.idx 1 ∧
          t.rpu.slots[EventKind.markerMismatch.code].count = satAdd mismatched 1 ∧ t.mga = s.mga))) ∧
  (∀ (s : State) (arr : Arrival) (tag stop : Byte), ManagerArrives s arr [0x0B, tag, stop] →
     let refused := fun code : Byte => exec (.reference arr tag [stop]) s =
       .next { begin arr.elapsed s with rif := s.answered (mgmtReply s arr 0x0B tag code []) }
     (¬(s.hlc.state = .parked ∨ s.hlc.state = .tripped) → refused 0x04) ∧
     ((s.hlc.state = .parked ∨ s.hlc.state = .tripped) →
       ((s.mga.active.stop = none ∨ s.line = none) → refused 0x0F) ∧
       (∀ (st : List Stop) (l : Line), s.mga.active.stop = some st → s.line = some l →
         (st.length ≤ stop.toNat → refused 0x10) ∧
         (∀ x, st[stop.toNat]? = some x →
           (s.moe.still = false → refused 0x11) ∧
           (s.moe.still = true →
             Settles (.reference arr tag [stop]) s fun t =>
               t.moe.posA = x.pos ∧ t.moe.status = .referenced ∧ t.moe.gap = false ∧
               (∀ ch, t.moe.channel ch = s.moe.channel ch) ∧ t.moe.counters = s.moe.counters ∧
               (∀ sh newest, (s.moe.channel sh.channel).history.getLast? = some newest →
                 t.moe.reference sh = { count := newest.count, pos := x.pos }) ∧
               t.rif.reply = s.rif.reply ++ [mgmtReply s arr 0x0B tag 0x00 []] ∧ t.mga = s.mga)))))

/-- The cross-checks of accepted samples. Divergence: with both sheaves FRESH, the position trusted and their positions
apart by more than corr_max, the status becomes SUSPECT and POSITION_DIVERGE is raised with the difference; else nothing
(R17). Disagreement and slip: where the signed estimates are apart by more than the tolerance the record keeps its start, or
starts now, and at the limit, once, SENSOR_DISAGREE with both speeds or ROPE_SLIP with car and difference is raised and
a demand sent; where not, or where an estimate is missing, the record is cleared (R19, R20). A sheave's sample is judged
for divergence first (the model's choice, log 29) and then for disagreement, a car's sample for its slip alone (R5). -/
def Obligations.SheavesAndRopesAreCrossChecked : Prop :=
  (∀ (s : State) (l : Line),
    let m := s.moe
    let t := judgeDivergence l s
    let apart := fun p1 p2 : Int => m.s1.state = .fresh ∧ m.s2.state = .fresh ∧ m.status.trusted = true ∧
      l.corrMax < (p1 - p2).natAbs
    (∀ p1 p2, m.position l .s1 = some p1 → m.position l .s2 = some p2 →
      (apart p1 p2 → t = raise .positionDiverge
        (BitVec.ofInt 32 (max (-2147483648) (min 2147483647 (p1 - p2))))
        { s with moe := { m with status := .suspect } }) ∧
      (¬ apart p1 p2 → t = s)) ∧
    ((m.position l .s1 = none ∨ m.position l .s2 = none) → t = s)) ∧
  (∀ (s : State) (l : Line),
    let judged := fun (t : State) (old : Persistence) (put : Persistence → State) (limit : Nat)
        (holds : Prop) (report : State → State) =>
      let start := old.start.getD s.clock
      let late := limit ≤ (s.clock - start).toNat
      (¬ holds → t = put { start := none, reported := false }) ∧
      (holds → (old.reported = true ∨ ¬ late) → t = put { old with start := some start }) ∧
      (holds → old.reported = false → late → t = report (put { start := some start, reported := true }))
    (∀ v1 v2, s.moe.s1.estimate = some v1 → s.moe.s2.estimate = some v2 →
      judged (judgeDisagree l s) s.moe.disagree (fun p => { s with moe := { s.moe with disagree := p } }) l.tDisagree
        (s.moe.s1.state = .fresh ∧ s.moe.s2.state = .fresh ∧ l.tolSheave < (v1 - v2).natAbs)
        (fun u => demand .disagree (raise .sensorDisagree (BitVec.ofInt 16 v1 ++ BitVec.ofInt 16 v2) u))) ∧
    ((s.moe.s1.estimate = none ∨ s.moe.s2.estimate = none) →
      judgeDisagree l s = { s with moe := { s.moe with disagree := .clear } }) ∧
    ∀ car : Car,
      let c := if car = .a then s.moe.ca else s.moe.cb
      let put := fun p => { s with moe := if car = .a then { s.moe with slipA := p } else { s.moe with slipB := p } }
      (∀ v r, c.estimate = some v → s.moe.sheaveEstimate = some r →
        judged (judgeSlip l car s) (if car = .a then s.moe.slipA else s.moe.slipB) put l.tSlip
          (c.state = .fresh ∧ l.slipTol < (v - r).natAbs)
          (fun u => demand .slip (raise .ropeSlip
            (carCode car ++ (0 : Byte) ++ BitVec.ofInt 16 (max (-32767) (min 32767 (v - r)))) u))) ∧
      ((c.estimate = none ∨ s.moe.sheaveEstimate = none) → judgeSlip l car s = put .clear)) ∧
  ∀ (s : State) (l : Line),
    (∀ ch, (ch = .s1 ∨ ch = .s2) → crossCheck l ch s = judgeDisagree l (judgeDivergence l s)) ∧
    crossCheck l .ca s = judgeSlip l .a s ∧ crossCheck l .cb s = judgeSlip l .b s

/-! ### The envelope (chapter 2) -/

/-- The root is exact: the largest whole number whose square does not exceed x, for every x below 2⁶⁴ (R31). The
segment in use is that of the last entry whose start is not beyond posA, the first entry below the first
start, for every table in ascending order (R30). The curve speed at a raw distance d: at or before the stop the higher
of v_land and the root of 2·a_ref·(d − stop_margin); past the stop v_land inside the window and 0 beyond it; and before
the stop it does not fall as the distance grows (R31, R32). -/
def Obligations.RootSegmentAndCurveBoundTheApproach : Prop :=
  (∀ x : Nat, x < 2 ^ 64 → isqrt x * isqrt x ≤ x ∧ x < (isqrt x + 1) * (isqrt x + 1)) ∧
  (∀ (x : Segment) (rest : List Segment) (pos : Int), rising ((x :: rest).map (·.start)) →
     let y := segmentFrom pos x rest
     y ∈ x :: rest ∧ (pos < x.start → y = x) ∧
     (x.start ≤ pos → y.start ≤ pos ∧ ∀ z ∈ x :: rest, z.start ≤ pos → z.start ≤ y.start)) ∧
  (∀ (l : Line) (k : Fin 4) (half : Nat) (d : Int),
     (0 ≤ d → d < 2 ^ 32 → l.aRef[k] < 2 ^ 16 →
       let r := curveSpeed l k half d
       let x := 2 * l.aRef[k] * (d.toNat - l.stopMargin)
       l.vLand ≤ r ∧ x < (r + 1) * (r + 1) ∧ (l.vLand < r → r * r ≤ x) ∧
       ∀ d' : Int, d ≤ d' → d' < 2 ^ 32 → r ≤ curveSpeed l k half d') ∧
     (d < 0 → -d ≤ half → curveSpeed l k half d = l.vLand) ∧
     (d < 0 → half < -d → curveSpeed l k half d = 0))

/-- E is 0 while the mode is OFF, and the mode is OFF while the haul is PARKED, BOARDING or TRIPPED: so it stands after
every evaluation, whatever stood before it; and the thresholds follow where the mode or E has changed (R27, R29, R43).
On a run E is the lowest of the step ceiling, the curve speed and v_line_max in NORMAL, the lower of v_creep and
v_line_max in CREEP, and unchanged in FROZEN; the mode stays (R28, R33, R34, R35). An update that turns SUSPECT freezes
a NORMAL run: E stays, the emergency threshold is v_trip_abs, and a RUNNING haul enters SERVICE_STOP with cause
POSITION_SUSPECT; an ARMED one returns to its origin with the mode OFF (R35). The load class at an entry to ARMED: the
out-of-balance load is the excess of the descending car's count over the other's, times m_pass; it is graded by th1 <
th2 < th3; the mode is CREEP exactly where the position is untrusted, and E is computed under that mode and class (R28,
R37). -/
def Obligations.EnvelopeFollowsTheModeAndTheLoad : Prop :=
  ((∀ s : State,
      ((s.hlc.state = .parked ∨ s.hlc.state = .boarding ∨ s.hlc.state = .tripped) →
        (envEvaluate s).env = { s.env with mode := .off, e := 0 }) ∧
      (s.env.mode = .off → ¬ (s.hlc.state = .parked ∨ s.hlc.state = .boarding ∨ s.hlc.state = .tripped) →
        (envEvaluate s).env = { s.env with e := 0 }) ∧
      ∀ l, s.line = some l → (envEvaluate s).env ≠ s.env →
        let e := (envEvaluate s).env.e
        (envEvaluate s).brs.tWarn = e + e * l.pw / 1000 + l.cw ∧
        (envEvaluate s).brs.tSvc = e + e * l.ps / 1000 + l.cs ∧
        (envEvaluate s).brs.tEmg = (if (envEvaluate s).env.mode = .frozen then l.vTripAbs
          else min (e + e * l.pe / 1000 + l.ce) l.vTripAbs)) ∧
   (∀ (s : State) (l : Line) (x : Segment) (rest : List Segment) (i : Nat) (st : Stop),
      s.line = some l → s.mga.active.profile = some (x :: rest) → s.env.target = some i → s.stops[i]? = some st →
      (s.hlc.state = .armed ∨ s.hlc.state = .running ∨ s.hlc.state = .serviceStop) →
      (envEvaluate s).env.mode = s.env.mode ∧
      (s.env.mode = .frozen → (envEvaluate s).env.e = s.env.e) ∧
      (s.env.mode = .creep → (envEvaluate s).env.e = min l.vCreep l.vLineMax) ∧
      (s.env.mode = .normal → (envEvaluate s).env.e =
        let y := segmentFrom s.moe.last.posA x rest
        let ceiling := if s.env.dir = .down then y.down else y.up
        let d := if s.env.dir = .down then s.moe.last.posA - st.pos else st.pos - s.moe.last.posA
        min (min (ceiling * l.pct[s.env.loadClass] / 100) (curveSpeed l s.env.loadClass st.half d)) l.vLineMax))) ∧
  (∀ (s : State) (l : Line), s.line = some l → s.env.mode = .normal → s.moe.last.status = .suspect →
     (s.hlc.state = .running →
       let t := envUpdate s
       t.env = { s.env with mode := .frozen } ∧ t.brs.tEmg = l.vTripAbs ∧
       t.brs.tWarn = s.env.e + s.env.e * l.pw / 1000 + l.cw ∧
       t.brs.tSvc = s.env.e + s.env.e * l.ps / 1000 + l.cs ∧
       t.hlc = { s.hlc with state := .serviceStop, stopCause := some .positionSuspect, further := 0 } ∧
       t.moe = s.moe ∧ t.dru = s.dru ∧ t.adu = s.adu ∧ t.mga = s.mga) ∧
     (s.hlc.state = .armed → ∀ o, s.hlc.origin = some o →
       (envUpdate s).hlc.state = o.toState ∧ (envUpdate s).env.mode = .off ∧ (envUpdate s).env.e = 0) ∧
     (s.hlc.state = .serviceStop → (envUpdate s).hlc = { s.hlc with further := min (s.hlc.further + 1) 255 } ∧
       (envUpdate s).env = { s.env with mode := .frozen })) ∧
  (∀ (s : State) (l : Line), s.line = some l → l.th1 < l.th2 → l.th2 < l.th3 →
     let a := s.adu.aboardA + s.adu.unticketedA
     let b := s.adu.aboardB + s.adu.unticketedB
     let o := (if s.hlc.dir = .down then a - b else b - a) * l.mPass
     let t := envArm s
     t.env.load = o ∧ t.env.target = s.hlc.target ∧ t.env.dir = s.hlc.dir ∧
     (t.env.loadClass = 0 ↔ o ≤ l.th1) ∧ (t.env.loadClass = 1 ↔ l.th1 < o ∧ o ≤ l.th2) ∧
     (t.env.loadClass = 2 ↔ l.th2 < o ∧ o ≤ l.th3) ∧ (t.env.loadClass = 3 ↔ l.th3 < o) ∧
     t.env.mode = (if s.moe.last.status = .referenced ∨ s.moe.last.status = .corrected then .normal else .creep) ∧
     (t.env.mode = .creep → t.env.e = min l.vCreep l.vLineMax) ∧
     (∀ (x : Segment) (rest : List Segment) (i : Nat) (st : Stop), s.mga.active.profile = some (x :: rest) →
       s.hlc.target = some i → s.stops[i]? = some st → t.env.mode = .normal →
       let y := segmentFrom s.moe.last.posA x rest
       let ceiling := if s.hlc.dir = .down then y.down else y.up
       let d := if s.hlc.dir = .down then s.moe.last.posA - st.pos else st.pos - s.moe.last.posA
       t.env.e = min (min (ceiling * l.pct[t.env.loadClass] / 100) (curveSpeed l t.env.loadClass st.half d))
         l.vLineMax) ∧
     t.moe = s.moe ∧ t.adu = s.adu ∧ t.hlc = s.hlc ∧ t.dru = s.dru ∧ t.rif = s.rif ∧ t.rpu = s.rpu)

/-! ### Overspeed tiers and brake lines (chapter 3) -/

/-- The tier judgement on a run, case by case from the top (R44): above T_emg the haul is tripped with OVERSPEED; above
T_svc the tier is WARN and one demand is sent for the excursion, which stops a run, is counted in a service stop, and
returns an ARMED haul to its origin, whose entry makes the tier NORMAL and the flag clear again (R45; the warning and
its event come before the demand, log 11); above T_warn the tier is WARN and the flag clear; above E the tier stays; else
it is NORMAL. OVERSPEED_WARN is raised once at each entry to WARN. At rest, or without a LINE record, nothing is
judged. OVERSPEED_WARN carries V and T_warn. -/
def Obligations.TierJudgementTakesTheFirstCase : Prop :=
  (∀ (s : State) (l : Line), s.line = some l → s.brs.trip.latched = false →
    (s.hlc.state = .armed ∨ s.hlc.state = .running ∨ s.hlc.state = .serviceStop) →
    let v := s.moe.last.v
    let t := judgeTier s
    let warned := s.rpu.slots[EventKind.overspeedWarn.code].count
    let entry := if s.brs.tier = .normal then satAdd warned 1 else warned
    (s.brs.tEmg < v → t.hlc.state = .tripped ∧ t.brs.trip.latched = true ∧ t.brs.trip.first = some .overspeed ∧
      t.brs.trip.causes = 4) ∧
    (v ≤ s.brs.tEmg → s.brs.tSvc < v → t.rpu.slots[EventKind.overspeedWarn.code].count = entry ∧
      ((s.hlc.state ≠ .armed ∨ s.brs.aboveService = true) → t.brs.tier = .warn ∧ t.brs.aboveService = true) ∧
      (s.hlc.state = .running → s.brs.aboveService = false → t.hlc.state = .serviceStop ∧
        t.hlc.stopCause = some .overspeed) ∧
      (s.hlc.state = .serviceStop → s.brs.aboveService = false →
        t.hlc = { s.hlc with further := min (s.hlc.further + 1) 255 }) ∧
      (s.hlc.state = .armed → s.brs.aboveService = false → ∀ o, s.hlc.origin = some o →
        t.hlc = { s.hlc with state := o.toState, boardingOpen := false, armTimer := none } ∧
        t.brs.tier = .normal ∧ t.brs.aboveService = false ∧ t.env = { s.env with mode := .off, e := 0 }) ∧
      (s.brs.aboveService = true → t.hlc = s.hlc)) ∧
    (v ≤ s.brs.tEmg → v ≤ s.brs.tSvc → s.brs.tWarn < v →
      t.brs = { s.brs with tier := .warn, aboveService := false } ∧ t.hlc = s.hlc ∧
      t.rpu.slots[EventKind.overspeedWarn.code].count = entry) ∧
    (v ≤ s.brs.tEmg → v ≤ s.brs.tSvc → v ≤ s.brs.tWarn → s.env.e < v →
      t = s.withBrs { s.brs with aboveService := false }) ∧
    (v ≤ s.brs.tEmg → v ≤ s.brs.tSvc → v ≤ s.brs.tWarn → v ≤ s.env.e →
      t = s.withBrs { s.brs with tier := .normal, aboveService := false })) ∧
  (∀ (s : State) (l : Line), s.line = some l →
    (s.hlc.state = .armed ∨ s.hlc.state = .running ∨ s.hlc.state = .serviceStop) →
    let v := s.moe.last.v
    let warned := fun above : Bool =>
      let u : State := { s with brs := { s.brs with tier := .warn, aboveService := above } }
      if s.brs.tier = .normal then raise .overspeedWarn (BitVec.ofNat 16 v ++ BitVec.ofNat 16 s.brs.tWarn) u else u
    (s.brs.tEmg < v → judgeTier s = trip .overspeed s) ∧
    (v ≤ s.brs.tEmg → s.brs.tSvc < v →
      judgeTier s = if s.brs.aboveService then warned true else demand .overspeed (warned true)) ∧
    (v ≤ s.brs.tEmg → v ≤ s.brs.tSvc → s.brs.tWarn < v → judgeTier s = warned false)) ∧
  ∀ s : State, (s.hlc.state = .parked ∨ s.hlc.state = .boarding ∨ s.hlc.state = .tripped ∨ s.line = none) →
    judgeTier s = s

/-- SUPERVISION_PERIOD_EXPIRY: a sufficient period clears the short count, a first short one sets it to 1, and
either moves V_start and the expiry on; the second short one in a row trips the haul with SB_INEFFECTIVE (R49, R55).
An expiry that is not reached, or without an ACTIVE record, changes nothing. LOSS_TIMER_EXPIRY: a timer that is
reached trips the haul with SPEED_LOST and is idle; one that is not reached changes nothing (R52, R55). What is said
holds before the end of the step takes a pending activation (R178). -/
def Obligations.SupervisionAndLossTimersTrip : Prop :=
  (∀ (s : State) (e : Time) (l : Line) (x : Timer), s.inReset = false → s.line = some l →
     s.brs.sup.expiry = some x →
     ((s.brs.sup.active = false ∨ x.reached (s.clock + e) = false) →
       exec (.supervisionPeriodExpiry e) s = .next (begin e s)) ∧
     (s.brs.sup.active = true → x.reached (s.clock + e) = true →
       let v := s.moe.last.v
       let sufficient : Prop :=
         (v : Int) ≤ (s.brs.sup.vStart : Int) - ((l.aMin * l.tSup / 1000 : Nat) : Int) ∨ v ≤ l.vStill
       let moved := fun short : Nat => { begin e s with brs := { s.brs with sup :=
         { active := true, vStart := v, short := short,
           expiry := some { start := x.start + BitVec.ofNat 32 x.dur, dur := l.tSup } } } }
       (sufficient → exec (.supervisionPeriodExpiry e) s = .next (moved 0)) ∧
       (¬ sufficient → s.brs.sup.short = 0 → exec (.supervisionPeriodExpiry e) s = .next (moved 1)) ∧
       (¬ sufficient → s.brs.sup.short ≠ 0 → s.brs.trip.latched = false →
         Settles (.supervisionPeriodExpiry e) s fun t =>
           t.hlc.state = .tripped ∧ t.brs.sup.short = 2 ∧ t.brs.sup.active = false ∧
           t.brs.trip = { latched := true, first := some .sbIneffective, causes := 8, posA := s.moe.last.posA,
                          v := s.moe.last.signed, time := t.clock } ∧
           t.moe = s.moe ∧ t.dru = s.dru ∧ t.adu = s.adu ∧ t.mga = s.mga))) ∧
  (∀ (s : State) (e : Time), s.inReset = false →
     (due s.brs.lossTimer (s.clock + e) = false → exec (.lossTimerExpiry e) s = .next (begin e s)) ∧
     (due s.brs.lossTimer (s.clock + e) = true → s.brs.trip.latched = false →
       Settles (.lossTimerExpiry e) s fun t =>
         t.hlc = { s.hlc with state := .tripped, berth := none, boardingOpen := false, armTimer := none } ∧
         t.brs.lossTimer = none ∧ t.brs.lossFlag = false ∧
         t.brs.trip = { latched := true, first := some .speedLost, causes := 16, posA := s.moe.last.posA,
                        v := s.moe.last.signed, time := t.clock } ∧
         t.moe = s.moe ∧ t.dru = s.dru ∧ t.adu = s.adu ∧ t.mga = s.mga))

/-- The overrun and the loss of sheave speed. The overrun condition: the position trusted and posA beyond the first or
the last stop by more than overrun. Met by an update in any state but TRIPPED, it latches a trip with cause OVERRUN, or
joins the OVERSPEED trip that the tier judgement of the same update has just latched; not met, without tables, or in
TRIPPED, no such cause is taken (R53). The loss is judged in RUNNING and SERVICE_STOP and at the entry to RUNNING: an
UNKNOWN speed with the flag clear sets it, sends a demand with cause SPEED_LOST, raises SPEED_LOST with posA, and starts
the loss timer where neither sheave is FRESH; with the flag set, a FRESH sheave cancels the timer, none FRESH starts an
idle one, and a KNOWN speed clears the flag (R51). The set-point that the stop forces goes before its event (the
model's choice, log 37). -/
def Obligations.OverrunAndSpeedLossAreJudged : Prop :=
  (∀ (s : State) (l : Line) (low high : Stop), s.line = some l → s.stops.head? = some low →
    s.stops.getLast? = some high →
    let m := s.moe.last
    let beyond : Prop := m.status.trusted = true ∧
      (m.posA < low.pos - l.overrun ∨ high.pos + l.overrun < m.posA)
    let t := brsUpdate s
    (s.hlc.state ≠ .tripped → s.brs.trip.latched = false → beyond →
      (s.hlc.state.atRest = true ∨ m.v ≤ s.brs.tEmg) →
      t.hlc.state = .tripped ∧ t.brs.trip = ⟨true, some .overrun, 64, m.posA, m.signed, s.clock⟩ ∧
      t.moe = s.moe ∧ t.dru = s.dru ∧ t.mga = s.mga) ∧
    (s.hlc.state.atRest = false → s.brs.trip.latched = false → beyond → s.brs.tEmg < m.v →
      t.hlc.state = .tripped ∧ t.brs.trip = ⟨true, some .overspeed, 68, m.posA, m.signed, s.clock⟩) ∧
    ((s.hlc.state = .tripped ∨ ¬ beyond) → s.brs.trip.causes.getLsbD 6 = false →
      t.brs.trip.causes.getLsbD 6 = false ∧
      (s.hlc.state.atRest = true →
        t.hlc = s.hlc ∧ t.brs.trip = s.brs.trip ∧ t.brs.history = s.brs.history))) ∧
  (∀ s : State, (s.line = none ∨ s.stops = []) → s.brs.trip.causes.getLsbD 6 = false →
    (brsUpdate s).brs.trip.causes.getLsbD 6 = false ∧
    (s.hlc.state.atRest = true → (brsUpdate s).hlc = s.hlc ∧ (brsUpdate s).brs.trip = s.brs.trip)) ∧
  (∀ (s : State) (l : Line), s.line = some l →
    let run := s.hlc.state = .running ∨ s.hlc.state = .serviceStop
    let fresh := s.moe.s1.state = .fresh ∨ s.moe.s2.state = .fresh
    let known := s.moe.last.known = true
    let started : Option Timer := some { start := s.clock, dur := 2 * l.tStaleSheave }
    let t := judgeLoss s
    (¬ run → t = s) ∧
    (run → s.brs.lossFlag = false → known → t = s) ∧
    (run → s.brs.lossFlag = false → ¬ known →
      t.brs.lossFlag = true ∧ t.brs.lossTimer = (if fresh then s.brs.lossTimer else started) ∧
      t.rpu.slots[EventKind.serviceStop.code].count =
        satAdd s.rpu.slots[EventKind.serviceStop.code].count 1 ∧
      t.rpu.slots[EventKind.speedLost.code].count = satAdd s.rpu.slots[EventKind.speedLost.code].count 1 ∧
      (s.hlc.state = .running →
        t.hlc = { s.hlc with state := .serviceStop, stopCause := some .speedLost, further := 0 } ∧
        t.brs.sup.active = true ∧ t.rif.force = some (s.forcedZero s.rif.txSeq)) ∧
      (s.hlc.state = .serviceStop → t.hlc = { s.hlc with further := min (s.hlc.further + 1) 255 }) ∧
      (let u := raise .speedLost (BitVec.ofInt 32 s.moe.last.posA)
         (demand .speedLost { s with brs := { s.brs with lossFlag := true } })
       t = { u with brs := t.brs }) ∧
      t.brs.trip = s.brs.trip ∧ t.moe = s.moe ∧ t.dru = s.dru ∧ t.adu = s.adu ∧ t.mga = s.mga) ∧
    (run → s.brs.lossFlag = true → t = { s with brs := { s.brs with
      lossFlag := decide (¬ known)
      lossTimer := if fresh then none else if s.brs.lossTimer = none then started else s.brs.lossTimer } })) ∧
  ∀ s : State, s.moe.last.known = false → s.brs.lossFlag = false →
    (startRun s).hlc.state = .serviceStop ∧ (startRun s).hlc.stopCause = some .speedLost ∧
    (startRun s).hlc.berth = none ∧ (startRun s).brs.lossFlag = true ∧
    (startRun s).rpu.slots[EventKind.departed.code].count =
      satAdd s.rpu.slots[EventKind.departed.code].count 1

/-- A cause taken while no trip is latched latches it: the record, one more history entry of which the newest eight
stay, TRIP counted, TRIPPED with the berth none and boarding closed, E 0 and the mode OFF, the tier NORMAL,
supervision and the speed-loss record ended, the forced zero set-point waiting, EB_HOLD de-energised; a SERVICE stage
that brakes ends by R72 or R73. What the trip does not name stands (R36, R45, R47, R50, R51, R55, R57, R58, R97).
A cause taken while a trip is latched joins the cause set of the record and of the newest history entry and is
counted as a TRIP; the first cause, the position, V and the time stay, no entry is appended, and nothing else of the
haul changes, nor does a SERVICE stage that brakes under the failure mark (R56, R73). TRIP carries the cause code, 1
where it latches and 0 where it joins, and the signed V of the latest update, and is raised before the entry to
TRIPPED; a SERVICE stage that ends ABORTED raises BRAKE_TEST_RESULT (1, 3, 0) last (log 10). -/
def Obligations.CausesLatchOrJoinTheTrip : Prop :=
  (∀ (cause : TripCause) (s : State), s.brs.trip.latched = false →
     let t := trip cause s
     let record := (some cause, BitVec.ofNat 16 (2 ^ (cause.num - 1)), s.moe.last.posA, s.moe.last.signed, s.clock)
     t.brs.trip = ⟨true, record.1, record.2.1, record.2.2.1, record.2.2.2.1, record.2.2.2.2⟩ ∧
     (let h := s.brs.history ++
         [⟨record.1, record.2.1, record.2.2.1, record.2.2.2.1, record.2.2.2.2, false⟩]
      t.brs.history = if 8 < h.length then h.drop 1 else h) ∧
     t.rpu.slots[EventKind.trip.code].count = satAdd s.rpu.slots[EventKind.trip.code].count 1 ∧
     t.hlc = { s.hlc with state := .tripped, berth := none, boardingOpen := false, armTimer := none } ∧
     t.env = { s.env with mode := .off, e := 0 } ∧
     t.brs.tier = .normal ∧ t.brs.aboveService = false ∧ t.brs.sup.active = false ∧ t.brs.sup.expiry = none ∧
     t.brs.lossFlag = false ∧ t.brs.lossTimer = none ∧
     (∃ seq, t.rif.force = some (s.forcedZero seq)) ∧
     (s.test.svc.status ≠ .braking → t.test = s.test) ∧
     (s.test.svc.status = .braking → cause = .sbIneffective → t.test = { s.test with failureMark := true }) ∧
     (s.test.svc.status = .braking → cause ≠ .sbIneffective → s.test.failureMark = false →
       t.test.state = .idle ∧ t.test.svc.status = .aborted ∧ t.test.emg = s.test.emg ∧
       t.test.svcFailed = s.test.svcFailed ∧ t.test.emgFailed = s.test.emgFailed) ∧
     t.brs.estopLatched = s.brs.estopLatched ∧ t.brs.chain = s.brs.chain ∧ t.brs.key = s.brs.key ∧
     t.moe = s.moe ∧ t.dru = s.dru ∧ t.adu = s.adu ∧ t.mga = s.mga ∧ t.ebHold = false) ∧
  (∀ (cause : TripCause) (s : State) (older : List TripEntry) (newest : TripEntry),
     s.brs.trip.latched = true → (s.test.svc.status ≠ .braking ∨ s.test.failureMark = true) →
     s.brs.history = older ++ [newest] →
     let t := trip cause s
     let set := s.brs.trip.causes ||| BitVec.ofNat 16 (2 ^ (cause.num - 1))
     t.brs = { s.brs with
       trip := { s.brs.trip with causes := set }
       history := older ++ [{ newest with causes := set }] } ∧
     t.rpu.slots[EventKind.trip.code].count = satAdd s.rpu.slots[EventKind.trip.code].count 1 ∧
     t.hlc = s.hlc ∧ t.env = s.env ∧ t.test = s.test ∧ t.moe = s.moe ∧ t.dru = s.dru ∧ t.adu = s.adu ∧
     t.mga = s.mga ∧ t.rif.force = s.rif.force ∧ t.rif.fifo = s.rif.fifo ∧ t.rif.reply = s.rif.reply) ∧
  ∀ (cause : TripCause) (s : State),
     let m := s.moe.last
     let set := BitVec.ofNat 16 (2 ^ (cause.num - 1))
     let raised := fun (latched : Byte) (brs : Brs) =>
       raise .trip (BitVec.ofNat 8 cause.num ++ latched ++ BitVec.ofInt 16 m.signed) { s with brs := brs }
     let staged := fun u : State =>
       let x := s.test.svc
       (x.status ≠ .braking → trip cause s = u) ∧
       (x.status = .braking → cause = .sbIneffective →
         trip cause s = { u with test := { s.test with failureMark := true } }) ∧
       (x.status = .braking → cause ≠ .sbIneffective → s.test.failureMark = true → trip cause s = u) ∧
       (x.status = .braking → cause ≠ .sbIneffective → s.test.failureMark = false →
         trip cause s = raise .brakeTestResult ((1 : Byte) ++ (3 : Byte) ++ (0 : BitVec 16)) { u with test :=
           { s.test with state := .idle, abortPending := false,
                         svc := ⟨.aborted, x.trigger, 0, 0, 0, 0, 0⟩ } })
     (s.brs.trip.latched = false →
       let h := s.brs.history ++ [⟨some cause, set, m.posA, m.signed, s.clock, false⟩]
       staged (enterTripped (raised 1 { s.brs with
         trip := ⟨true, some cause, set, m.posA, m.signed, s.clock⟩
         history := if 8 < h.length then h.drop 1 else h }))) ∧
     (s.brs.trip.latched = true → ∀ older newest, s.brs.history = older ++ [newest] →
       let causes := s.brs.trip.causes ||| set
       staged (raised 0 { s.brs with
         trip := { s.brs.trip with causes := causes }
         history := older ++ [{ newest with causes := causes }] }))

/-- MANUAL_TRIP is accepted in every haul state: it latches a trip with cause MANUAL where none is latched, and adds
MANUAL to the cause set where one is (R62). What is said holds before the end of the step takes a pending activation
(R178). -/
def Obligations.ManualTripIsAcceptedInEveryState : Prop :=
  ∀ (s : State) (arr : Arrival) (tag : Byte), ManagerArrives s arr [0x0D, tag] →
    let reply := mgmtReply s arr 0x0D tag 0x00 []
    let u := trip .manual { begin arr.elapsed s with rif := s.rif.count .absorbed }
    exec (.manualTrip arr tag []) s = .next (settle (begin arr.elapsed s)
      (u.withRif { u.rif with reply := s.rif.reply ++ [reply] })) ∧
    (Settles (.manualTrip arr tag []) s fun t =>
      t.rif.reply = s.rif.reply ++ [reply] ∧
      (s.brs.trip.latched = false →
        t.hlc = { s.hlc with state := .tripped, berth := none, boardingOpen := false, armTimer := none } ∧
        t.brs.trip = { latched := true, first := some .manual, causes := 256, posA := s.moe.last.posA,
                       v := s.moe.last.signed, time := t.clock }) ∧
      (s.brs.trip.latched = true → t.hlc = s.hlc ∧
        t.brs.trip = { s.brs.trip with causes := s.brs.trip.causes ||| 256 }) ∧
      t.moe = s.moe ∧ t.dru = s.dru ∧ t.adu = s.adu ∧ t.mga = s.mga)

/-- RAW_LEVEL_CHANGE: a change of the raw level restarts the 4 ms timer of that input and moves no debounced level;
a level that stands already is no change (R59). DEBOUNCE_EXPIRY: the debounced level takes the raw level and the
timer is idle, with no other effect but where the stop chain turns from CLOSED to OPEN: then ESTOP_LATCHED is set,
ESTOP_CHAIN is counted, and the cause ESTOP_CHAIN is latched, or added to a latched trip (R59, R60). ESTOP_CHAIN
carries the signed V and 1 where it latches the trip, else 0. What is said holds before the end of the step takes a
pending activation (R178). -/
def Obligations.HardwiredInputsAreDebounced : Prop :=
  (∀ (s : State) (e : Time) (pin : Pin) (level : Level), s.inReset = false →
     ((s.brs.pin pin).raw = level → exec (.rawLevelChange e pin level) s = .next (begin e s)) ∧
     ((s.brs.pin pin).raw ≠ level → exec (.rawLevelChange e pin level) s = .next { begin e s with
       brs := s.brs.setPin pin { raw := level, level := (s.brs.pin pin).level,
                                 timer := some { start := s.clock + e, dur := 4 } } })) ∧
  (∀ (s : State) (e : Time) (pin : Pin), s.inReset = false →
     let x := s.brs.pin pin
     (due x.timer (s.clock + e) = false → exec (.debounceExpiry e pin) s = .next (begin e s)) ∧
     (due x.timer (s.clock + e) = true → (pin = .resetKey ∨ x.level = .opened ∨ x.raw = .closed) →
       exec (.debounceExpiry e pin) s = .next { begin e s with
         brs := s.brs.setPin pin { x with level := x.raw, timer := none } }) ∧
     (due x.timer (s.clock + e) = true → pin = .stopChain → x.level = .closed → x.raw = .opened →
       exec (.debounceExpiry e pin) s = .next (settle (begin e s) (trip .estopChain (raise .estopChain
         (BitVec.ofInt 16 s.moe.last.signed ++ (if s.brs.trip.latched then (0 : Byte) else (1 : Byte)) ++ (0 : Byte))
         { begin e s with brs := { s.brs with
           chain := { raw := .opened, level := .opened, timer := none }, estopLatched := true } })))) ∧
     (due x.timer (s.clock + e) = true → pin = .stopChain → x.level = .closed → x.raw = .opened →
       Settles (.debounceExpiry e pin) s fun t =>
         t.brs.chain = { raw := .opened, level := .opened, timer := none } ∧ t.brs.key = s.brs.key ∧
         t.brs.estopLatched = true ∧ t.hlc.state = (if s.brs.trip.latched then s.hlc.state else .tripped) ∧
         t.rpu.slots[EventKind.estopChain.code].count = satAdd s.rpu.slots[EventKind.estopChain.code].count 1 ∧
         (s.brs.trip.latched = false → t.brs.trip = { latched := true, first := some .estopChain, causes := 32,
                                                      posA := s.moe.last.posA, v := s.moe.last.signed,
                                                      time := t.clock }) ∧
         (s.brs.trip.latched = true → t.hlc = s.hlc ∧
           t.brs.trip = { s.brs.trip with causes := s.brs.trip.causes ||| 32 }) ∧
         t.moe = s.moe ∧ t.dru = s.dru ∧ t.adu = s.adu ∧ t.mga = s.mga))

/-- TRIP_RESET: the refusals in the order NOT_TRIPPED, NO_KEY, MOVING, CHAIN_OPEN, TABLES change nothing but the reply;
accepted, the record is cleared, the newest entry marked, ESTOP_LATCHED cleared and the haul PARKED without a berth
(R61, R97). What is said holds before the end of the step takes a pending activation (R178). -/
def Obligations.TripResetNeedsKeyAndRest : Prop :=
  ∀ (s : State) (arr : Arrival) (tag : Byte), ManagerArrives s arr [0x0C, tag] →
    let refused := fun code : Byte => exec (.tripReset arr tag []) s =
      .next { begin arr.elapsed s with rif := s.answered (mgmtReply s arr 0x0C tag code []) }
    let missing := s.mga.active.node = none ∨ s.mga.active.stop = none ∨ s.mga.active.profile = none ∨ s.line = none
    (s.brs.trip.latched = false → refused 0x12) ∧
    (s.brs.trip.latched = true → s.brs.key.level = .opened → refused 0x14) ∧
    (s.brs.trip.latched = true → s.brs.key.level = .closed → s.moe.still = false → refused 0x11) ∧
    (s.brs.trip.latched = true → s.brs.key.level = .closed → s.moe.still = true → s.brs.chain.level = .opened →
      refused 0x15) ∧
    (s.brs.trip.latched = true → s.brs.key.level = .closed → s.moe.still = true → s.brs.chain.level = .closed →
      missing → refused 0x0F) ∧
    (s.brs.trip.latched = true → s.brs.key.level = .closed → s.moe.still = true → s.brs.chain.level = .closed →
      ¬ missing →
      ∀ (older : List TripEntry) (newest : TripEntry), s.brs.history = older ++ [newest] →
      Settles (.tripReset arr tag []) s fun t =>
        t.brs.trip = { latched := false, first := none, causes := 0, posA := 0, v := 0, time := 0 } ∧
        t.brs.history = older ++ [{ newest with cleared := true }] ∧ t.brs.estopLatched = false ∧
        t.hlc = { s.hlc with state := .parked, berth := none, boardingOpen := false, armTimer := none } ∧
        t.ebHold = true ∧ t.sbDemand = true ∧ t.driveEnable = false ∧
        t.env = { s.env with mode := .off, e := 0 } ∧
        t.rif = s.answered (mgmtReply s arr 0x0C tag 0x00 []) ∧
        t.moe = s.moe ∧ t.dru = s.dru ∧ t.adu = s.adu ∧ t.mga = s.mga ∧ t.rpu = s.rpu ∧ t.test = s.test)

/-! ### Brake test runs (chapter 4) -/

/-- BRAKE_TEST: the refusals in the order STATE, BUSY, BAD_MASK, RANGE; accepted, the record is cleared, the
selected stages and v_test written, the first selected stage WAITING, and the failed flags kept; the haul does not
move (R67). BRAKE_TEST_ABORT: NOTHING_ACTIVE unless a test is ACTIVE; a WAITING stage is ABORTED and the test IDLE,
with one BRAKE_TEST_RESULT; a BRAKING one goes on with abort-pending set (R75). The event carries the stage, outcome 3
and decel 0. -/
def Obligations.BrakeTestStartsAndAborts : Prop :=
  (∀ (s : State) (arr : Arrival) (tag mask v1 v0 : Byte) (l : Line),
     ManagerArrives s arr [0x0E, tag, mask, v1, v0] → s.line = some l →
     let v := (v1 ++ v0).toNat
     let refused := fun code : Byte => exec (.brakeTest arr tag [mask, v1, v0]) s =
       .next { begin arr.elapsed s with rif := s.answered (mgmtReply s arr 0x0E tag code []) }
     (¬ (s.hlc.state = .parked ∨ s.hlc.state = .boarding) → refused 0x04) ∧
     ((s.hlc.state = .parked ∨ s.hlc.state = .boarding) →
       (s.test.state = .active → refused 0x16) ∧
       (s.test.state ≠ .active →
         (mask ≠ 1 → mask ≠ 2 → mask ≠ 3 → refused 0x09) ∧
         ((mask = 1 ∨ mask = 2 ∨ mask = 3) →
           ((v < 500 ∨ l.vLineMax < v) → refused 0x17) ∧
           (500 ≤ v → v ≤ l.vLineMax →
             exec (.brakeTest arr tag [mask, v1, v0]) s = .next { begin arr.elapsed s with
               rif := s.answered (mgmtReply s arr 0x0E tag 0x00 [])
               test := { state := .active, selSvc := decide (mask ≠ 2), selEmg := decide (mask ≠ 1), vTest := v,
                         abortPending := false, failureMark := false,
                         svc := ⟨if mask = 2 then .idle else .waiting, 0, 0, 0, 0, 0, 0⟩,
                         emg := ⟨if mask = 2 then .waiting else .idle, 0, 0, 0, 0, 0, 0⟩,
                         svcFailed := s.test.svcFailed, emgFailed := s.test.emgFailed } }))))) ∧
  (∀ (s : State) (arr : Arrival) (tag : Byte), ManagerArrives s arr [0x0F, tag] →
     (s.test.state ≠ .active → exec (.brakeTestAbort arr tag []) s =
       .next { begin arr.elapsed s with rif := s.answered (mgmtReply s arr 0x0F tag 0x18 []) }) ∧
     (s.test.state = .active → (s.test.svc.status = .braking ∨
         (¬ s.test.svc.live ∧ s.test.emg.status = .braking)) →
       exec (.brakeTestAbort arr tag []) s = .next { begin arr.elapsed s with
         rif := s.answered (mgmtReply s arr 0x0F tag 0x00 [])
         test := { s.test with abortPending := true } }) ∧
     (s.test.state = .active → (s.test.svc.status = .waiting ∨
         (¬ s.test.svc.live ∧ s.test.emg.status = .waiting)) →
       let svc := s.test.svc.status = .waiting
       let test : BrakeTest := if svc then { s.test with state := .idle, svc := { s.test.svc with status := .aborted } }
         else { s.test with state := .idle, emg := { s.test.emg with status := .aborted } }
       let u := raise .brakeTestResult ((if svc then (1 : Byte) else (2 : Byte)) ++ (3 : Byte) ++ (0 : BitVec 16))
         { begin arr.elapsed s with rif := s.rif.count .absorbed, test := test }
       exec (.brakeTestAbort arr tag []) s = .next { u with
         rif := { u.rif with reply := s.rif.reply ++ [mgmtReply s arr 0x0F tag 0x00 []] } } ∧
       Completes (.brakeTestAbort arr tag []) s fun t =>
         t.test = (if s.test.svc.status = .waiting
           then { s.test with state := .idle, svc := { s.test.svc with status := .aborted } }
           else { s.test with state := .idle, emg := { s.test.emg with status := .aborted } }) ∧
         t.rpu.slots[EventKind.brakeTestResult.code].count =
           satAdd s.rpu.slots[EventKind.brakeTestResult.code].count 1 ∧
         t.rif.reply = s.rif.reply ++ [mgmtReply s arr 0x0F tag 0x00 []] ∧ t.hlc = s.hlc ∧ t.brs = s.brs ∧
         t.env = s.env ∧ t.moe = s.moe ∧ t.dru = s.dru ∧ t.adu = s.adu ∧ t.mga = s.mga))

/-- The trigger of a WAITING stage: on a RUNNING haul with V at or above v_test the stage records V, posA and the
time, brakes, and the brake under test is applied: SERVICE_STOP with cause BRAKE_TEST and the drive disabled, or a
trip latched with cause BRAKE_TEST; below v_test, or out of RUNNING, nothing happens (R68–R70). The end of a
measured stop, of the SERVICE and of the EMERGENCY stage, at the first update with a KNOWN speed and V within v_still:
t_stop is the time from the trigger modulo 2³², 0 counting as 1; d_stop the distance; decel v_apply × 1000 / t_stop
truncated; the stage is FAILED under the failure mark or below the line's threshold for it and else PASSED, its flag
follows, one BRAKE_TEST_RESULT carries stage, outcome and decel, and the test goes on to EMERGENCY, or is COMPLETE, or
IDLE with abort-pending. With abort-pending and no failure mark the stage is ABORTED instead, its result fields 0, its
trigger time kept (the model's reading, log 10), and the test IDLE. A stop that is not ended yet goes on (R71, R72, R75). -/
def Obligations.BrakeTestStagesTriggerAndMeasure : Prop :=
  (∀ (s : State), s.brs.trip.latched = false → s.inReset = false →
     ((s.hlc.state ≠ .running ∨ s.moe.last.v < s.test.vTest) → s.test.svc.status ≠ .braking →
       s.test.emg.status ≠ .braking → judgeTest s = s) ∧
     (s.hlc.state = .running → s.test.vTest ≤ s.moe.last.v → s.test.svc.status = .waiting →
       let t := judgeTest s
       t.test = { s.test with svc := { s.test.svc with
         status := .braking, trigger := s.clock, vApply := s.moe.last.v, pApply := s.moe.last.posA } } ∧
       t.hlc = { s.hlc with state := .serviceStop, stopCause := some .brakeTest, further := 0 } ∧
       t.sbDemand = true ∧ t.driveEnable = false ∧ t.ebHold = true ∧
       t.brs.sup.active = true ∧ t.brs.sup.vStart = s.moe.last.v) ∧
     (s.hlc.state = .running → s.test.vTest ≤ s.moe.last.v → ¬ s.test.svc.live → s.test.emg.status = .waiting →
       let t := judgeTest s
       t.test = { s.test with emg := { s.test.emg with
         status := .braking, trigger := s.clock, vApply := s.moe.last.v, pApply := s.moe.last.posA } } ∧
       t.hlc.state = .tripped ∧ t.brs.trip.first = some .brakeTest ∧ t.brs.trip.causes = 512 ∧
       t.ebHold = false ∧ t.sbDemand = true ∧ t.driveEnable = false)) ∧
  ∀ (s : State) (l : Line) (id : StageId), s.line = some l → (s.test.stage id).status = .braking →
     (id = .emergency → ¬ s.test.svc.live) →
     let x := s.test.stage id
     let ended := s.moe.last.known = true ∧ s.moe.last.v ≤ l.vStill
     let code : Byte := if id = .service then 1 else 2
     (¬ ended → judgeTest s = s) ∧
     (ended → (s.test.abortPending = false ∨ s.test.failureMark = true) →
       let time := max 1 (s.clock - x.trigger).toNat
       let decel := x.vApply * 1000 / time
       let failed := decide (s.test.failureMark = true ∨
         decel < (if id = .service then l.aTestSvc else l.aTestEmg))
       let y : Stage := { x with
         status := if failed then .failed else .passed, tStop := time,
         dStop := (s.moe.last.posA - x.pApply).natAbs, decel := decel }
       let further := s.test.abortPending = false ∧ id = .service ∧ s.test.selEmg = true
       judgeTest s = raise .brakeTestResult
         (code ++ (if failed then (2 : Byte) else (1 : Byte)) ++ BitVec.ofNat 16 (min decel 65535))
         { s with test := { s.test with
           svc := if id = .service then y else s.test.svc
           emg := if id = .emergency then y else if further then { s.test.emg with status := .waiting }
             else s.test.emg
           svcFailed := if id = .service then failed else s.test.svcFailed
           emgFailed := if id = .emergency then failed else s.test.emgFailed
           failureMark := false, abortPending := false
           state := if s.test.abortPending then .idle else if further then s.test.state else .complete } }) ∧
     (ended → s.test.abortPending = true → s.test.failureMark = false →
       let y : Stage := { status := .aborted, trigger := x.trigger, vApply := 0, pApply := 0, tStop := 0,
                          dStop := 0, decel := 0 }
       judgeTest s = raise .brakeTestResult (code ++ (3 : Byte) ++ (0 : BitVec 16))
         { s with test := { s.test with
           svc := if id = .service then y else s.test.svc
           emg := if id = .emergency then y else s.test.emg
           abortPending := false, state := .idle } })

/-! ### Haul states and departures (chapter 5) -/

/-- A demand by haul state (R93, R94): ARMED returns to the origin; RUNNING enters SERVICE_STOP with the cause, the
forced zero set-point and supervision; SERVICE_STOP counts it and keeps its cause; at rest nothing of the haul moves.
One SERVICE_STOP event is counted in each. The event carries the cause code, the outcome, the target or 0xFF, and for
cause DRIVE the fault code, else 0; it is raised after the change of haul state and its forced zero set-point (the
model's choice, log 37), and a SERVICE stage that brakes in SERVICE_STOP ends last (log 10). -/
def Obligations.DemandActsByHaulState : Prop :=
  ∀ (cause : StopCause) (s : State),
    let t := demand cause s
    let raised := fun outcome : Byte => raise .serviceStop (cause.code ++ outcome ++
      (match s.hlc.target with
        | some i => BitVec.ofNat 8 i
        | none => (0xFF : Byte)) ++
      (if cause = .drive then s.hlc.drive.fault else (0 : Byte)))
    (s.hlc.state = .armed → t = raised 2 (returnToOrigin s)) ∧
    (s.hlc.state = .running → t = raised 1 (enterServiceStop cause s)) ∧
    (s.hlc.state = .serviceStop →
      let u := raised 3 { s with hlc := { s.hlc with further := min (s.hlc.further + 1) 255 } }
      let x := s.test.svc
      (x.status ≠ .braking → t = u) ∧
      (x.status = .braking →
        t = raise .brakeTestResult ((1 : Byte) ++ (3 : Byte) ++ (0 : BitVec 16)) { u with test :=
          { s.test with state := .idle, abortPending := false, failureMark := false,
                        svc := ⟨.aborted, x.trigger, 0, 0, 0, 0, 0⟩ } })) ∧
    ((s.hlc.state = .parked ∨ s.hlc.state = .boarding ∨ s.hlc.state = .tripped) → t = raised 4 s) ∧
    t.rpu.slots[EventKind.serviceStop.code].count = satAdd s.rpu.slots[EventKind.serviceStop.code].count 1 ∧
    t.moe = s.moe ∧ t.dru = s.dru ∧ t.mga = s.mga ∧ t.clock = s.clock ∧ t.brs.trip = s.brs.trip ∧
    ((s.hlc.state = .parked ∨ s.hlc.state = .boarding ∨ s.hlc.state = .tripped) →
      t.hlc = s.hlc ∧ t.env = s.env ∧ t.brs = s.brs ∧ t.test = s.test ∧ t.adu = s.adu ∧
      t.rif.force = s.rif.force) ∧
    (s.hlc.state = .armed → ∀ o, s.hlc.origin = some o →
      t.hlc = { s.hlc with state := o.toState, boardingOpen := false, armTimer := none } ∧
      t.env = { s.env with mode := .off, e := 0 } ∧ t.brs.tier = .normal ∧ t.brs.aboveService = false ∧
      t.rif.force = some (s.forcedZero s.rif.txSeq) ∧ t.test = s.test) ∧
    (s.hlc.state = .running →
      t.hlc = { s.hlc with state := .serviceStop, stopCause := some cause, further := 0 } ∧
      t.env.mode = s.env.mode ∧ t.brs.tier = s.brs.tier ∧
      t.brs.sup = { active := true, vStart := s.moe.last.v, short := 0,
                    expiry := some { start := s.clock, dur := s.param (·.tSup) 0 } } ∧
      t.rif.force = some (s.forcedZero s.rif.txSeq) ∧ t.test = s.test ∧ t.adu = s.adu) ∧
    (s.hlc.state = .serviceStop →
      t.hlc = { s.hlc with further := min (s.hlc.further + 1) 255 } ∧ t.env = s.env ∧ t.brs = s.brs ∧
      t.adu = s.adu ∧ t.rif.force = s.rif.force ∧
      (s.test.svc.status ≠ .braking → t.test = s.test) ∧
      (s.test.svc.status = .braking → t.test.state = .idle ∧ t.test.svc.status = .aborted))

/-- When the line clock reaches the arm expiry while the haul is ARMED, the haul returns to its origin and ARM_TIMEOUT
is raised with the origin, the target and t_arm; an expiry not reached, or out of ARMED, does nothing (R89). The
forced zero set-point of the return is placed before ARM_TIMEOUT is raised (the model's choice, log 37). What is said
holds before the end of the step takes a pending activation (R178). -/
def Obligations.ArmExpiryReturnsTheHaulToItsOrigin : Prop :=
  ∀ (s : State) (e : Time), s.inReset = false →
    ((s.hlc.state ≠ .armed ∨ due s.hlc.armTimer (s.clock + e) = false) →
      exec (.armExpiry e) s = .next (begin e s)) ∧
    (s.hlc.state = .armed → due s.hlc.armTimer (s.clock + e) = true →
      ∀ (o : Origin) (l : Line), s.hlc.origin = some o → s.line = some l →
      exec (.armExpiry e) s = .next (settle (begin e s) (raise .armTimeout
        (o.toState.code ++ indexByte s.hlc.target ++ BitVec.ofNat 16 l.tArm) (returnToOrigin (begin e s)))) ∧
      (Settles (.armExpiry e) s fun t =>
        t.hlc = { s.hlc with state := o.toState, boardingOpen := false, armTimer := none } ∧
        t.env = { s.env with mode := .off, e := 0 } ∧ t.rif.force = some (s.forcedZero s.rif.txSeq) ∧
        t.rpu.slots[EventKind.armTimeout.code].count =
          satAdd s.rpu.slots[EventKind.armTimeout.code].count 1 ∧
        t.brs.tier = .normal ∧ t.sbDemand = true ∧ t.driveEnable = false ∧
        t.moe = s.moe ∧ t.dru = s.dru ∧ t.mga = s.mga ∧ t.test = s.test))

/-- DRIVE_STATUS from the DRIVE node replaces every field of the record; with ready other than 1 it takes a demand
with cause DRIVE out of rest. DRIVE_EXPIRY makes the expiry idle and takes the same demand (R93, R98). The set-point
that a stop forces takes the next transmit sequence, before the REPORT of the event (the model's choice, log 37). What
is said holds before the end of the step takes a pending activation (R178). -/
def Obligations.DriveReadinessIsJudged : Prop :=
  (∀ (s : State) (arr : Arrival) (r f v1 v0 : Byte), PassesBy s arr 0x21 [r, f, v1, v0] →
    s.roleOf arr.src = some .drive →
    let now := s.clock + arr.elapsed
    let d : Drive := { ready := r, fault := f, speed := v1 ++ v0, arrival := some now,
                       expiry := s.line.map fun l => { start := now, dur := l.tDriveFresh } }
    ((r = 1 ∨ s.hlc.state = .parked ∨ s.hlc.state = .boarding ∨ s.hlc.state = .tripped) →
      exec (.driveStatus arr [r, f, v1, v0]) s = .next { begin arr.elapsed s with
        rif := s.forwarded (frameOf arr 0x21 [r, f, v1, v0]) .plain
        hlc := { s.hlc with drive := d } }) ∧
    (r ≠ 1 → s.hlc.state = .running → Completes (.driveStatus arr [r, f, v1, v0]) s fun t =>
      t.hlc = { s.hlc with state := .serviceStop, stopCause := some .drive, further := 0, drive := d } ∧
      t.rif.fifo = s.rif.fifo ++ [⟨frameOf arr 0x21 [r, f, v1, v0], .plain⟩] ∧
      t.rif.force = some (s.forcedZero s.rif.txSeq) ∧ t.brs.sup.active = true ∧
      t.moe = s.moe ∧ t.dru = s.dru ∧ t.adu = s.adu ∧ t.mga = s.mga) ∧
    (r ≠ 1 → s.hlc.state = .armed → ∀ o, s.hlc.origin = some o →
      Settles (.driveStatus arr [r, f, v1, v0]) s fun t =>
        t.hlc = { s.hlc with state := o.toState, boardingOpen := false, armTimer := none, drive := d } ∧
        t.rif.fifo = s.rif.fifo ++ [⟨frameOf arr 0x21 [r, f, v1, v0], .plain⟩] ∧
        t.moe = s.moe ∧ t.dru = s.dru ∧ t.mga = s.mga) ∧
    (r ≠ 1 → s.hlc.state = .serviceStop → Completes (.driveStatus arr [r, f, v1, v0]) s fun t =>
      t.hlc = { s.hlc with further := min (s.hlc.further + 1) 255, drive := d } ∧ t.env = s.env ∧
      t.brs = s.brs ∧ t.moe = s.moe ∧ t.dru = s.dru ∧ t.adu = s.adu ∧ t.mga = s.mga)) ∧
  ∀ (s : State) (e : Time), s.inReset = false →
    (due s.hlc.drive.expiry (s.clock + e) = false → exec (.driveExpiry e) s = .next (begin e s)) ∧
    (due s.hlc.drive.expiry (s.clock + e) = true →
      ((s.hlc.state = .parked ∨ s.hlc.state = .boarding ∨ s.hlc.state = .tripped) →
        exec (.driveExpiry e) s = .next { begin e s with
          hlc := { s.hlc with drive := { s.hlc.drive with expiry := none } } }) ∧
      (s.hlc.state = .running → Completes (.driveExpiry e) s fun t =>
        t.hlc = { s.hlc with state := .serviceStop, stopCause := some .drive, further := 0,
                             drive := { s.hlc.drive with expiry := none } } ∧
        t.rif.force = some (s.forcedZero s.rif.txSeq) ∧ t.brs.sup.active = true ∧
        t.moe = s.moe ∧ t.dru = s.dru ∧ t.adu = s.adu ∧ t.mga = s.mga) ∧
      (s.hlc.state = .armed → ∀ o, s.hlc.origin = some o →
        Settles (.driveExpiry e) s fun t =>
          t.hlc = { s.hlc with state := o.toState, boardingOpen := false, armTimer := none,
                               drive := { s.hlc.drive with expiry := none } } ∧
          t.rif.force = some (s.forcedZero s.rif.txSeq) ∧ t.env = { s.env with mode := .off, e := 0 } ∧
          t.moe = s.moe ∧ t.dru = s.dru ∧ t.mga = s.mga) ∧
      (s.hlc.state = .serviceStop → Completes (.driveExpiry e) s fun t =>
        t.hlc = { s.hlc with further := min (s.hlc.further + 1) 255,
                             drive := { s.hlc.drive with expiry := none } } ∧ t.env = s.env ∧
        t.brs = s.brs ∧ t.moe = s.moe ∧ t.dru = s.dru ∧ t.adu = s.adu ∧ t.mga = s.mga))

/-- OPEN: in PARKED it needs STILL, a trusted position in the window of a stop (the lowest-indexed one berths) and no
failed brake, and enters BOARDING there with boarding open; in BOARDING it re-opens boarding; a refusal changes
nothing but the reply (R82, R84). -/
def Obligations.OpenBerthsTheHaul : Prop :=
  (∀ (s : State) (pos : Int) (i : Nat), s.berthing pos = some i ↔
    ∃ st, s.stops[i]? = some st ∧ (pos - st.pos).natAbs ≤ st.half ∧
      ∀ j, j < i → ∀ st', s.stops[j]? = some st' → st'.half < (pos - st'.pos).natAbs) ∧
  ∀ (s : State) (arr : Arrival) (argument tag : Byte), ConsoleArrives s arr 0x50 [0x01, argument, tag] →
    let refused := fun code : Byte => exec (.lineOpen arr argument tag) s =
      .next { begin arr.elapsed s with rif := s.answered (lineReply s arr tag 0x50 0x01 code) }
    let failed := s.test.svcFailed = true ∨ s.test.emgFailed = true
    let berthed := s.moe.still = true ∧ s.moe.status.trusted = true
    ((s.hlc.state = .armed ∨ s.hlc.state = .running ∨ s.hlc.state = .serviceStop ∨ s.hlc.state = .tripped) →
      refused 0x01) ∧
    (s.hlc.state = .parked → (¬ berthed ∨ s.berthing s.moe.last.posA = none) → refused 0x02) ∧
    (s.hlc.state = .parked → berthed → ∀ i, s.berthing s.moe.last.posA = some i →
      (failed → refused 0x03) ∧
      (¬ failed → Completes (.lineOpen arr argument tag) s fun t =>
        t.hlc = { s.hlc with state := .boarding, berth := some i, boardingOpen := true, armTimer := none } ∧
        t.env = { s.env with mode := .off, e := 0 } ∧
        t.adu = { s.adu with fullA := false, fullB := false } ∧
        t.rif = s.answered (lineReply s arr tag 0x50 0x01 0x00) ∧ t.brs.trip = s.brs.trip ∧
        t.moe = s.moe ∧ t.dru = s.dru ∧ t.mga = s.mga ∧ t.rpu = s.rpu ∧ t.test = s.test)) ∧
    (s.hlc.state = .boarding → s.hlc.boardingOpen = true → refused 0x04) ∧
    (s.hlc.state = .boarding → s.hlc.boardingOpen = false →
      (failed → refused 0x03) ∧
      (¬ failed → exec (.lineOpen arr argument tag) s = .next { begin arr.elapsed s with
        rif := s.answered (lineReply s arr tag 0x50 0x01 0x00)
        hlc := { s.hlc with boardingOpen := true } }))

/-- CLOSE_BOARDING: accepted in BOARDING with boarding open, which is cleared; refused STATE in every other case, with
nothing changed but the reply (R85). -/
def Obligations.CloseBoardingEndsAdmission : Prop :=
  ∀ (s : State) (arr : Arrival) (argument tag : Byte), ConsoleArrives s arr 0x50 [0x02, argument, tag] →
    ((s.hlc.state = .boarding ∧ s.hlc.boardingOpen = true) →
      exec (.closeBoarding arr argument tag) s = .next { begin arr.elapsed s with
        rif := s.answered (lineReply s arr tag 0x50 0x02 0x00)
        hlc := { s.hlc with boardingOpen := false } }) ∧
    (¬ (s.hlc.state = .boarding ∧ s.hlc.boardingOpen = true) →
      exec (.closeBoarding arr argument tag) s = .next { begin arr.elapsed s with
        rif := s.answered (lineReply s arr tag 0x50 0x02 0x01) })

/-- DEPART: the refusals STATE, BAD_TARGET, SAME_STOP, BOARDING_OPEN, PENDING_GRANTS, DOORS, DRIVE, in order, change
nothing but the reply; accepted, the haul is ARMED with its origin, target, direction and arm expiry, the berth kept,
the Envelope Unit takes the target and direction, latches the out-of-balance load and the load class of the counts as
they stand, chooses its mode by the latest update, computes E under it and hands it on to the thresholds where the mode
or E has changed (R27, R28, R37, R43, R86, R87). -/
def Obligations.DepartArmsTheHaul : Prop :=
  ∀ (s : State) (arr : Arrival) (target tag : Byte), ConsoleArrives s arr 0x50 [0x03, target, tag] →
    let now := s.clock + arr.elapsed
    let refused := fun code : Byte => exec (.depart arr target tag) s =
      .next { begin arr.elapsed s with rif := s.answered (lineReply s arr tag 0x50 0x03 code) }
    let stands := s.hlc.state = .boarding ∨ s.hlc.state = .parked
    let secure : Prop := (∀ car side, (s.dru.door car side).state = .locked) ∧
      ∀ car, running (s.dru.reports car).expiry now = true ∧
        ∃ r, (s.dru.reports car).report = some r ∧ r.left.secure = true ∧ r.right.secure = true
    let ready : Prop := running s.hlc.drive.expiry now = true ∧ s.hlc.drive.ready = 1
    (¬ stands → refused 0x01) ∧
    (stands → s.stops[target.toNat]? = none → refused 0x05) ∧
    (stands → ∀ st : Stop, s.stops[target.toNat]? = some st →
      let same : Prop := s.hlc.berth = some target.toNat ∨ (s.moe.last.posA - st.pos).natAbs ≤ st.half
      (same → refused 0x06) ∧
      (¬ same → s.hlc.boardingOpen = true → refused 0x07) ∧
      (¬ same → s.hlc.boardingOpen = false → s.adu.grants ≠ [] → refused 0x08) ∧
      (¬ same → s.hlc.boardingOpen = false → s.adu.grants = [] → ¬ secure → refused 0x09) ∧
      (¬ same → s.hlc.boardingOpen = false → s.adu.grants = [] → secure → ¬ ready → refused 0x0A) ∧
      (¬ same → s.hlc.boardingOpen = false → s.adu.grants = [] → secure → ready → ∀ l, s.line = some l →
        let pos := s.moe.last.posA
        let up : Prop := pos < st.pos
        let a := s.adu.aboardA + s.adu.unticketedA
        let b := s.adu.aboardB + s.adu.unticketedB
        let load := (if up then b - a else a - b) * l.mPass
        let k : Fin 4 := if load ≤ l.th1 then 0 else if load ≤ l.th2 then 1 else if load ≤ l.th3 then 2 else 3
        let haul : Hlc := { s.hlc with
          state := .armed, target := some target.toNat
          dir := if up then .up else .down
          origin := some (if s.hlc.state = .boarding then .boarding else .parked)
          armTimer := some { start := now, dur := l.tArm * 1000 } }
        exec (.depart arr target tag) s = .next (envArm { begin arr.elapsed s with
          hlc := haul, rif := s.answered (lineReply s arr tag 0x50 0x03 0x00) }) ∧
        Completes (.depart arr target tag) s fun t =>
          t.env.load = load ∧ t.env.loadClass = k ∧
          (s.moe.last.status.trusted = false → t.env.e = min l.vCreep l.vLineMax) ∧
          (∀ x rest, s.mga.active.profile = some (x :: rest) → s.moe.last.status.trusted = true →
            let y := segmentFrom pos x rest
            let d := if up then st.pos - pos else pos - st.pos
            t.env.e = min (min ((if up then y.up else y.down) * l.pct[k] / 100) (curveSpeed l k st.half d)) l.vLineMax) ∧
          (t.env ≠ { s.env with target := t.env.target, dir := t.env.dir, load := load, loadClass := k } →
            t.brs.tWarn = t.env.e + t.env.e * l.pw / 1000 + l.cw ∧
            t.brs.tSvc = t.env.e + t.env.e * l.ps / 1000 + l.cs ∧
            t.brs.tEmg = min (t.env.e + t.env.e * l.pe / 1000 + l.ce) l.vTripAbs) ∧
          t.hlc = { s.hlc with
            state := .armed, target := some target.toNat
            dir := if s.moe.last.posA < st.pos then .up else .down
            origin := some (if s.hlc.state = .boarding then .boarding else .parked)
            armTimer := some { start := now, dur := l.tArm * 1000 } } ∧
          t.env.target = some target.toNat ∧ t.env.dir = t.hlc.dir ∧
          t.env.mode = (if s.moe.last.status.trusted then .normal else .creep) ∧
          t.sbDemand = false ∧ t.driveEnable = true ∧
          t.rif = s.answered (lineReply s arr tag 0x50 0x03 0x00) ∧
          t.brs.trip = s.brs.trip ∧ t.brs.tier = s.brs.tier ∧ t.brs.sup = s.brs.sup ∧
          t.moe = s.moe ∧ t.dru = s.dru ∧ t.adu = s.adu ∧ t.mga = s.mga ∧ t.rpu = s.rpu ∧ t.test = s.test))

/-- STOP, PARK and a command code that is none of the five. STOP: ARMED returns to the origin, RUNNING enters
SERVICE_STOP with cause CONSOLE, SERVICE_STOP counts it, at rest it is refused STATE. PARK: refused out of BOARDING
(STATE) and with a record not LOCKED (DOORS); accepted, PARKED with the berth kept and every grant removed, with
one GRANT_EXPIRED where there was one. Any other code is refused UNKNOWN_COMMAND (R83, R91, R92, R148). GRANT_EXPIRED
carries the number removed, gate 0, car 0xFF and token 0. The set-point that a STOP forces on a run goes before the
SERVICE_STOP event (the model's choice, log 37). An accepted STOP or PARK is followed by a pending activation where it
parks the haul (R178). -/
def Obligations.StopAndParkEndTheRunAndTheBoarding : Prop :=
  (∀ (s : State) (arr : Arrival) (argument tag : Byte), ConsoleArrives s arr 0x50 [0x04, argument, tag] →
    let reply := lineReply s arr tag 0x50 0x04 0x00
    let found : State := { begin arr.elapsed s with rif := s.rif.count .absorbed }
    let answered := fun u : State => exec (.lineStop arr argument tag) s =
      .next (settle (begin arr.elapsed s) { u with rif := { u.rif with reply := s.rif.reply ++ [reply] } })
    (s.hlc.state = .armed → answered (returnToOrigin found)) ∧
    ((s.hlc.state = .running ∨ s.hlc.state = .serviceStop) → answered (demand .console found)) ∧
    ((s.hlc.state = .parked ∨ s.hlc.state = .boarding ∨ s.hlc.state = .tripped) →
      exec (.lineStop arr argument tag) s = .next { begin arr.elapsed s with
        rif := s.answered (lineReply s arr tag 0x50 0x04 0x01) }) ∧
    (s.hlc.state = .armed → ∀ o, s.hlc.origin = some o →
      Settles (.lineStop arr argument tag) s fun t =>
        t.hlc = { s.hlc with state := o.toState, boardingOpen := false, armTimer := none } ∧
        t.env = { s.env with mode := .off, e := 0 } ∧ t.rif.reply = s.rif.reply ++ [reply] ∧
        t.rif.force = some (s.forcedZero s.rif.txSeq) ∧ t.rpu = s.rpu ∧
        t.moe = s.moe ∧ t.dru = s.dru ∧ t.mga = s.mga) ∧
    (s.hlc.state = .running → Completes (.lineStop arr argument tag) s fun t =>
      t.hlc = { s.hlc with state := .serviceStop, stopCause := some .console, further := 0 } ∧
      t.rif.reply = s.rif.reply ++ [reply] ∧ t.rif.force = some (s.forcedZero s.rif.txSeq) ∧
      t.sbDemand = true ∧ t.driveEnable = true ∧ t.brs.sup.active = true ∧
      t.moe = s.moe ∧ t.dru = s.dru ∧ t.adu = s.adu ∧ t.mga = s.mga) ∧
    (s.hlc.state = .serviceStop → Completes (.lineStop arr argument tag) s fun t =>
      t.hlc = { s.hlc with further := min (s.hlc.further + 1) 255 } ∧ t.rif.reply = s.rif.reply ++ [reply] ∧
      t.env = s.env ∧ t.brs = s.brs ∧ t.moe = s.moe ∧ t.dru = s.dru ∧ t.adu = s.adu ∧ t.mga = s.mga)) ∧
  (∀ (s : State) (arr : Arrival) (argument tag : Byte), ConsoleArrives s arr 0x50 [0x05, argument, tag] →
    let refused := fun code : Byte => exec (.park arr argument tag) s =
      .next { begin arr.elapsed s with rif := s.answered (lineReply s arr tag 0x50 0x05 code) }
    let n := s.adu.grants.length
    (s.hlc.state ≠ .boarding → refused 0x01) ∧
    (s.hlc.state = .boarding → ¬ (∀ car side, (s.dru.door car side).state = .locked) → refused 0x09) ∧
    (s.hlc.state = .boarding → (∀ car side, (s.dru.door car side).state = .locked) →
      Settles (.park arr argument tag) s fun t =>
        t.hlc = { s.hlc with state := .parked, boardingOpen := false, armTimer := none } ∧
        t.adu = { s.adu with
          grants := [], counters := bumpBy s.adu.counters AduCounter.grantParked.idx n } ∧
        t.rpu.slots[EventKind.grantExpired.code].count =
          (if n = 0 then s.rpu.slots[EventKind.grantExpired.code].count
           else satAdd s.rpu.slots[EventKind.grantExpired.code].count 1) ∧
        t.rif.reply = s.rif.reply ++ [lineReply s arr tag 0x50 0x05 0x00] ∧
        t.env = { s.env with mode := .off, e := 0 } ∧
        t.moe = s.moe ∧ t.dru = s.dru ∧ t.mga = s.mga ∧ t.test = s.test) ∧
    (s.hlc.state = .boarding → (∀ car side, (s.dru.door car side).state = .locked) →
      let parked := enterRest .parked s.hlc.berth false { begin arr.elapsed s with rif := s.rif.count .absorbed }
      let removed : State := { parked with adu := { s.adu with
        grants := [], counters := bumpBy s.adu.counters AduCounter.grantParked.idx n } }
      let u := if n = 0 then removed
        else raise .grantExpired (BitVec.ofNat 8 n ++ (0 : Byte) ++ (0xFF : Byte) ++ (0 : Byte)) removed
      exec (.park arr argument tag) s = .next (settle (begin arr.elapsed s) { u with
        rif := { u.rif with reply := s.rif.reply ++ [lineReply s arr tag 0x50 0x05 0x00] } }))) ∧
  ∀ (s : State) (arr : Arrival) (command argument tag : Byte),
    ConsoleArrives s arr 0x50 [command, argument, tag] → (command = 0 ∨ 5 < command.toNat) →
    exec (.unknownCommand arr command argument tag) s = .next { begin arr.elapsed s with
      rif := s.answered (lineReply s arr tag 0x50 command 0x0B) }

/-- A motion update, once STILL is judged and its values are stored, is taken by the Envelope Unit (frozen at SUSPECT in
NORMAL, else evaluated), the Brake Supervisor (tiers, overrun out of TRIPPED, loss, brake test, and the end of supervision
with STILL), the Door Release Unit (open doors, then withdrawals) and the Haul Controller, each on what the ones before it
have left (R10); so a withdrawal reads the haul state after a trip of R115 (log 35). In BOARDING with the sheave speed UNKNOWN
every record that is RELEASING or RELEASED becomes CLOSING with its close expiry, and its WITHDRAW stands last in the
DOOR class, in the order A-LEFT, A-RIGHT, B-LEFT, B-RIGHT (the model's choice, log 31), with no event; else nothing (R116).
With STILL set, a service stop ends in BOARDING at the berthing stop with ARRIVED via 2, or in PARKED without a berth;
a run with posA in the target's window arrives there with ARRIVED via 1; in every other case nothing moves (R95, R96).
-/
def Obligations.UpdatesWithdrawDoorsAndEndRuns : Prop :=
  (∀ s : State,
    let u : State := { s with moe := (motionUpdate s).moe }
    motionUpdate s = hlcUpdate (druUpdate (brsUpdate (envUpdate u))) ∧
    u.moe.last = { s.moe.motion with still := u.moe.still } ∧ (∀ ch, u.moe.channel ch = s.moe.channel ch)) ∧
  (∀ s : State,
    ((s.env.mode = .normal ∧ s.moe.last.status = .suspect) →
      envUpdate s = demand .positionSuspect (evaluateIn .frozen s)) ∧
    (¬ (s.env.mode = .normal ∧ s.moe.last.status = .suspect) → envUpdate s = envEvaluate s)) ∧
  (∀ s : State,
    let m := s.moe.last
    let beyond := m.status.trusted = true ∧ ∃ l low high, s.line = some l ∧ s.stops.head? = some low ∧
      s.stops.getLast? = some high ∧ (m.posA < low.pos - l.overrun ∨ high.pos + l.overrun < m.posA)
    let ended := fun t : State => if m.still = true
      then { t with brs := { t.brs with sup := { t.brs.sup with active := false, expiry := none } } } else t
    ((s.hlc.state ≠ .tripped ∧ beyond) →
      brsUpdate s = ended (judgeTest (judgeLoss (trip .overrun (judgeTier s))))) ∧
    ((s.hlc.state = .tripped ∨ ¬ beyond) → brsUpdate s = ended (judgeTest (judgeLoss (judgeTier s))))) ∧
  (∀ s : State, druUpdate s = judgeWithdrawal (judgeMovingOpen false s)) ∧
  (∀ (s : State) (l : Line), s.line = some l →
    let t := judgeWithdrawal s
    let open' := fun x : Car × Side =>
      (s.dru.door x.1 x.2).state == .releasing || (s.dru.door x.1 x.2).state == .released
    let w := [(Car.a, Side.left), (Car.a, Side.right), (Car.b, Side.left), (Car.b, Side.right)].filter open'
    (¬ (s.hlc.state = .boarding ∧ s.moe.last.known = false) → t = s) ∧
    (s.hlc.state = .boarding → s.moe.last.known = false →
      (∀ car side, t.dru.door car side = if open' (car, side)
        then { state := .closing, timer := some { start := s.clock, dur := l.tDoorClose * 1000 } }
        else s.dru.door car side) ∧
      t.dru.movingOpen = s.dru.movingOpen ∧ (∀ car, t.dru.reports car = s.dru.reports car) ∧
      t.rif.door = (s.rif.door.filter fun x => !w.contains (x.car, x.side)) ++
        w.mapIdx (fun i x => ⟨x.1, x.2, { kind := 0x42, dst := s.addressOf (carRole x.1), src := s.oaByte,
                                          seq := s.rif.txSeq + BitVec.ofNat 8 i, payload := [sideCode x.2, 2] }⟩) ∧
      t.rif.txSeq = s.rif.txSeq + BitVec.ofNat 8 w.length ∧ t.rif.fifo = s.rif.fifo ∧
      t.rif.reply = s.rif.reply ∧ t.rif.report = s.rif.report ∧ t.rpu = s.rpu ∧ t.hlc = s.hlc ∧ t.brs = s.brs ∧
      t.env = s.env ∧ t.moe = s.moe ∧ t.adu = s.adu ∧ t.mga = s.mga ∧ t.test = s.test)) ∧
  ∀ s : State,
    let pos := s.moe.last.posA
    let arrived := fun (via : Byte) (i : Nat) (st : Stop) => ∃ u,
      hlcUpdate s = raise .arrived (BitVec.ofNat 8 i ++ via ++ BitVec.ofInt 16 (pos - st.pos)) u ∧
      u.hlc = { s.hlc with state := .boarding, berth := some i, boardingOpen := false, armTimer := none } ∧
      u.env = { s.env with mode := .off, e := 0 } ∧ u.brs.tier = .normal ∧ u.brs.aboveService = false ∧
      u.brs.lossFlag = false ∧ u.brs.lossTimer = none ∧ u.brs.sup.active = false ∧ u.brs.sup.expiry = none ∧
      u.brs.trip = s.brs.trip ∧ u.adu = { s.adu with fullA := false, fullB := false } ∧ u.rif = s.rif ∧
      u.rpu = s.rpu ∧ u.moe = s.moe ∧ u.dru = s.dru ∧ u.mga = s.mga ∧ u.test = s.test
    (s.moe.last.still = false → hlcUpdate s = s) ∧
    ((s.hlc.state ≠ .running ∧ s.hlc.state ≠ .serviceStop) → hlcUpdate s = s) ∧
    (s.moe.last.still = true → s.hlc.state = .serviceStop →
      (∀ i st, s.berthing pos = some i → s.stops[i]? = some st → arrived 2 i st) ∧
      (s.berthing pos = none → let t := hlcUpdate s
        t.hlc = { s.hlc with state := .parked, berth := none, boardingOpen := false, armTimer := none } ∧
        t.env = { s.env with mode := .off, e := 0 } ∧ t.brs.tier = .normal ∧ t.brs.sup.active = false ∧
        t.brs.lossFlag = false ∧ t.brs.lossTimer = none ∧ t.brs.trip = s.brs.trip ∧ t.adu = s.adu ∧
        t.rif = s.rif ∧ t.rpu = s.rpu ∧ t.moe = s.moe ∧ t.dru = s.dru ∧ t.mga = s.mga ∧ t.test = s.test)) ∧
    (s.moe.last.still = true → s.hlc.state = .running → ∀ i st, s.hlc.target = some i → s.stops[i]? = some st →
      ((pos - st.pos).natAbs ≤ st.half → arrived 1 i st) ∧
      (st.half < (pos - st.pos).natAbs → hlcUpdate s = s))

/-! ### Door release (chapter 6) -/

/-- DOOR_STATE from a car's gateway: the report and its freshness expiry are stored, each of the car's records takes the
row of its state, the other car's records stand; a LOCKED side reported not locked raises DOOR_FAULT with reason 3
and the haul state, an obstructed one in CLOSING raises DOOR_OBSTRUCTED with the ms left; the left side is judged
before the right (R104, R109, R112–R114). A report that unlocks a LOCKED side first returns an ARMED haul to its origin
(R99) and trips a run with DOOR_OPEN_MOVING, whatever the speed (R114). The door-open-while-moving judgement follows: with
a record not LOCKED and V above v_still the flag is set and, where it was clear and this report has not tripped the haul
already, the cause DOOR_OPEN_MOVING is taken; else the flag is clear and nothing else changes (R115). What is said
holds before the end of the step takes a pending activation (R178). -/
def Obligations.DoorReportsMoveTheRecordsAndTrip : Prop :=
  (∀ (s : State) (arr : Arrival) (left right : Byte) (car : Car) (l : Line),
     PassesBy s arr 0x41 [left, right] → s.roleOf arr.src = some (carRole car) → s.line = some l →
     let now := s.clock + arr.elapsed
     let status := fun side : Side => sideStatusOf (if side = .left then left else right)
     let stored : CarReport := { report := some ⟨status .left, status .right, now⟩,
                                 expiry := some { start := now, dur := l.tDoorFresh } }
     let frame := frameOf arr 0x41 [left, right]
     let rest := s.hlc.state = .parked ∨ s.hlc.state = .boarding ∨ s.hlc.state = .tripped
     let unlocks := ∃ side, (s.dru.door car side).state = .locked ∧ (status side).secure = false
     let row := fun side : Side =>
       let r := s.dru.door car side
       match r.state, (status side).secure with
       | .locked, true => r
       | .locked, false => { state := .fault, timer := none }
       | .releasing, true => r
       | .releasing, false => { state := .released, timer := none }
       | .released, _ => r
       | .closing, true => { state := .locked, timer := none }
       | .closing, false => r
       | .fault, true => { state := .locked, timer := none }
       | .fault, false => r
     let record := fun (car' : Car) (side : Side) => if car' = car then row side else s.dru.door car' side
     let moving := (∃ car' side, (record car' side).state ≠ .locked) ∧ l.vStill < s.moe.last.v
     let faults := ([Side.left, .right].filter fun side =>
       (s.dru.door car side).state == .locked && !(status side).secure).length
     let obstructed := ([Side.left, .right].filter fun side => (s.dru.door car side).state == .closing &&
       !(status side).secure && (status side).obstructed).length
     let taken := fun t : State =>
       t.dru.reports car = stored ∧ (∀ car', car' ≠ car → t.dru.reports car' = s.dru.reports car') ∧
       (∀ car' side, t.dru.door car' side = record car' side) ∧ (t.dru.movingOpen = true ↔ moving) ∧
       t.rpu.slots[EventKind.doorFault.code].count = satAdd s.rpu.slots[EventKind.doorFault.code].count faults ∧
       t.rpu.slots[EventKind.doorObstructed.code].count =
         satAdd s.rpu.slots[EventKind.doorObstructed.code].count obstructed ∧
       t.rif.fifo = s.rif.fifo ++ [⟨frame, .plain⟩] ∧ t.rif.door = s.rif.door ∧ t.moe = s.moe ∧ t.mga = s.mga
     let tripped := fun t : State =>
       t.hlc = { s.hlc with state := .tripped, berth := none, boardingOpen := false, armTimer := none } ∧
       t.brs.trip = { latched := true, first := some .doorOpenMoving, causes := 128, posA := s.moe.last.posA,
                      v := s.moe.last.signed, time := now }
     ((rest ∨ ¬ unlocks) → (¬ moving ∨ s.dru.movingOpen = true) →
       Completes (.doorState arr [left, right]) s fun t =>
         taken t ∧ t.hlc = s.hlc ∧ t.brs = s.brs ∧ t.env = s.env ∧ t.adu = s.adu) ∧
     ((rest ∨ ¬ unlocks) → moving → s.dru.movingOpen = false →
       Settles (.doorState arr [left, right]) s fun t =>
         taken t ∧ t.adu = s.adu ∧ (s.brs.trip.latched = false → tripped t) ∧
         (s.brs.trip.latched = true → t.hlc = s.hlc ∧
           t.brs.trip = { s.brs.trip with causes := s.brs.trip.causes ||| 128 })) ∧
     (s.hlc.state = .armed → unlocks → ∀ o, s.hlc.origin = some o →
       ((¬ moving ∨ s.dru.movingOpen = true) → Settles (.doorState arr [left, right]) s fun t =>
         taken t ∧ t.hlc = { s.hlc with state := o.toState, boardingOpen := false, armTimer := none } ∧
         t.brs.trip = s.brs.trip) ∧
       (moving → s.dru.movingOpen = false → s.brs.trip.latched = false →
         Settles (.doorState arr [left, right]) s fun t => taken t ∧ tripped t)) ∧
     ((s.hlc.state = .running ∨ s.hlc.state = .serviceStop) → unlocks → s.brs.trip.latched = false →
       Settles (.doorState arr [left, right]) s fun t => taken t ∧ tripped t ∧ t.adu = s.adu)) ∧
  (∀ (s : State) (l : Line), s.line = some l →
     let t := judgeMovingOpen false s
     let holds := (∃ car side, (s.dru.door car side).state ≠ .locked) ∧ l.vStill < s.moe.last.v
     (holds → s.dru.movingOpen = true → t = s) ∧
     (holds → s.dru.movingOpen = false → t.dru = { s.dru with movingOpen := true } ∧
       t.brs.trip.latched = true ∧
       (s.brs.trip.latched = false → t.hlc.state = .tripped ∧ t.brs.trip.first = some .doorOpenMoving) ∧
       (s.brs.trip.latched = true → t.hlc = s.hlc ∧ t.brs.trip.first = s.brs.trip.first ∧
         t.brs.trip.causes = s.brs.trip.causes ||| 128)) ∧
     (¬ holds → t = s.withDru { s.dru with movingOpen := false })) ∧
  ∀ (s : State) (car : Car) (side : Side) (x : SideStatus),
     let r := s.dru.door car side
     let run := s.hlc.state = .running ∨ s.hlc.state = .serviceStop
     let faulted := fun u : State => raise .doorFault (carCode car ++ sideCode side ++ (3 : Byte) ++ s.hlc.state.code)
       { u with dru := u.dru.setDoor car side { state := .fault, timer := none } }
     (r.state = .locked → x.secure = false → ¬ run → judgeSide car side x s = (faulted s, false)) ∧
     (r.state = .locked → x.secure = false → run →
       judgeSide car side x s = (faulted (trip .doorOpenMoving s), true)) ∧
     (∀ timer, r.state = .closing → r.timer = some timer → x.secure = false → x.obstructed = true →
       judgeSide car side x s = (raise .doorObstructed (carCode car ++ sideCode side ++
         BitVec.ofNat 16 (min (timer.dur - (s.clock - timer.start).toNat) 65535)) s, false)) ∧
     ∀ left right : SideStatus,
       let stored : CarReport := { report := some ⟨left, right, s.clock⟩,
                                   expiry := s.line.map fun l => { start := s.clock, dur := l.tDoorFresh } }
       let u : State := { s with dru := s.dru.setReports car stored }
       let y := judgeSide car .left left u
       let z := judgeSide car .right right y.1
       s.hlc.state ≠ .armed → takeDoorReport car left right s = judgeMovingOpen (y.2 || z.2) z.1

/-- The door timers. A release expiry in RELEASING and a close expiry in CLOSING make the record FAULT and raise
DOOR_FAULT with the reason and the haul state; a lapse of a car's reports makes its expiry idle, keeps its report and
raises DOOR_STATE_LOST, with a demand out of rest. One not reached does nothing (R105, R109, R112). What is said holds
before the end of the step takes a pending activation (R178). -/
def Obligations.DoorTimersFaultOrLapse : Prop :=
  (∀ (s : State) (e : Time) (car : Car) (side : Side), s.inReset = false →
    let r := s.dru.door car side
    let faulted := { begin e s with dru := s.dru.setDoor car side { state := .fault, timer := none } }
    ((r.state ≠ .releasing ∨ due r.timer (s.clock + e) = false) →
      exec (.releaseExpiry e car side) s = .next (begin e s)) ∧
    (r.state = .releasing → due r.timer (s.clock + e) = true →
      exec (.releaseExpiry e car side) s =
        .next (raise .doorFault (carCode car ++ sideCode side ++ (1 : Byte) ++ s.hlc.state.code) faulted)) ∧
    ((r.state ≠ .closing ∨ due r.timer (s.clock + e) = false) →
      exec (.closeExpiry e car side) s = .next (begin e s)) ∧
    (r.state = .closing → due r.timer (s.clock + e) = true →
      exec (.closeExpiry e car side) s =
        .next (raise .doorFault (carCode car ++ sideCode side ++ (2 : Byte) ++ s.hlc.state.code) faulted))) ∧
  ∀ (s : State) (e : Time) (car : Car), s.inReset = false →
    let d := s.dru.setReports car { s.dru.reports car with expiry := none }
    (due (s.dru.reports car).expiry (s.clock + e) = false →
      exec (.doorStateLost e car) s = .next (begin e s)) ∧
    (due (s.dru.reports car).expiry (s.clock + e) = true →
      ((s.hlc.state = .parked ∨ s.hlc.state = .boarding ∨ s.hlc.state = .tripped) →
        exec (.doorStateLost e car) s = .next (raise .doorStateLost
          (carCode car ++ s.hlc.state.code ++ (0 : Byte) ++ (0 : Byte)) { begin e s with dru := d })) ∧
      (s.hlc.state.atRest = false → exec (.doorStateLost e car) s = .next (settle (begin e s)
        (demand .doorStateLost (raise .doorStateLost
          (carCode car ++ s.hlc.state.code ++ (0 : Byte) ++ (0 : Byte)) { begin e s with dru := d })))) ∧
      (s.hlc.state = .running → Completes (.doorStateLost e car) s fun t =>
        t.dru = d ∧ t.hlc = { s.hlc with state := .serviceStop, stopCause := some .doorStateLost, further := 0 } ∧
        t.rpu.slots[EventKind.doorStateLost.code].count =
          satAdd s.rpu.slots[EventKind.doorStateLost.code].count 1 ∧
        t.moe = s.moe ∧ t.adu = s.adu ∧ t.mga = s.mga) ∧
      (s.hlc.state = .armed → ∀ o, s.hlc.origin = some o →
        Settles (.doorStateLost e car) s fun t =>
          t.dru = d ∧ t.hlc = { s.hlc with state := o.toState, boardingOpen := false, armTimer := none } ∧
          t.env = { s.env with mode := .off, e := 0 } ∧
          t.rpu.slots[EventKind.doorStateLost.code].count =
            satAdd s.rpu.slots[EventKind.doorStateLost.code].count 1 ∧
          t.moe = s.moe ∧ t.mga = s.mga) ∧
      (s.hlc.state = .serviceStop → Completes (.doorStateLost e car) s fun t =>
        t.dru = d ∧ t.hlc = { s.hlc with further := min (s.hlc.further + 1) 255 } ∧ t.brs = s.brs ∧
        t.moe = s.moe ∧ t.adu = s.adu ∧ t.mga = s.mga))

/-- DOOR_REQ. OPEN: the refusals STATE, MOVING, POSITION, NO_PLATFORM, BUSY, in order; accepted, a RELEASE stands last
in the DOOR class and the record is RELEASING with its expiry running. CLOSE is accepted in every state: LOCKED
stays; CLOSING stays and the WITHDRAW is repeated; any other becomes CLOSING with a WITHDRAW. A car, side or action
that is none is refused BAD_REQUEST (R106–R108, R111). -/
def Obligations.DoorRequestsReleaseAndWithdraw : Prop :=
  (∀ (s : State) (arr : Arrival) (c d tag : Byte) (car : Car) (side : Side) (l : Line),
    carOf c = some car → sideOf d = some side → s.line = some l →
    let now := s.clock + arr.elapsed
    let command := fun action : Byte =>
      ({ kind := 0x42, dst := s.addressOf (carRole car), src := s.oaByte, seq := s.rif.txSeq,
         payload := [sideCode side, action] } : Frame)
    let others := s.rif.door.filter fun x => ¬ (x.car = car ∧ x.side = side)
    (ConsoleArrives s arr 0x40 [c, d, 1, tag] →
      let refused := fun code : Byte => exec (.doorReqOpen arr c d tag) s =
        .next { begin arr.elapsed s with rif := s.answered (lineReply s arr tag 0x40 1 code) }
      let platform := ∃ i st, s.hlc.berth = some i ∧ s.stops[i]? = some st ∧
        (st.platform car = .both ∨ (st.platform car = .left ∧ side = .left) ∨
          (st.platform car = .right ∧ side = .right))
      (s.hlc.state ≠ .boarding → refused 0x01) ∧
      (s.hlc.state = .boarding → s.moe.still = false → refused 0x0C) ∧
      (s.hlc.state = .boarding → s.moe.still = true → s.moe.status.trusted = false → refused 0x0D) ∧
      (s.hlc.state = .boarding → s.moe.still = true → s.moe.status.trusted = true → ¬ platform →
        refused 0x0E) ∧
      (s.hlc.state = .boarding → s.moe.still = true → s.moe.status.trusted = true → platform →
        (s.dru.door car side).state ≠ .locked → refused 0x0F) ∧
      (s.hlc.state = .boarding → s.moe.still = true → s.moe.status.trusted = true → platform →
        (s.dru.door car side).state = .locked → s.moe.last.v ≤ l.vStill →
        Completes (.doorReqOpen arr c d tag) s fun t =>
          t.dru = { s.dru.setDoor car side
            { state := .releasing, timer := some { start := now, dur := l.tDoorRelease } } with
            movingOpen := false } ∧
          t.rif.door = others ++ [⟨car, side, command 1⟩] ∧ t.rif.txSeq = s.rif.txSeq + 1 ∧
          t.rif.reply = s.rif.reply ++ [lineReply s arr tag 0x40 1 0x00] ∧ t.hlc = s.hlc ∧ t.brs = s.brs ∧
          t.moe = s.moe ∧ t.adu = s.adu ∧ t.mga = s.mga ∧ t.rpu = s.rpu)) ∧
    (ConsoleArrives s arr 0x40 [c, d, 2, tag] →
      let reply := lineReply s arr tag 0x40 2 0x00
      let st := (s.dru.door car side).state
      (st = .locked → exec (.doorReqClose arr c d tag) s =
        .next { begin arr.elapsed s with rif := s.answered reply }) ∧
      (st ≠ .locked → Completes (.doorReqClose arr c d tag) s fun t =>
        t.dru = (if st = .closing then s.dru else s.dru.setDoor car side
          { state := .closing, timer := some { start := now, dur := l.tDoorClose * 1000 } }) ∧
        t.rif.door = others ++ [⟨car, side, command 2⟩] ∧ t.rif.txSeq = s.rif.txSeq + 1 ∧
        t.rif.reply = s.rif.reply ++ [reply] ∧ t.hlc = s.hlc ∧ t.brs = s.brs ∧ t.moe = s.moe ∧
        t.adu = s.adu ∧ t.mga = s.mga ∧ t.rpu = s.rpu))) ∧
  ∀ (s : State) (arr : Arrival) (c d action tag : Byte), ConsoleArrives s arr 0x40 [c, d, action, tag] →
    ((c ≠ 0 ∧ c ≠ 1) ∨ (d ≠ 1 ∧ d ≠ 2) ∨ (action ≠ 1 ∧ action ≠ 2)) →
    exec (.badRequest arr c d action tag) s = .next { begin arr.elapsed s with
      rif := s.answered (lineReply s arr tag 0x40 action 0x10) }

/-! ### Ticket admission (chapter 7) and car loading (chapter 8) -/

/-- A TICKET query of a gate, its checks in order: the first that fails gives the verdict, with balance and token as
R132 says and nothing else changed but the counter; an accepted one appends a grant with the first candidate from the
token counter on that no grant holds, 255 followed by 1, and answers with the new balance. The passback list is aged
first: the records at its head that have stood for t_passback are removed, up to the first that has not. The product
is the entry of equal code. The verdict codes are those of R124 (R122–R132). The first full refusal of a car at a
berth raises CAR_FULL with the car, the gate and aboard plus pending (R131). -/
def Obligations.TicketsAreAnsweredByTheFirstFailingCheck : Prop :=
  [Verdict.accept, .notGate, .closed, .blocked, .product, .expired, .stop, .balance, .passback, .full, .gateBusy,
    .queueFull].map Verdict.code = [0x01, 0x81, 0x82, 0x83, 0x84, 0x85, 0x86, 0x87, 0x88, 0x89, 0x8A, 0x8B] ∧
  ∀ (s : State) (arr : Arrival) (p : List Byte) (g : Node) (l : Line),
    Arrives s arr 0x30 p → arr.dst = s.oaByte → arr.src ≠ s.oaByte → p.length = 11 → byteAt p 8 = 0 →
    s.nodeOf arr.src = some g → g.role = .gate → s.line = some l →
    rising ((s.mga.active.hotlist.getD []).map fun x => (x.toNat : Int)) →
    let now := s.clock + arr.elapsed
    let serial := longAt p 0
    let balance := byteAt p 7
    let day := s.mga.day.toNat
    let car := g.gateCar
    let kept := s.adu.passback.dropWhile fun x => decide (l.tPassback * 1000 ≤ (now - x.passedAt).toNat)
    let a := { s.adu with passback := kept }
    let capacity := if car = .a then l.capA else l.capB
    let product := (s.mga.active.product.getD []).find? fun x => x.code == byteAt p 4
    let candidate := fun n : Nat => BitVec.ofNat 8 ((s.adu.token.toNat - 1 + n) % 255 + 1)
    let answered := fun code bal tok : Byte => ({ s.rif.count .rewritten with fifo := s.rif.fifo ++
      [⟨⟨0x30, arr.src, s.oaByte, arr.seq, p.take 8 ++ [code, bal, tok]⟩, .answered⟩] } : Rif)
    let refused := fun v : Verdict => exec (.ticket arr p) s = .next { begin arr.elapsed s with
      rif := answered v.code balance 0, adu := a.countBy (.verdict v) 1 }
    let c1 := g.kind = 1
    let c2 := s.hlc.state = .boarding ∧ s.hlc.boardingOpen = true ∧ s.hlc.berth = some g.stop.toNat ∧
      ∃ st, s.stops[g.stop.toNat]? = some st ∧ st.platform car ≠ .none
    let c3 := serial ∉ s.mga.active.hotlist.getD []
    (¬ c1 → refused .notGate) ∧
    (c1 → ¬ c2 → refused .closed) ∧
    (c1 → c2 → ¬ c3 → refused .blocked) ∧
    (c1 → c2 → c3 → product = none → refused .product) ∧
    ∀ x, product = some x → c1 → c2 → c3 →
      let c5 := day ≤ natAt16 p 5 ∧ x.first ≤ day ∧ day ≤ x.last
      let c6 := x.mask.getLsbD g.stop.toNat = true
      let c7 := ¬ (x.decrement = true ∧ balance = 0)
      let c8 := (∀ y ∈ s.adu.grants, y.serial ≠ serial) ∧ ∀ y ∈ kept, y.serial ≠ serial
      let c9 := s.adu.held car < capacity
      let c10 := ∀ y ∈ s.adu.grants, y.gate ≠ arr.src
      (¬ c5 → refused .expired) ∧ (c5 → ¬ c6 → refused .stop) ∧ (c5 → c6 → ¬ c7 → refused .balance) ∧
      (c5 → c6 → c7 → ¬ c8 → refused .passback) ∧
      (c5 → c6 → c7 → c8 → ¬ c9 →
        (s.adu.fullReported car = true → refused .full) ∧
        (s.adu.fullReported car = false → exec (.ticket arr p) s = .next (countRing .rewritten (raise .carFull
          (carCode car ++ arr.src ++ BitVec.ofNat 16 (s.adu.held car)) { begin arr.elapsed s with
            rif := { s.rif with fifo := (answered (Verdict.code .full) balance 0).fifo }
            adu := (a.countBy (.verdict .full) 1).setFull car }))) ∧
        (s.adu.fullReported car = false → Completes (.ticket arr p) s fun t =>
          t.adu = (a.countBy (.verdict .full) 1).setFull car ∧
          t.rif.fifo = (answered (Verdict.code .full) balance 0).fifo ∧
          t.rpu.slots[EventKind.carFull.code].count = satAdd s.rpu.slots[EventKind.carFull.code].count 1 ∧
          t.hlc = s.hlc ∧ t.brs = s.brs ∧ t.dru = s.dru ∧ t.moe = s.moe ∧ t.mga = s.mga)) ∧
      (c5 → c6 → c7 → c8 → c9 → ¬ c10 → refused .gateBusy) ∧
      (c5 → c6 → c7 → c8 → c9 → c10 → 16 ≤ s.adu.grants.length → refused .queueFull) ∧
      (c5 → c6 → c7 → c8 → c9 → c10 → s.adu.grants.length < 16 → ∃ token,
        (s.adu.token ≠ 0 → token ≠ 0) ∧
        (s.adu.token ≠ 0 → ∀ y ∈ s.adu.grants, y.token ≠ token) ∧
        ((∀ y ∈ s.adu.grants, y.token ≠ s.adu.token) → token = s.adu.token) ∧
        (s.adu.token ≠ 0 → ∃ n, n ≤ 15 ∧ token = candidate n ∧
          ∀ j, j < n → ∃ y ∈ s.adu.grants, y.token = candidate j) ∧
        exec (.ticket arr p) s = .next { begin arr.elapsed s with
          rif := answered 0x01
            (if x.decrement = true ∧ balance ≠ 0 ∧ balance ≠ 255 then balance - 1 else balance) token
          adu := { a with
            token := if token = 255 then 1 else token + 1
            grants := s.adu.grants ++ [{ gate := arr.src, car := car, serial := serial, token := token,
                                         expiry := { start := now, dur := l.tGrant * 1000 } }]
            counters := bumpBy s.adu.counters (AduCounter.verdict .accept).idx 1 } })

/-- GATE_PASS. Of an ENTRY gate: the matching grant is consumed, its serial joins the passback list and its car's
count rises; without one the pass is unticketed. Of an EXIT gate at the open berth: the count falls, the unticketed
one if nobody is aboard, and an empty car underflows; elsewhere the pass is stray. GRANT_EXPIRY removes the grant and
changes no count of passengers (R142–R147). GATE_FORCED carries the gate, the car, the token presented and the
unticketed count after; COUNT_UNDERFLOW the gate, the car and the berth; GATE_STRAY the gate, the car, the gate's stop
and the haul state; GRANT_EXPIRED 1, the gate, the car and the token (R152). -/
def Obligations.PassesMoveTheCounts : Prop :=
  (carCode .a = 0 ∧ carCode .b = 1) ∧
  (∀ (s : State) (arr : Arrival) (tok : Byte) (g : Node) (l : Line),
    Arrives s arr 0x31 [tok] → arr.dst = s.oaByte → arr.src ≠ s.oaByte →
    s.nodeOf arr.src = some g → g.role = .gate → s.line = some l →
    let now := s.clock + arr.elapsed
    let kept := s.adu.passback.dropWhile fun x => decide (l.tPassback * 1000 ≤ (now - x.passedAt).toNat)
    let a := { s.adu with passback := kept }
    let car := g.gateCar
    let grant := if tok = 0 then none else s.adu.grants.find? fun x => x.gate == arr.src && x.token == tok
    let atBerth := s.hlc.state = .boarding ∧ s.hlc.berth = some g.stop.toNat
    let found := fun adu : Adu => { begin arr.elapsed s with rif := s.rif.count .absorbed, adu := adu }
    (g.kind = 1 → grant = none →
      let n := min (s.adu.unticketed car + 1) 255
      exec (.gatePass arr [tok]) s = .next (countAdu .passForced (raise .gateForced
        (arr.src ++ carCode car ++ tok ++ BitVec.ofNat 8 n) (found (a.setUnticketed car n))))) ∧
    (g.kind ≠ 1 → atBerth → s.adu.aboard car = 0 → s.adu.unticketed car = 0 →
      exec (.gatePass arr [tok]) s = .next (countAdu .countUnderflow (raise .countUnderflow
        (arr.src ++ carCode car ++ g.stop ++ (0 : Byte)) (found a)))) ∧
    (g.kind ≠ 1 → ¬ atBerth →
      exec (.gatePass arr [tok]) s = .next (countAdu .gateStray (raise .gateStray
        (arr.src ++ carCode car ++ g.stop ++ s.hlc.state.code) (found a)))) ∧
    (∀ x, g.kind = 1 → grant = some x → Completes (.gatePass arr [tok]) s fun t =>
      t.adu.grants = s.adu.grants.erase x ∧
      t.adu.passback = (if 64 ≤ kept.length then kept.drop 1 else kept) ++ [⟨x.serial, now⟩] ∧
      t.adu.aboard x.car = s.adu.aboard x.car + 1 ∧
      (∀ c, c ≠ x.car → t.adu.aboard c = s.adu.aboard c) ∧
      (∀ c, t.adu.unticketed c = s.adu.unticketed c) ∧ t.adu.token = s.adu.token ∧
      t.adu.counters = bumpBy (if 64 ≤ kept.length
        then bumpBy s.adu.counters AduCounter.passbackOverflow.idx 1 else s.adu.counters)
        AduCounter.passGranted.idx 1 ∧
      t.rif = s.rif.count .absorbed ∧ t.hlc = s.hlc ∧ t.mga = s.mga ∧ t.rpu = s.rpu) ∧
    (g.kind = 1 → grant = none → Completes (.gatePass arr [tok]) s fun t =>
      t.adu = (a.setUnticketed car (min (s.adu.unticketed car + 1) 255)).countBy .passForced 1 ∧
      t.rpu.slots[EventKind.gateForced.code].count =
        satAdd s.rpu.slots[EventKind.gateForced.code].count 1 ∧ t.hlc = s.hlc ∧ t.mga = s.mga) ∧
    (g.kind ≠ 1 → atBerth → 0 < s.adu.aboard car →
      exec (.gatePass arr [tok]) s = .next { begin arr.elapsed s with
        rif := s.rif.count .absorbed
        adu := (a.setAboard car (s.adu.aboard car - 1)).countBy .passExit 1 }) ∧
    (g.kind ≠ 1 → atBerth → s.adu.aboard car = 0 → 0 < s.adu.unticketed car →
      exec (.gatePass arr [tok]) s = .next { begin arr.elapsed s with
        rif := s.rif.count .absorbed
        adu := (a.setUnticketed car (s.adu.unticketed car - 1)).countBy .passExit 1 }) ∧
    (g.kind ≠ 1 → atBerth → s.adu.aboard car = 0 → s.adu.unticketed car = 0 →
      Completes (.gatePass arr [tok]) s fun t =>
        t.adu = a.countBy .countUnderflow 1 ∧ t.hlc = s.hlc ∧ t.mga = s.mga ∧
        t.rpu.slots[EventKind.countUnderflow.code].count =
          satAdd s.rpu.slots[EventKind.countUnderflow.code].count 1) ∧
    (g.kind ≠ 1 → ¬ atBerth → Completes (.gatePass arr [tok]) s fun t =>
      t.adu = a.countBy .gateStray 1 ∧ t.hlc = s.hlc ∧ t.mga = s.mga ∧
      t.rpu.slots[EventKind.gateStray.code].count =
        satAdd s.rpu.slots[EventKind.gateStray.code].count 1)) ∧
  ∀ (s : State) (e : Time) (gate : Byte) (older newer : List Grant) (x : Grant), s.inReset = false →
    s.adu.grants = older ++ x :: newer → x.gate = gate → (∀ y ∈ older, y.gate ≠ gate) →
    (x.expiry.reached (s.clock + e) = false → exec (.grantExpiry e gate) s = .next (begin e s)) ∧
    (x.expiry.reached (s.clock + e) = true →
      exec (.grantExpiry e gate) s = .next (countAdu .grantExpired (raise .grantExpired
        ((1 : Byte) ++ gate ++ carCode x.car ++ x.token)
        { begin e s with adu := { s.adu with grants := older ++ newer } }))) ∧
    (x.expiry.reached (s.clock + e) = true → Completes (.grantExpiry e gate) s fun t =>
      t.adu = { s.adu with
        grants := older ++ newer, counters := bumpBy s.adu.counters AduCounter.grantExpired.idx 1 } ∧
      t.rpu.slots[EventKind.grantExpired.code].count =
        satAdd s.rpu.slots[EventKind.grantExpired.code].count 1 ∧
      t.hlc = s.hlc ∧ t.dru = s.dru ∧ t.moe = s.moe ∧ t.mga = s.mga)

/-! ### The haul ring (chapter 9) -/

/-- The receive checks and the frames no block takes: a run of bytes of a wrong length or CRC, or one that finds the
FIFO full, is dropped, counted, flagged and raised as LINK_ERROR; a sound frame of an unlisted kind is forwarded; a
frame whose src is OA is stripped; a DOOR_CMD, reply, REPORT or BEACON is discarded if it is to OA and else forwarded;
a SETPOINT waits in the FIFO with its role judgement (R158–R160, R162, R163). -/
def Obligations.ReceivedFramesAreDisposed : Prop :=
  (∀ (s : State) (e : Time) (rx : List Byte), s.inReset = false → s.strapFault = false →
    let dropped := fun (code : Byte) (c : RingCounter) (flag : Rif → Rif) =>
      exec (.frameForward e rx) s = .next (raise .linkError
        (code ++ (0 : Byte) ++ satAdd s.rif.counters[c.idx] 1) { begin e s with rif := flag (s.rif.count c) })
    ((rx.length < 7 ∨ 63 < rx.length) →
      dropped 2 .formatError fun r => { r with formatFlag := true }) ∧
    (7 ≤ rx.length → rx.length ≤ 63 → crc16 (rx.take (rx.length - 2)) ≠ wordAt rx (rx.length - 2) →
      dropped 1 .crcError fun r => { r with crcFlag := true }) ∧
    (7 ≤ rx.length → rx.length ≤ 63 → crc16 (rx.take (rx.length - 2)) = wordAt rx (rx.length - 2) →
      rx.length ≠ (byteAt rx 4).toNat + 7 → dropped 2 .formatError fun r => { r with formatFlag := true }) ∧
    ∀ f : Frame, rx = f.wire → f.payload.length ≤ 56 →
      (8 ≤ s.rif.fifoUsed → dropped 3 .overrun fun r => { r with overrunFlag := true }) ∧
      (s.rif.fifoUsed < 8 → f.src ≠ s.oaByte → FrameKind.ofCode f.kind = .other →
        exec (.frameForward e rx) s = .next { begin e s with rif := s.forwarded f .plain })) ∧
  (∀ (s : State) (arr : Arrival) (kind : Byte) (payload : List Byte), Arrives s arr kind payload →
    arr.src = s.oaByte → exec (.stripped arr kind payload) s =
      .next { begin arr.elapsed s with rif := s.rif.count .stripped }) ∧
  (∀ (s : State) (arr : Arrival) (kind : Byte) (payload : List Byte), Arrives s arr kind payload →
    arr.src ≠ s.oaByte → (kind = 0x42 ∨ kind = 0x51 ∨ kind = 0x61 ∨ kind = 0x70 ∨ kind = 0x71) →
    exec (.unhandled arr kind payload) s = .next { begin arr.elapsed s with
      rif := if arr.dst = s.oaByte then s.rif.count .unhandled
        else s.forwarded (frameOf arr kind payload) .plain }) ∧
  ∀ (s : State) (arr : Arrival) (payload : List Byte), Arrives s arr 0x20 payload → arr.src ≠ s.oaByte →
    (payload.length ≠ 5 → exec (.setpoint arr payload) s =
      .next { begin arr.elapsed s with rif := s.rif.count .malformed }) ∧
    (payload.length = 5 → s.roleOf arr.src = some .console → exec (.setpoint arr payload) s =
      .next { begin arr.elapsed s with rif := s.forwarded (frameOf arr 0x20 payload) .consoleSetpoint }) ∧
    (payload.length = 5 → s.roleOf arr.src ≠ some .console → exec (.setpoint arr payload) s =
      .next (raise .roleMismatch ((0x20 : Byte) ++ arr.src ++ arr.dst ++ (3 : Byte)) { begin arr.elapsed s with
        rif := (s.forwarded (frameOf arr 0x20 payload) .zeroedSetpoint).count .roleMismatch }))

/-- The frames a block reads, judges or takes, by length, role and dst. SAMPLE_SHEAVE, SAMPLE_CAR, MARKER, DRIVE_STATUS
and DOOR_STATE: of a wrong length counted MALFORMED, of a wrong role a role mismatch with outcome 1, forwarded, or 2 to
OA, and neither is read; of the right length and role read by the block, which acts alike on a frame that is forwarded
and on one to OA that is absorbed, ABSORBED counted before the block acts (log 24); only the frame itself enters the
FIFO (R160–R162). TICKET: to another node, of another length or with a verdict, forwarded unjudged, MALFORMED counted
for its length; of a node that is no GATE a role mismatch with outcome 4, answered REFUSE_NOT_GATE (R122, R162).
GATE_PASS: to another node forwarded; of no GATE a role mismatch, dropped, before its length is judged (log 13); of a
wrong length MALFORMED_PASS, with ABSORBED beside it (log 33) (R142, R162). -/
def Obligations.ReadFramesTicketsAndPassesAreDisposed : Prop :=
  (∀ (c : Instr) (s : State) (arr : Arrival) (kind : Byte) (payload : List Byte),
    rowFrame c = some (arr, kind, payload) → Arrives s arr kind payload → arr.src ≠ s.oaByte →
    (kind = 0x10 ∨ kind = 0x11 ∨ kind = 0x12 ∨ kind = 0x21 ∨ kind = 0x41) →
    let length := if kind = 0x10 ∨ kind = 0x11 then 7 else if kind = 0x21 then 4 else 2
    let role := s.roleOf arr.src
    let fits : Prop := (kind = 0x10 ∧ (role = some .sheaveS1 ∨ role = some .sheaveS2)) ∨
      ((kind = 0x11 ∨ kind = 0x41) ∧ (role = some .carA ∨ role = some .carB)) ∨
      (kind = 0x12 ∧ role = some .markerReader) ∨ (kind = 0x21 ∧ role = some .drive)
    let passed := if arr.dst = s.oaByte then s.rif else s.forwarded (frameOf arr kind payload) .plain
    (payload.length ≠ length → exec c s = .next { begin arr.elapsed s with rif := passed.count .malformed }) ∧
    (payload.length = length → ¬ fits → exec c s = .next (raise .roleMismatch
      (kind ++ arr.src ++ arr.dst ++ (if arr.dst = s.oaByte then (2 : Byte) else (1 : Byte)))
      { begin arr.elapsed s with rif := passed.count .roleMismatch }))) ∧
  (∀ (s : State) (arr : Arrival) (kind : Byte) (p : List Byte), Arrives s arr kind p → arr.src ≠ s.oaByte →
    let taken := if arr.dst = s.oaByte then s.rif.count .absorbed else s.forwarded (frameOf arr kind p) .plain
    let acts := fun (c : Instr) (act : State → State) =>
      exec c s = .next (settle (begin arr.elapsed s) (act { begin arr.elapsed s with rif := taken })) ∧
      ∀ t, exec c s = .next t → t.rif.fifo = taken.fifo
    (∀ ch, kind = (sampleSource ch).1 → p.length = 7 → s.roleOf arr.src = some (sampleSource ch).2 →
      acts (sampleRow ch arr p) (takeSample ch ⟨longAt p 0, wordAt p 4⟩ (byteAt p 6))) ∧
    (kind = 0x12 → p.length = 2 → s.roleOf arr.src = some .markerReader →
      acts (.marker arr p) (takeMarker (byteAt p 0) (byteAt p 1))) ∧
    (kind = 0x21 → p.length = 4 → s.roleOf arr.src = some .drive → acts (.driveStatus arr p) (takeDrive p)) ∧
    (∀ car, kind = 0x41 → p.length = 2 → s.roleOf arr.src = some (carRole car) →
      acts (.doorState arr p) (takeDoorReport car (sideStatusOf (byteAt p 0)) (sideStatusOf (byteAt p 1))))) ∧
  (∀ (s : State) (arr : Arrival) (p : List Byte), Arrives s arr 0x30 p → arr.src ≠ s.oaByte →
    ((arr.dst ≠ s.oaByte ∨ p.length ≠ 11 ∨ byteAt p 8 ≠ 0) → exec (.ticket arr p) s = .next
      { begin arr.elapsed s with
        rif := s.forwarded (frameOf arr 0x30 p) .plain
        adu := if arr.dst = s.oaByte ∧ p.length ≠ 11 then s.adu.countBy .malformed 1 else s.adu }) ∧
    (arr.dst = s.oaByte → p.length = 11 → byteAt p 8 = 0 → s.roleOf arr.src ≠ some .gate →
      ∀ l, s.line = some l →
      let u := raise .roleMismatch ((0x30 : Byte) ++ arr.src ++ arr.dst ++ (4 : Byte))
        { begin arr.elapsed s with rif := s.rif.count .roleMismatch }
      let kept := agePassback (s.clock + arr.elapsed) (l.tPassback * 1000) s.adu.passback
      exec (.ticket arr p) s = .next { u with
        rif := { u.rif.count .rewritten with fifo := s.rif.fifo ++
          [⟨⟨0x30, arr.src, s.oaByte, arr.seq, p.take 8 ++ [0x81, byteAt p 7, 0]⟩, .answered⟩] }
        adu := ({ s.adu with passback := kept } : Adu).countBy (.verdict .notGate) 1 })) ∧
  ∀ (s : State) (arr : Arrival) (p : List Byte), Arrives s arr 0x31 p → arr.src ≠ s.oaByte →
    (arr.dst ≠ s.oaByte → exec (.gatePass arr p) s = .next { begin arr.elapsed s with
      rif := s.forwarded (frameOf arr 0x31 p) .plain }) ∧
    (arr.dst = s.oaByte → s.roleOf arr.src ≠ some .gate → exec (.gatePass arr p) s =
      .next (raise .roleMismatch ((0x31 : Byte) ++ arr.src ++ arr.dst ++ (2 : Byte))
        { begin arr.elapsed s with rif := s.rif.count .roleMismatch })) ∧
    (arr.dst = s.oaByte → s.roleOf arr.src = some .gate → p.length ≠ 1 → exec (.gatePass arr p) s =
      .next { begin arr.elapsed s with
        rif := s.rif.count .absorbed, adu := s.adu.countBy .malformedPass 1 })

/-- A LINE_CMD, DOOR_REQ or MGMT_REQ of its right length to another node is forwarded; to OA from the wrong sender it
is a role mismatch; from the right one, with REPLY full, it is dropped and MGMT_DROPPED raised. One of a wrong length is
counted MALFORMED, and dropped if it is to OA, else forwarded (log 12). In none of these cases does its command act
(R160, R161, R162, R164). The node of an address is the NODE entry one below it, none for 0 and 63 or past the table; its
role is that entry's (R162). The address of a role is that of its first holder, 63 where no node holds it (R47, R108). -/
def Obligations.RequestsNeedTheirSenderAndRoomForTheReply : Prop :=
  (∀ (s : State) (a : Byte),
    (∀ g, s.nodeOf a = some g ↔ a ≠ 0 ∧ a ≠ 63 ∧ ∃ t, s.mga.active.node = some t ∧ t[a.toNat - 1]? = some g) ∧
    ∀ r, s.roleOf a = some r ↔ ∃ g, s.nodeOf a = some g ∧ g.role = r) ∧
  (∀ (s : State) (r : Role),
    ((∀ t, s.mga.active.node = some t → ∀ x ∈ t, x.role ≠ r) → s.addressOf r = 63) ∧
    ∀ t i x, s.mga.active.node = some t → t[i]? = some x → x.role = r →
      (∀ j y, j < i → t[j]? = some y → y.role ≠ r) → s.addressOf r = BitVec.ofNat 8 (i + 1)) ∧
  (∀ (s : State) (e : Time) (f : Frame), s.inReset = false → s.strapFault = false → s.rif.fifoUsed < 8 →
    f.payload.length ≤ 56 → f.src ≠ s.oaByte →
    ((f.kind = 0x40 ∧ f.payload.length ≠ 4) ∨ (f.kind = 0x50 ∧ f.payload.length ≠ 3) ∨
      (f.kind = 0x60 ∧ f.payload.length < 2)) →
    exec (.frameForward e f.wire) s = .next { begin e s with
      rif := if f.dst = s.oaByte then s.rif.count .malformed
        else { s.rif.count .malformed with fifo := s.rif.fifo ++ [⟨f, .plain⟩] } }) ∧
  ∀ (c : Instr) (s : State) (arr : Arrival) (kind : Byte) (payload : List Byte),
    rowFrame c = some (arr, kind, payload) → Arrives s arr kind payload → arr.src ≠ s.oaByte →
    ((kind = 0x40 ∧ payload.length = 4) ∨ (kind = 0x50 ∧ payload.length = 3) ∨
      (kind = 0x60 ∧ 2 ≤ payload.length)) →
    let sender : Prop := if kind = 0x60 then arr.src = s.maByte else s.roleOf arr.src = some .console
    let codes : Byte × Byte := if kind = 0x40 then (byteAt payload 2, byteAt payload 3)
      else if kind = 0x50 then (byteAt payload 0, byteAt payload 2) else (byteAt payload 0, byteAt payload 1)
    (arr.dst ≠ s.oaByte → exec c s =
      .next { begin arr.elapsed s with rif := s.forwarded (frameOf arr kind payload) .plain }) ∧
    (arr.dst = s.oaByte → ¬ sender → exec c s =
      .next (raise .roleMismatch (kind ++ arr.src ++ arr.dst ++ (2 : Byte))
        { begin arr.elapsed s with rif := s.rif.count .roleMismatch })) ∧
    (arr.dst = s.oaByte → sender → 4 ≤ s.rif.reply.length → exec c s =
      .next (raise .mgmtDropped (kind ++ arr.src ++ codes.1 ++ codes.2)
        { begin arr.elapsed s with rif := s.rif.count .replyDropped }))

/-- The choice at a boundary on OUT: FORCE first; then, unless the fourth forwarded frame in a row has passed with an
insertion waiting, the oldest frame of the FIFO; else the first waiting class of DOOR, REPLY, REPORT and BEACON; with
nothing waiting OUT idles. The back-to-back count follows (R165, R167, R168). FORWARDED and INSERTED rise, and the
selection that follows a REPORT is made, at the boundary that selects the frame (the model's reading, log 14). -/
def Obligations.BoundariesTakeTheClassesInOrder : Prop :=
  ∀ (s : State) (e : Time), s.inReset = false → s.strapFault = false →
    let waits := s.rif.door ≠ [] ∨ s.rif.reply ≠ [] ∨ s.rif.report ≠ [] ∨ s.rif.beacon ≠ none
    let turn := s.rif.backToBack = 4 ∧ waits
    let counted := if turn then s.rif.count .insertTurns else s.rif
    let leaves := fun (r : Rif) (f : Frame) => ({ r.count .inserted with
      sending := some ⟨f, false⟩, backToBack := 0 } : Rif)
    (∀ f, s.rif.force = some f → exec (.outBoundary e) s = .next { begin e s with
      rif := { s.rif.count .inserted with force := none, sending := some ⟨f, false⟩ } }) ∧
    (s.rif.force = none → ¬ turn → ∀ x rest, s.rif.fifo = x :: rest →
      let r : Rif := { s.rif with
        fifo := rest, sending := some ⟨x.frame, true⟩, backToBack := if waits then s.rif.backToBack + 1 else 0 }
      (x.note = .plain → exec (.outBoundary e) s = .next { begin e s with rif := r.count .forwarded }) ∧
      (x.note = .answered → exec (.outBoundary e) s = .next { begin e s with rif := r })) ∧
    (s.rif.force = none → (turn ∨ s.rif.fifo = []) →
      (∀ x rest, s.rif.door = x :: rest → exec (.outBoundary e) s =
        .next { begin e s with rif := leaves { counted with door := rest } x.frame }) ∧
      (s.rif.door = [] → ∀ f rest, s.rif.reply = f :: rest → exec (.outBoundary e) s =
        .next { begin e s with rif := leaves { counted with reply := rest } f }) ∧
      (s.rif.door = [] → s.rif.reply = [] → ∀ x rest, s.rif.report = x :: rest → exec (.outBoundary e) s =
        .next (selectReports { begin e s with rif := leaves { counted with report := rest } x.frame })) ∧
      (s.rif.door = [] → s.rif.reply = [] → s.rif.report = [] → ∀ f, s.rif.beacon = some f →
        exec (.outBoundary e) s =
          .next { begin e s with rif := leaves { counted with beacon := none } f }) ∧
      (¬ waits → exec (.outBoundary e) s = .next { begin e s with
        rif := { s.rif with sending := none, backToBack := 0 } }))

/-- A SETPOINT leaves by its role judgement: of another node than the console with speed 0 and ZEROED; of the console
with speed 0 and ZEROED out of ARMED and RUNNING or against the run direction, with magnitude E and CLAMPED above E,
else unchanged; the accel limit stays. In ARMED the first one that leaves with a speed starts the run: RUNNING, the
berth left, the arm timer idle, DEPARTED raised (R46, R88, R163). DEPARTED carries the stop left or 0xFF, the target,
the run direction and the load class; a loss of sheave speed is judged after it (log 34), and its REPORT is not among
the frames that wait when the back-to-back count is set (the model's choice, log 38). -/
def Obligations.SetpointsAreClampedAsTheyLeave : Prop :=
  ∀ (s : State) (e : Time) (f : Frame) (rest : List FifoEntry) (v1 v0 a1 a0 fl : Byte),
    s.inReset = false → s.strapFault = false → s.rif.force = none →
    ¬ (s.rif.backToBack = 4 ∧ s.rif.insertWaits = true) → f.payload = [v1, v0, a1, a0, fl] →
    let v := (v1 ++ v0).toInt
    let drives := s.hlc.state = .armed ∨ s.hlc.state = .running
    let against := (s.hlc.dir = .up ∧ v < 0) ∨ (s.hlc.dir = .down ∧ 0 < v)
    let sent : Int × Byte := if ¬ drives ∨ against then (0, 2)
      else if s.env.e < v.natAbs then ((if v < 0 then -(s.env.e : Int) else s.env.e), 1) else (v, 0)
    let out := fun (x : Int) (flag : Byte) => ({ f with
      payload := bytes16 (BitVec.ofInt 16 x) ++ [a1, a0, flag] } : Frame)
    let rif := fun (x : Int) (flag : Byte) => ({ s.rif.count .rewritten with
      fifo := rest, sending := some ⟨out x flag, true⟩
      backToBack := if s.rif.insertWaits then s.rif.backToBack + 1 else 0 } : Rif)
    (s.rif.fifo = ⟨f, .zeroedSetpoint⟩ :: rest →
      exec (.outBoundary e) s = .next { begin e s with rif := rif 0 2 }) ∧
    (s.rif.fifo = ⟨f, .consoleSetpoint⟩ :: rest →
      ((s.hlc.state ≠ .armed ∨ sent.1 = 0) →
        exec (.outBoundary e) s = .next { begin e s with rif := rif sent.1 sent.2 }) ∧
      (s.hlc.state = .armed → sent.1 ≠ 0 → exec (.outBoundary e) s = .next (judgeLoss (raise .departed
        ((match s.hlc.berth with
          | some i => BitVec.ofNat 8 i
          | none => (0xFF : Byte)) ++
        (match s.hlc.target with
          | some i => BitVec.ofNat 8 i
          | none => (0xFF : Byte)) ++ s.hlc.dir.code ++ BitVec.ofNat 8 s.env.loadClass)
        (envEvaluate { begin e s with
          rif := rif sent.1 sent.2
          hlc := { s.hlc with state := .running, berth := none, armTimer := none } })))) ∧
      (s.hlc.state = .armed → sent.1 ≠ 0 → s.moe.last.known = true → s.brs.lossFlag = false →
        Completes (.outBoundary e) s fun t =>
          t.hlc = { s.hlc with state := .running, berth := none, armTimer := none } ∧
          t.rif.sending = some ⟨out sent.1 sent.2, true⟩ ∧ t.rif.fifo = rest ∧ t.env.mode = s.env.mode ∧
          t.rpu.slots[EventKind.departed.code].count =
            satAdd s.rpu.slots[EventKind.departed.code].count 1 ∧
          t.moe = s.moe ∧ t.dru = s.dru ∧ t.adu = s.adu ∧ t.mga = s.mga ∧ t.test = s.test))

/-- Whatever leaves OUT: no SETPOINT carries a speed above the envelope, none a speed other than 0 out of ARMED and
RUNNING, and none against the run direction, the forced ones included (R46, R47, R163). -/
def Obligations.NoSetpointLeavesAboveTheEnvelope : Prop :=
  ∀ (s t : State) (e : Time) (x : Sending), s.inReset = false → SetpointSound s → s.env.e ≤ 32767 →
    exec (.outBoundary e) s = .next t → t.rif.sending = some x → x.frame.kind = 0x20 →
    let v := intAt16 x.frame.payload 0
    v.natAbs ≤ s.env.e ∧ (v ≠ 0 → s.hlc.state = .armed ∨ s.hlc.state = .running) ∧
    (s.hlc.dir = .up → 0 ≤ v) ∧ (s.hlc.dir = .down → v ≤ 0)

/-- Under a strap fault a sound frame of whatever kind, src and dst waits in the FIFO to be forwarded unchanged; a
SETPOINT of five bytes waits to be zeroed, one of another length is dropped and counted MALFORMED. A run of bytes that
fails a receive check is dropped, counted and flagged, and no LINK_ERROR is raised. OUT serves the FIFO alone: a
SETPOINT leaves with speed 0, ZEROED alone and its accel limit, counted REWRITTEN, another frame as it came, counted
FORWARDED; with an empty FIFO OUT idles, whatever waits in an insertion class (R156, R168). The two counts rise at the
boundary that selects the frame (log 14). -/
def Obligations.StrapFaultForwardsAlone : Prop :=
  (∀ (c : Instr) (s : State) (arr : Arrival) (kind : Byte) (payload : List Byte),
    rowFrame c = some (arr, kind, payload) → s.inReset = false → s.strapFault = true →
    intact arr kind payload = true → s.rif.fifoUsed < 8 →
    let f := frameOf arr kind payload
    exec c s = .next { begin arr.elapsed s with
      rif := if kind ≠ 0x20 then s.forwarded f .plain
        else if payload.length = 5 then s.forwarded f .zeroedSetpoint else s.rif.count .malformed }) ∧
  (∀ (s : State) (e : Time) (rx : List Byte), s.inReset = false → s.strapFault = true →
    let dropped := fun (c : RingCounter) (flag : Rif → Rif) =>
      exec (.frameForward e rx) s = .next { begin e s with rif := flag (s.rif.count c) }
    ((rx.length < 7 ∨ 63 < rx.length) → dropped .formatError fun r => { r with formatFlag := true }) ∧
    (7 ≤ rx.length → rx.length ≤ 63 → crc16 (rx.take (rx.length - 2)) ≠ wordAt rx (rx.length - 2) →
      dropped .crcError fun r => { r with crcFlag := true }) ∧
    (7 ≤ rx.length → rx.length ≤ 63 → crc16 (rx.take (rx.length - 2)) = wordAt rx (rx.length - 2) →
      rx.length ≠ (byteAt rx 4).toNat + 7 → dropped .formatError fun r => { r with formatFlag := true }) ∧
    ∀ f : Frame, rx = f.wire → f.payload.length ≤ 56 →
      (8 ≤ s.rif.fifoUsed → dropped .overrun fun r => { r with overrunFlag := true }) ∧
      (s.rif.fifoUsed < 8 → f.kind ≠ 0x20 →
        exec (.frameForward e rx) s = .next { begin e s with rif := s.forwarded f .plain })) ∧
  ∀ (s : State) (e : Time), s.inReset = false → s.strapFault = true →
    (s.rif.fifo = [] → exec (.outBoundary e) s = .next { begin e s with
      rif := { s.rif with sending := none, backToBack := 0 } }) ∧
    ∀ x rest, s.rif.fifo = x :: rest →
      let leaves := fun (f : Frame) (c : RingCounter) => exec (.outBoundary e) s = .next { begin e s with
        rif := { s.rif.count c with fifo := rest, sending := some ⟨f, true⟩, backToBack := 0 } }
      (x.note = .plain → leaves x.frame .forwarded) ∧
      (x.note = .zeroedSetpoint → ∀ v1 v0 a1 a0 flags, x.frame.payload = [v1, v0, a1, a0, flags] →
        leaves { x.frame with payload := [0, 0, a1, a0, 2] } .rewritten)

/-! ### Line tables and management (chapter 10) -/

/-- The requests that read change nothing but the Ring Interface, which counts and answers them: READ_STATUS one of
ten pages, READ_TABLE the whole entries that fit, READ_TRIPS at most three entries, READ_COUNTERS a group; each body
fits the frame. SET_DAY, CLEAR_FLAGS and CLEAR_COUNTERS change what they name alone. A request of a wrong length is
refused LENGTH and an unlisted one UNKNOWN_REQUEST (R57, R134, R159, R174, R183–R185). ABSORBED is counted before the
request is decided, so READ_COUNTERS and READ_STATUS show their own, and CLEAR_COUNTERS clears its own (the model's
reading, log 24). The groups are RING, MOTION, ADMISSION and the 28 occurrence counts in code order (R185); a trip
entry is its first cause, cause set, posA, V, time and cleared mark in 14 bytes (R170); copy 0 of a table is the
shadow's entries, copy 1 the active ones, none of an EMPTY copy (R184). -/
def Obligations.ReadsChangeNothingAndClearsOnlyTheirOwn : Prop :=
  (∀ s : State, s.counterGroup 1 = some s.rif.counters.toList ∧ s.counterGroup 2 = some s.moe.counters.toList ∧
    s.counterGroup 3 = some s.adu.counters.toList ∧
    (∃ cs, s.counterGroup 4 = some cs ∧ cs.length = 28 ∧ ∀ k : Fin 28, cs[k.val]? = some s.rpu.slots[k].count) ∧
    ∀ group : Byte, (group = 0 ∨ 4 < group.toNat) → s.counterGroup group = none) ∧
  (∀ x : TripEntry, x.bytes.length = 14 ∧
    byteAt x.bytes 0 = (x.first.map fun c => BitVec.ofNat 8 c.num).getD 0 ∧ wordAt x.bytes 1 = x.causes ∧
    longAt x.bytes 3 = BitVec.ofInt 32 x.posA ∧ wordAt x.bytes 7 = BitVec.ofInt 16 x.v ∧
    longAt x.bytes 9 = x.time ∧ byteAt x.bytes 13 = (if x.cleared then 1 else 0)) ∧
  (∀ (m : Mga) (t : TableId), m.copyEntries t 0 = (m.shadow t).entries ∧
    m.copyEntries t 1 = m.active.entries t ∧
    (m.active.isActive t = false → t ≠ .reportLevel → m.copyEntries t 1 = []) ∧
    (∀ oa es, (∀ i x, es[i]? = some x → x.length = t.entrySize i) → validate oa t es = none →
      ({ m with active := m.active.put t es } : Mga).copyEntries t 1 = es)) ∧
  ∀ (s : State) (arr : Arrival) (tag : Byte),
    let answered := fun (c : Instr) (request result : Byte) (body : List Byte) =>
      exec c s = .next { begin arr.elapsed s with rif := s.answered (mgmtReply s arr request tag result body) }
    let seen := countRing .absorbed (begin arr.elapsed s)
    (∀ page, ManagerArrives s arr [0x01, tag, page] →
      (∀ bytes, seen.page page.toNat = some bytes → bytes.length ≤ 52 ∧
        answered (.readStatus arr tag [page]) 0x01 0x00 (page :: bytes)) ∧
      (9 < page.toNat → answered (.readStatus arr tag [page]) 0x01 0x06 [])) ∧
    (∀ table copy f1 f0 n, ManagerArrives s arr [0x05, tag, table, copy, f1, f0, n] →
      let row := Instr.readTable arr tag [table, copy, f1, f0, n]
      ((tableOf table = none ∨ 1 < copy.toNat) → answered row 0x05 0x05 []) ∧
      (∀ t, tableOf table = some t → copy.toNat ≤ 1 → ∃ es,
        es <+: ((s.mga.copyEntries t copy).drop (f1 ++ f0).toNat) ∧ es.length ≤ n.toNat ∧ es.flatten.length ≤ 48 ∧
        (∀ e later, (s.mga.copyEntries t copy).drop (f1 ++ f0).toNat = es ++ e :: later →
          es.length = n.toNat ∨ 48 < es.flatten.length + e.length) ∧
        answered row 0x05 0x00 (table :: copy :: f1 :: f0 :: byteOf es.length :: es.flatten))) ∧
    (∀ first, ManagerArrives s arr [0x06, tag, first] →
      1 + (((s.brs.history.drop first.toNat).take 3).flatMap TripEntry.bytes).length ≤ 53 ∧
      answered (.readTrips arr tag [first]) 0x06 0x00
        (byteOf s.brs.history.length :: ((s.brs.history.drop first.toNat).take 3).flatMap TripEntry.bytes)) ∧
    (∀ group first, ManagerArrives s arr [0x07, tag, group, first] →
      let row := Instr.readCounters arr tag [group, first]
      (∀ cs, seen.counterGroup group = some cs →
        answered row 0x07 0x00 (group :: ((cs.drop first.toNat).take 26).flatMap bytes16)) ∧
      ((group = 0 ∨ 4 < group.toNat) → answered row 0x07 0x0E [])) ∧
    (∀ group, ManagerArrives s arr [0x08, tag, group] →
      let reply := mgmtReply s arr 0x08 tag 0x00 []
      let row := Instr.clearCounters arr tag [group]
      (group = 1 → exec row s = .next { begin arr.elapsed s with
        rif := { s.answered reply with counters := Vector.replicate 16 0 } }) ∧
      (group = 2 → exec row s = .next { begin arr.elapsed s with
        rif := s.answered reply, moe := { s.moe with counters := Vector.replicate 26 0 } }) ∧
      (group = 3 → exec row s = .next { begin arr.elapsed s with
        rif := s.answered reply, adu := { s.adu with counters := Vector.replicate 23 0 } }) ∧
      (group = 4 → exec row s = .next { begin arr.elapsed s with
        rif := s.answered reply
        rpu := { s.rpu with slots := s.rpu.slots.map fun x => { x with count := 0 } } }) ∧
      ((group = 0 ∨ 4 < group.toNat) → answered row 0x08 0x0E [])) ∧
    (ManagerArrives s arr [0x09, tag] → exec (.clearFlags arr tag []) s = .next { begin arr.elapsed s with
      rif := { s.answered (mgmtReply s arr 0x09 tag 0x00 []) with
        crcFlag := false, formatFlag := false, overrunFlag := false } }) ∧
    (∀ d1 d0, ManagerArrives s arr [0x0A, tag, d1, d0] →
      exec (.setDay arr tag [d1, d0]) s = .next { begin arr.elapsed s with
        rif := s.answered (mgmtReply s arr 0x0A tag 0x00 []), mga := { s.mga with day := d1 ++ d0 } }) ∧
    (∀ request body, ManagerArrives s arr (request :: tag :: body) →
      (request = 0 ∨ 16 < request.toNat) →
      answered (.unknownRequest arr request tag body) request 0x02 []) ∧
    ∀ c request body r, ManagerArrives s arr (request :: tag :: body) →
      rowFrame c = some (arr, 0x60, request :: tag :: body) → requestOf request = some r →
      r.lengthHolds body.length = false → answered c request 0x03 []

/-- The ten pages of READ_STATUS exist, and no other; their contents, field by field at their offsets, and the codes of
the states they carry (R54, R66, R93, R100, R117, R170, R171, R183, R193). The stop cause of none and the indications
of a car without a report are free values (logs 6, 7). The codes of the fields that R183 leaves to the list of their
values, the selected stages, the failure of a shadow that is not INVALID, and the frame OUT is sending among those of the FIFO on page 8 are
the model's reading (log 17), and so is that the request itself is not among them (log 36). -/
def Obligations.StatusPagesShowTheState : Prop :=
  ([HaulState.parked, .boarding, .armed, .running, .serviceStop, .tripped].map HaulState.code = [1, 2, 3, 4, 5, 6] ∧
    [PositionStatus.unreferenced, .referenced, .corrected, .suspect].map PositionStatus.code = [0, 1, 2, 3] ∧
    [TripCause.powerUp, .strap, .overspeed, .sbIneffective, .speedLost, .estopChain, .overrun, .doorOpenMoving,
      .manual, .brakeTest].map TripCause.code = [1, 2, 3, 4, 5, 6, 7, 8, 9, 10] ∧
    [StopCause.overspeed, .speedLost, .disagree, .slip, .positionSuspect, .drive, .doorStateLost, .console,
      .brakeTest].map StopCause.code = [1, 2, 3, 4, 5, 6, 7, 8, 9] ∧
    [Tier.normal, .warn].map Tier.code = [0, 1] ∧ [Direction.none, .up, .down].map Direction.code = [0, 1, 2] ∧
    [EnvMode.off, .normal, .creep, .frozen].map EnvMode.code = [0, 1, 2, 3] ∧
    [ChannelState.absent, .fresh, .stale].map ChannelState.code = [0, 1, 2] ∧
    [TestState.idle, .active, .complete].map TestState.code = [0, 1, 2] ∧
    [StageStatus.idle, .waiting, .braking, .passed, .failed, .aborted].map StageStatus.code = [0, 1, 2, 3, 4, 5] ∧
    [DoorState.locked, .releasing, .released, .closing, .fault].map DoorState.code = [0, 1, 2, 3, 4] ∧
    [ShadowState.empty, .filling, .valid, .invalid].map ShadowState.code = [0, 1, 2, 3] ∧
    [FailReason.count, .range, .order, .role].map FailReason.code = [1, 2, 3, 4]) ∧
  (∀ (s : State) (n : Nat), n ≤ 9 → (s.page n).isSome = true) ∧
  ∀ (s : State) (n : Nat) (p : List Byte), s.page n = some p →
    let b := byteAt p
    let w := wordAt p
    let d := longAt p
    let index := fun x : Option Nat => match x with
      | some i => BitVec.ofNat 8 i
      | none => (0xFF : Byte)
    let flag := fun (offset : Nat) (x : Bool) => b offset = if x then 1 else 0
    let bits := fun (offset : Nat) (xs : List Bool) => ∀ i : Fin 8, (b offset).getLsbD i = xs.getD i false
    let left := fun x : Option Timer => x.map fun t => t.dur - (s.clock - t.start).toNat
    let fresh := fun x : Option Timer => x.any fun t => decide ((s.clock - t.start).toNat < t.dur)
    (n = 0 → p.length = 49 ∧ b 0 = s.hlc.state.code ∧
      (∀ t : TableId, (b 1).getLsbD t.idx = s.mga.active.isActive t) ∧ b 2 = s.mga.pendingMask.getD 0 ∧
      (∀ t : TableId, let o := 3 + 5 * t.idx.val
        let x := s.mga.shadow t
        b o &&& 3 = x.state.code ∧ w (o + 1) = BitVec.ofNat 16 x.entries.length ∧
        (∀ i why, x.state = .invalid → x.failure = some (i, why) →
          b o >>> 4 = why.code ∧ w (o + 3) = BitVec.ofNat 16 i) ∧
        (x.state ≠ .invalid → b o >>> 4 = 0 ∧ w (o + 3) = 0)) ∧
      b 43 = s.oaByte ∧ b 44 = s.maByte ∧ flag 45 s.strapFault ∧
      bits 46 [s.rif.crcFlag, s.rif.formatFlag, s.rif.overrunFlag] ∧ w 47 = s.mga.day) ∧
    (n = 1 → p.length = 14 ∧
      (∀ x ∈ [(0, s.moe.s1), (1, s.moe.s2), (2, s.moe.ca), (3, s.moe.cb)],
        b x.1 &&& 3 = x.2.state.code ∧ (b x.1).getLsbD 7 = x.2.saturated) ∧
      b 4 = s.moe.status.code ∧ flag 5 s.moe.held ∧ d 6 = BitVec.ofInt 32 s.moe.posA ∧
      w 10 = BitVec.ofInt 16 s.moe.last.signed ∧ flag 12 s.moe.last.known ∧ flag 13 s.moe.still) ∧
    (n = 2 → p.length = 10 ∧ b 0 = s.env.mode.code ∧ w 1 = BitVec.ofNat 16 s.env.e ∧
      b 3 = BitVec.ofNat 8 s.env.loadClass ∧ d 4 = BitVec.ofNat 32 s.env.load ∧ b 8 = index s.env.target ∧
      b 9 = s.env.dir.code) ∧
    (n = 3 → p.length = 28 ∧ b 0 = s.brs.tier.code ∧ flag 1 s.brs.aboveService ∧
      w 2 = BitVec.ofNat 16 s.brs.tWarn ∧ w 4 = BitVec.ofNat 16 s.brs.tSvc ∧ w 6 = BitVec.ofNat 16 s.brs.tEmg ∧
      flag 8 s.brs.trip.latched ∧ b 9 = (s.brs.trip.first.map TripCause.code).getD 0 ∧ w 10 = s.brs.trip.causes ∧
      d 12 = BitVec.ofInt 32 s.brs.trip.posA ∧ w 16 = BitVec.ofInt 16 s.brs.trip.v ∧ d 18 = s.brs.trip.time ∧
      flag 22 s.brs.estopLatched ∧
      bits 23 [decide (s.brs.chain.level = .closed), decide (s.brs.key.level = .closed)] ∧
      flag 24 s.brs.sup.active ∧ b 25 = BitVec.ofNat 8 s.brs.sup.short ∧ flag 26 s.brs.lossFlag ∧
      flag 27 s.brs.lossTimer.isSome) ∧
    (n = 4 → p.length = 41 ∧ b 0 = s.test.state.code ∧ bits 1 [s.test.selSvc, s.test.selEmg] ∧
      w 2 = BitVec.ofNat 16 s.test.vTest ∧ flag 4 s.test.abortPending ∧ flag 5 s.test.failureMark ∧
      b 6 = s.test.svc.status.code ∧ b 7 = s.test.emg.status.code ∧
      (∀ x ∈ [(8, s.test.svc), (24, s.test.emg)], w x.1 = BitVec.ofNat 16 x.2.vApply ∧
        d (x.1 + 2) = BitVec.ofInt 32 x.2.pApply ∧ d (x.1 + 6) = BitVec.ofNat 32 x.2.tStop ∧
        d (x.1 + 10) = BitVec.ofNat 32 x.2.dStop ∧ w (x.1 + 14) = BitVec.ofNat 16 (min x.2.decel 65535)) ∧
      bits 40 [s.test.svcFailed, s.test.emgFailed]) ∧
    (n = 5 → p.length = 18 ∧ b 0 = s.hlc.state.code ∧ b 1 = index s.hlc.berth ∧ flag 2 s.hlc.boardingOpen ∧
      b 3 = index s.hlc.target ∧ b 4 = s.hlc.dir.code ∧
      b 5 = (s.hlc.origin.map fun o => o.toState.code).getD 0 ∧
      d 6 = ((left s.hlc.armTimer).map (BitVec.ofNat 32)).getD 0xFFFFFFFF ∧
      (∀ c, s.hlc.stopCause = some c → b 10 = c.code) ∧ b 11 = BitVec.ofNat 8 s.hlc.further ∧
      b 12 = s.hlc.drive.ready ∧ b 13 = s.hlc.drive.fault ∧ w 14 = s.hlc.drive.speed ∧
      flag 16 (fresh s.hlc.drive.expiry) ∧ bits 17 [s.sbDemand, s.driveEnable, s.ebHold]) ∧
    (n = 6 → p.length = 23 ∧
      (∀ x ∈ [(0, s.dru.aLeft), (1, s.dru.aRight), (2, s.dru.bLeft), (3, s.dru.bRight)],
        b x.1 = x.2.state.code ∧
        w (4 + 2 * x.1) = ((left x.2.timer).map fun m => BitVec.ofNat 16 (min m 65535)).getD 0xFFFF) ∧
      (∀ x ∈ [(12, s.dru.repA), (17, s.dru.repB)], flag (x.1 + 2) (fresh x.2.expiry) ∧
        (x.2.report = none → w (x.1 + 3) = 0xFFFF) ∧
        ∀ r, x.2.report = some r → bits x.1 [r.left.closed, r.left.locked, r.left.obstructed] ∧
          bits (x.1 + 1) [r.right.closed, r.right.locked, r.right.obstructed] ∧
          w (x.1 + 3) = BitVec.ofNat 16 (min (s.clock - r.arrival).toNat 65535)) ∧
      flag 22 s.dru.movingOpen) ∧
    (n = 7 → p.length = 15 ∧ w 0 = s.mga.day ∧ b 2 = s.adu.token ∧
      b 3 = BitVec.ofNat 8 s.adu.passback.length ∧ bits 4 [s.adu.fullA, s.adu.fullB] ∧
      w 5 = BitVec.ofNat 16 s.adu.aboardA ∧ w 7 = BitVec.ofNat 16 s.adu.aboardB ∧
      b 9 = BitVec.ofNat 8 s.adu.unticketedA ∧ b 10 = BitVec.ofNat 8 s.adu.unticketedB ∧
      b 11 = BitVec.ofNat 8 (s.adu.grants.countP fun g => g.car == .a) ∧
      b 12 = BitVec.ofNat 8 (s.adu.grants.countP fun g => g.car == .b) ∧
      (s.adu.grants = [] → w 13 = 0xFFFF) ∧
      ∀ g ∈ s.adu.grants, (∀ g' ∈ s.adu.grants, g.expiry.left s.clock ≤ g'.expiry.left s.clock) →
        w 13 = BitVec.ofNat 16 (min (g.expiry.left s.clock) 65535)) ∧
    (n = 8 → p.length = 11 ∧ b 0 = s.oaByte ∧ b 1 = s.maByte ∧ flag 2 s.strapFault ∧
      bits 3 [s.rif.crcFlag, s.rif.formatFlag, s.rif.overrunFlag] ∧
      b 4 = BitVec.ofNat 8 (s.rif.fifo.length + if s.rif.sending.any (·.fromFifo) then 1 else 0) ∧
      flag 5 s.rif.force.isSome ∧ b 6 = BitVec.ofNat 8 s.rif.door.length ∧
      b 7 = BitVec.ofNat 8 s.rif.reply.length ∧ b 8 = BitVec.ofNat 8 s.rif.report.length ∧
      flag 9 s.rif.beacon.isSome ∧ b 10 = BitVec.ofNat 8 s.rif.backToBack) ∧
    (n = 9 → p.length = 12 ∧ b 0 = s.rpu.seq ∧ (∀ k : Fin 28, (d 1).getLsbD k = s.rpu.slots[k].entry.isSome) ∧
      (∀ i, 28 ≤ i → (d 1).getLsbD i = false) ∧ b 5 = BitVec.ofNat 8 s.rif.report.length ∧
      b 6 = byteAt s.mga.active.reportLevel 28 ∧ b 7 = byteAt s.mga.active.reportLevel 29 ∧
      d 8 = ((left s.rpu.beacon).map (BitVec.ofNat 32)).getD 0xFFFFFFFF) ∧ n ≤ 9

/-- LOAD: the refusals BAD_TABLE, ACTIVATION_PENDING, OUT_OF_RANGE, LENGTH, OUT_OF_ORDER, in order, change nothing but
the reply; accepted, the bytes, cut into entries, start the shadow or join it, and the last LOAD validates it; no
other shadow and no active copy changes (R175, R176). -/
def Obligations.LoadWritesTheShadowAlone : Prop :=
  ∀ (s : State) (arr : Arrival) (tag table f1 f0 n last : Byte) (bytes : List Byte),
    let body := table :: f1 :: f0 :: n :: last :: bytes
    ManagerArrives s arr (0x02 :: tag :: body) →
    let refused := fun code : Byte => exec (.load arr tag body) s =
      .next { begin arr.elapsed s with rif := s.answered (mgmtReply s arr 0x02 tag code []) }
    let first := (f1 ++ f0).toNat
    let size := fun t : TableId => ((List.range n.toNat).map fun i => t.entrySize (first + i)).sum
    (tableOf table = none → refused 0x05) ∧
    ∀ t, tableOf table = some t →
      let x := s.mga.shadow t
      let held := ∃ mask, s.mga.pendingMask = some mask ∧ names mask t = true
      let order := first = 0 ∨ (x.state = .filling ∧ first = x.entries.length)
      (held → refused 0x08) ∧
      (¬ held → t.capacity < first + n.toNat → refused 0x06) ∧
      (¬ held → first + n.toNat ≤ t.capacity → bytes.length ≠ size t → refused 0x03) ∧
      (¬ held → first + n.toNat ≤ t.capacity → bytes.length = size t → ¬ order → refused 0x07) ∧
      (¬ held → first + n.toNat ≤ t.capacity → bytes.length = size t → order → ∃ es y,
        es.flatten = bytes ∧ es.length = n.toNat ∧
        (∀ i e, es[i]? = some e → e.length = t.entrySize (first + i)) ∧
        y.entries = (if first = 0 then [] else x.entries) ++ es ∧
        (last.getLsbD 0 = false → y.state = .filling ∧ y.failure = none) ∧
        (last.getLsbD 0 = true → y.failure = validate s.oaByte t y.entries ∧
          (y.state = .valid ↔ y.failure = none) ∧ (y.state = .invalid ↔ y.failure ≠ none)) ∧
        exec (.load arr tag body) s = .next { begin arr.elapsed s with
          rif := s.answered (mgmtReply s arr 0x02 tag 0x00 (y.loadBody t)), mga := s.mga.setShadow t y } ∧
        (s.mga.setShadow t y).active = s.mga.active ∧
        ∀ t', t' ≠ t → (s.mga.setShadow t y).shadow t' = s.mga.shadow t')

/-- Validation of entries of the sizes that LOAD cuts. The count is judged first, against the counts of a valid table,
with the count as failing index; then the first entry with a field out of its range; then the table's own conditions:
for NODE no entry of OA in use and no second holder of a single role, reason ROLE; for STOP, PROFILE, PRODUCT and
HOTLIST each entry above the one before, the first PROFILE start 0; for LINE the relations in their order, at the
section of the later field; for REPORTLEVEL two express slots that differ, reason ORDER (R171–R173, R176). -/
def Obligations.ValidationReportsTheFirstFailure : Prop :=
  ∀ (oa : Byte) (t : TableId) (es : List (List Byte)), (∀ i e, es[i]? = some e → e.length = t.entrySize i) →
    let number := fun (e : List Byte) (offset width : Nat) =>
      ((e.drop offset).take width).foldl (fun n b => n * 256 + b.toNat) 0
    let within := fun (e : List Byte) (fields : List (Nat × Nat × Nat × Nat)) =>
      ∀ x ∈ fields, x.2.2.1 ≤ number e x.1 x.2.1 ∧ number e x.1 x.2.1 ≤ x.2.2.2
    let channel := fun (e : List Byte) (offset : Nat) =>
      within e [(offset, 2, 1, 65535), (offset + 3, 1, 2, 8)] ∧
        (byteAt e (offset + 2) = 0x01 ∨ byteAt e (offset + 2) = 0xFF)
    let inRange : Nat → List Byte → Prop := fun i e => match t with
      | .node => (byteAt e 0).toNat ≤ 8 ∧
          (byteAt e 0 = 6 → (byteAt e 1).toNat ≤ 7 ∧ (byteAt e 2).toNat ≤ 1 ∧ (byteAt e 3 = 1 ∨ byteAt e 3 = 2))
      | .stop => 0 ≤ intAt32 e 0 ∧ intAt32 e 0 ≤ 4000000 ∧ 20 ≤ natAt16 e 4 ∧ natAt16 e 4 ≤ 500 ∧
          (byteAt e 6).toNat ≤ 3 ∧ (byteAt e 7).toNat ≤ 3
      | .profile => 0 ≤ intAt32 e 0 ∧ intAt32 e 0 ≤ 4000000 ∧ natAt16 e 4 ≤ 14000 ∧ natAt16 e 6 ≤ 14000
      | .line =>
          if i = 0 then within e [(0, 4, 10000, 4000000), (4, 2, 100, 5000), (22, 2, 5, 200), (24, 2, 20, 1000),
              (26, 2, 5, 200), (28, 2, 100, 5000), (30, 2, 10, 2000), (32, 2, 50, 2000), (34, 2, 50, 3000),
              (36, 2, 100, 5000), (38, 2, 10, 5000)] ∧
            channel e 6 ∧ channel e 10 ∧ channel e 14 ∧ channel e 18
          else if i = 1 then within e [(0, 2, 100, 1500), (2, 2, 100, 1500), (4, 2, 1000, 14000), (6, 2, 0, 5000),
              (8, 2, 0, 500), (10, 2, 0, 500), (12, 2, 0, 500), (14, 2, 0, 2000), (16, 2, 0, 2000),
              (18, 2, 0, 2000), (20, 2, 1000, 16000), (22, 2, 100, 3000), (24, 2, 100, 2000),
              (26, 4, 0, 100000), (30, 4, 0, 100000), (34, 4, 0, 100000), (38, 2, 100, 3000),
              (40, 2, 100, 3000), (42, 2, 100, 3000), (44, 2, 100, 3000)]
          else within e [(0, 1, 10, 100), (1, 1, 10, 100), (2, 1, 10, 100), (3, 1, 10, 100), (4, 2, 1, 400),
              (6, 2, 1, 400), (8, 1, 50, 120), (9, 1, 2, 30), (10, 2, 0, 600), (12, 2, 100, 2000),
              (14, 2, 500, 10000), (16, 1, 2, 60), (17, 2, 100, 2000), (19, 1, 5, 120), (20, 2, 100, 3000),
              (22, 2, 100, 3000), (24, 1, 0, 60)]
      | .marker => byteAt e 0 ≠ 0 ∧ 0 ≤ intAt32 e 1 ∧ intAt32 e 1 ≤ 4000000
      | .product => byteAt e 0 ≠ 0 ∧ (byteAt e 2).toNat ≤ 1
      | .hotlist => True
      | .reportLevel => if i < 28 then (byteAt e 0).toNat ≤ 3 else (byteAt e 0).toNat < 28 ∨ byteAt e 0 = 0xFF
    let counts : Nat × Nat := match t with
      | .node => (62, 62)
      | .stop => (2, 8)
      | .profile => (1, 48)
      | .line => (3, 3)
      | .marker => (0, 32)
      | .product => (0, 32)
      | .hotlist => (0, 512)
      | .reportLevel => (30, 30)
    let fits := counts.1 ≤ es.length ∧ es.length ≤ counts.2
    let ranged := ∀ i e, es[i]? = some e → inRange i e
    let breaks : Nat → List Byte → Prop := fun i e => match t with
      | .node => byteAt e 0 ≠ 0 ∧ (BitVec.ofNat 8 (i + 1) = oa ∨
          byteAt e 0 ≠ 5 ∧ byteAt e 0 ≠ 6 ∧ ∃ j e', j < i ∧ es[j]? = some e' ∧ byteAt e' 0 = byteAt e 0)
      | .stop => ∃ j e', j + 1 = i ∧ es[j]? = some e' ∧ intAt32 e 0 ≤ intAt32 e' 0
      | .profile => (i = 0 ∧ intAt32 e 0 ≠ 0) ∨ ∃ j e', j + 1 = i ∧ es[j]? = some e' ∧ intAt32 e 0 ≤ intAt32 e' 0
      | .product => ∃ j e', j + 1 = i ∧ es[j]? = some e' ∧ (byteAt e 0).toNat ≤ (byteAt e' 0).toNat
      | .hotlist => ∃ j e', j + 1 = i ∧ es[j]? = some e' ∧ natAt32 e 0 ≤ natAt32 e' 0
      | .reportLevel => i = 29 ∧ ∃ e', es[28]? = some e' ∧ byteAt e' 0 = byteAt e 0 ∧ byteAt e 0 ≠ 0xFF
      | .line => False
      | .marker => False
    let reason := if t = .node then FailReason.role else FailReason.order
    (¬ fits → validate oa t es = some (es.length, .count)) ∧
    (fits → ∀ i e, es[i]? = some e → ¬ inRange i e → (∀ j e', j < i → es[j]? = some e' → inRange j e') →
      validate oa t es = some (i, .range)) ∧
    (fits → ranged → ∀ i e, es[i]? = some e → breaks i e →
      (∀ j e', j < i → es[j]? = some e' → ¬ breaks j e') → validate oa t es = some (i, reason)) ∧
    (fits → ranged → t ≠ .line → (∀ i e, es[i]? = some e → ¬ breaks i e) → validate oa t es = none) ∧
    (t = .line → ranged → ∀ a b c, es = [a, b, c] →
      let w := natAt16 b
      let first := (w 8 < w 10 ∧ w 10 < w 12) ∧ (w 14 ≤ w 16 ∧ w 16 ≤ w 18) ∧
        (natAt32 b 26 < natAt32 b 30 ∧ natAt32 b 30 < natAt32 b 34) ∧ (w 40 ≤ w 38 ∧ w 42 ≤ w 40 ∧ w 44 ≤ w 42)
      let percents := byteAt c 1 ≤ byteAt c 0 ∧ byteAt c 2 ≤ byteAt c 1 ∧ byteAt c 3 ≤ byteAt c 2
      let limits := w 2 ≤ w 4 ∧ w 0 ≤ w 4
      validate oa t es = if ¬ first then some (1, .order) else if ¬ percents then some (2, .order)
        else if ¬ limits then some (1, .order) else none)

/-- What is loaded is what is in force: a table put into force from entries that validation passes reads back, entry
for entry and byte for byte, as it was loaded, whatever the table (R172, R173, R176, R180, R184). -/
def Obligations.TablesInForceReadBackAsLoaded : Prop :=
  ∀ (oa : Byte) (a : ActiveTables) (t : TableId) (es : List (List Byte)),
    (∀ i e, es[i]? = some e → e.length = t.entrySize i) → validate oa t es = none →
    (a.put t es).entries t = es ∧ (a.put t es).isActive t = true ∧
    ∀ t', t' ≠ t → (a.put t es).entries t' = a.entries t' ∧ (a.put t es).isActive t' = a.isActive t'

/-- ACTIVATE: the refusals BAD_MASK, ALREADY_PENDING, NOT_VALID, in order, change nothing but the reply; a mask of
PRODUCT, HOTLIST and REPORTLEVEL takes effect at once; one of haul tables waits out of PARKED and TRIPPED, and there
takes effect or fails its cross-checks with ACTIVATION_FAILED. A pending one is taken, so or so, by the step that
parks or trips the haul. Taking effect copies the shadow of each table in the mask into its active copy, field by field
of its entries, and leaves every other one; the LINE record is read by its three sections (R172, R177–R180; a LINE shadow
that is not three sections, which validation lets no run reach, keeps the record, log 23). Every timed command ends
so: one that brings a haul from another state into PARKED or TRIPPED, with a mask pending, leaves none pending and the
tables of the mask in force, or, where the cross-checks fail on the counts that stand then, the tables as they were;
one that brings it elsewhere leaves the mask pending (R178). Checks 6 and 7 are made by the reading of log 22. -/
def Obligations.ActivationTakesEffectAtRest : Prop :=
  (∀ (m : Mga) (mask : Byte),
    let a := m.after mask
    let es := fun t : TableId => (m.shadow t).entries
    a.node = (if mask.getLsbD 0 then some ((es .node).map fun e =>
      ⟨roleOfCode (byteAt e 0), byteAt e 1, byteAt e 2, byteAt e 3⟩) else m.active.node) ∧
    a.stop = (if mask.getLsbD 1 then some ((es .stop).map fun e =>
      ⟨intAt32 e 0, natAt16 e 4, platformOfCode (byteAt e 6), platformOfCode (byteAt e 7)⟩) else m.active.stop) ∧
    a.profile = (if mask.getLsbD 2 then some ((es .profile).map fun e =>
      ⟨intAt32 e 0, natAt16 e 4, natAt16 e 6⟩) else m.active.profile) ∧
    (mask.getLsbD 3 = false → a.line = m.active.line) ∧
    (mask.getLsbD 3 = true → ∀ x y z, es .line = [x, y, z] → a.line = some (lineOfSections x y z)) ∧
    a.marker = (if mask.getLsbD 4 then some ((es .marker).map fun e => ⟨byteAt e 0, intAt32 e 1⟩)
      else m.active.marker) ∧
    a.product = (if mask.getLsbD 5 then some ((es .product).map fun e =>
      ⟨byteAt e 0, byteAt e 1, byteAt e 2 == 1, natAt16 e 3, natAt16 e 5⟩) else m.active.product) ∧
    a.hotlist = (if mask.getLsbD 6 then some ((es .hotlist).map fun e => longAt e 0) else m.active.hotlist) ∧
    a.reportLevel = (if mask.getLsbD 7 then (es .reportLevel).map fun e => byteAt e 0
      else m.active.reportLevel)) ∧
  (∀ (s : State) (arr : Arrival) (tag mask : Byte), ManagerArrives s arr [0x03, tag, mask] →
    let row := Instr.activate arr tag [mask]
    let refused := fun (code : Byte) (body : List Byte) => exec row s =
      .next { begin arr.elapsed s with rif := s.answered (mgmtReply s arr 0x03 tag code body) }
    let bad := mask = 0 ∨ (mask &&& 0x1F ≠ 0 ∧ mask &&& 0xE0 ≠ 0)
    let invalid := fun t : TableId => names mask t = true ∧ (s.mga.shadow t).state ≠ .valid
    let rest := s.hlc.state = .parked ∨ s.hlc.state = .tripped
    let effect := Completes row s fun t =>
      t.mga = { s.mga with active := s.mga.after mask } ∧
      t.rif.reply = s.rif.reply ++ [mgmtReply s arr 0x03 tag 0x00 [mask]] ∧
      t.rpu.slots[EventKind.tableActivated.code].count =
        satAdd s.rpu.slots[EventKind.tableActivated.code].count 1
    (bad → refused 0x09 []) ∧
    (¬ bad → s.mga.pendingMask ≠ none → refused 0x0B []) ∧
    (¬ bad → s.mga.pendingMask = none → ∀ t, invalid t → (∀ t', invalid t' → t.idx ≤ t'.idx) →
      refused 0x0A [t.code]) ∧
    (¬ bad → s.mga.pendingMask = none → (∀ t, ¬ invalid t) →
      (mask &&& 0xE0 ≠ 0 → effect) ∧
      (mask &&& 0xE0 = 0 → ¬ rest → exec row s = .next { begin arr.elapsed s with
        rif := s.answered (mgmtReply s arr 0x03 tag 0x01 [mask])
        mga := { s.mga with pendingMask := some mask } }) ∧
      (mask &&& 0xE0 = 0 → rest → crossChecks (s.mga.after mask) s.adu = none → effect) ∧
      (mask &&& 0xE0 = 0 → rest → ∀ n i, crossChecks (s.mga.after mask) s.adu = some (n, i) →
        Completes row s fun t => t.mga = s.mga ∧ t.hlc = s.hlc ∧ t.brs = s.brs ∧ t.moe = s.moe ∧
          t.rif.reply = s.rif.reply ++
            [mgmtReply s arr 0x03 tag 0x0C (byteOf n :: bytes16 (BitVec.ofNat 16 i))] ∧
          t.rpu.slots[EventKind.activationFailed.code].count =
            satAdd s.rpu.slots[EventKind.activationFailed.code].count 1))) ∧
  (∀ (c : Instr) (e : Time) (s t : State) (mask : Byte), rowElapsed c = some e → exec c s = .next t →
    s.mga.pendingMask = some mask → s.hlc.state ≠ .parked → s.hlc.state ≠ .tripped →
    let counted := fun k : EventKind => t.rpu.slots[k.code].count = satAdd s.rpu.slots[k.code].count 1
    ((t.hlc.state = .parked ∨ t.hlc.state = .tripped) →
      (crossChecks (s.mga.after mask) t.adu = none →
        t.mga = { s.mga with pendingMask := none, active := s.mga.after mask } ∧ counted .tableActivated) ∧
      (crossChecks (s.mga.after mask) t.adu ≠ none →
        t.mga = { s.mga with pendingMask := none } ∧ counted .activationFailed)) ∧
    (¬ (t.hlc.state = .parked ∨ t.hlc.state = .tripped) → t.hlc.state ≠ s.hlc.state → t.mga = s.mga)) ∧
  (∀ (c : Instr) (e : Time) (s : State), rowElapsed c = some e → s.inReset = false → ∃ u,
    exec c s = .next (settle (begin e s) u) ∧ (u.hlc.state ≠ s.hlc.state → s.hlc.state ≠ .parked →
      s.hlc.state ≠ .tripped → u.mga = s.mga)) ∧
  (∀ before after : State, after.mga.pendingMask = none → settle before after = after) ∧
  ∀ (before after : State) (mask : Byte), after.hlc.state ≠ before.hlc.state → after.mga.pendingMask = some mask →
    let t := settle before after
    ((after.hlc.state = .parked ∨ after.hlc.state = .tripped) → t.mga.pendingMask = none ∧
      t.mga.shadows = after.mga.shadows ∧
      (crossChecks (after.mga.after mask) after.adu = none → t.mga.active = after.mga.after mask) ∧
      (crossChecks (after.mga.after mask) after.adu ≠ none → t.mga.active = after.mga.active ∧
        t.hlc = after.hlc ∧ t.brs = after.brs ∧ t.moe = after.moe)) ∧
    (¬ (after.hlc.state = .parked ∨ after.hlc.state = .tripped) → t = after)

/-- The cross-checks over the tables that would be in force and the Admission Unit's counts as they stand: the first
check that some element fails is reported with its number and the first element that fails it; none where every check
is passed. 1: a stop beyond L. 2: a PROFILE start beyond L. 3: a ceiling above v_line_max. 4: a GATE, by its address,
whose stop is not in the STOP table. 5: a GATE whose car has no platform there. 6 and 7: a capacity below the car's
aboard and pending passengers, whose number as 16 bits is the index (R179). Checks 1 to 3 are passed where a table they
name is EMPTY, 4 and 5 where NODE is, 6 and 7 where LINE is; an EMPTY STOP has no entries, so check 4 then fails of the
first GATE. Checks 6 and 7 are made whether or not the mask names LINE (log 22): where the laws of admission hold, a
mask without LINE never fails them, so this reading and that of R149, R150 and chapter 10's example are one.
ACTIVATION_FAILED carries number, mask and index. -/
def Obligations.CrossChecksReportTheFirstFailure : Prop :=
  (∀ (a : ActiveTables) (adu : Adu),
    let held := fun car => (if car = Car.a then adu.aboardA else adu.aboardB) +
      (adu.grants.filter fun g => g.car == car).length
    let fails : Nat → Nat → Prop := fun check i =>
      (check = 1 ∧ ∃ t l x, a.stop = some t ∧ a.line = some l ∧ t[i]? = some x ∧ (l.length : Int) < x.pos) ∨
      (check = 2 ∧ ∃ t l x, a.profile = some t ∧ a.line = some l ∧ t[i]? = some x ∧ (l.length : Int) < x.start) ∨
      (check = 3 ∧ ∃ t l x, a.profile = some t ∧ a.line = some l ∧ t[i]? = some x ∧
        (l.vLineMax < x.up ∨ l.vLineMax < x.down)) ∨
      (check = 4 ∧ ∃ t j x, a.node = some t ∧ i = j + 1 ∧ t[j]? = some x ∧ x.role = .gate ∧
        (a.stop.getD []).length ≤ x.stop.toNat) ∨
      (check = 5 ∧ ∃ t j x, a.node = some t ∧ i = j + 1 ∧ t[j]? = some x ∧ x.role = .gate ∧
        ∀ y car, (a.stop.getD [])[x.stop.toNat]? = some y → carOf x.car = some car → y.platform car = .none) ∨
      (check = 6 ∧ ∃ l, a.line = some l ∧ l.capA < held .a ∧ i = min (held .a) 65535) ∨
      (check = 7 ∧ ∃ l, a.line = some l ∧ l.capB < held .b ∧ i = min (held .b) 65535)
    (∀ check i, crossChecks a adu = some (check, i) ↔
      fails check i ∧ (∀ j < i, ¬ fails check j) ∧ ∀ earlier j, earlier < check → ¬ fails earlier j) ∧
    (crossChecks a adu = none ↔ ∀ check i, ¬ fails check i)) ∧
  (∀ (s : State) (mask : Byte), AdmissionSound s → names mask .line = false →
    ∀ check i, crossChecks (s.mga.after mask) s.adu = some (check, i) → check ≤ 5) ∧
  ∀ (s : State) (mask : Byte) (check i : Nat), (names mask .line = true ∨ check ≤ 5 ∨ AdmissionSound s) →
    crossChecks (s.mga.after mask) s.adu = some (check, i) →
    s.mga.pendingMask = some mask → (s.hlc.state = .parked ∨ s.hlc.state = .tripped) →
    ∀ before : State, before.hlc.state ≠ s.hlc.state →
      settle before s = raise .activationFailed (BitVec.ofNat 8 check ++ mask ++ BitVec.ofNat 16 i)
        { s with mga := { s.mga with pendingMask := none } }

/-- What the blocks do when tables take effect. A new LINE record, at rest: each channel is re-estimated and its expiry
moved, and one whose new expiry is reached is STALE, EXPIRED counted; the sheaves are re-based at posA, which stays; the
source is re-chosen, the status kept, and the gap mark set where a trusted position is left without a source (log 30);
disagreement and slip are cleared; the still candidate is kept under the new t_still and v_still; the thresholds, the
drive expiry, the cars' freshness with its lapses (log 16) and the beacon timer follow the record (R21, R43, R98,
R105, R192). A haul mask without LINE changes no channel record and no timer of these. A new REPORTLEVEL clears the
pending entry of each kind of level 0, keeps every other, and selects under the new levels and slots (R189), before
TABLE_ACTIVATED is raised (log 21); a mask of PRODUCT and HOTLIST alone raises it alone. TABLE_ACTIVATED carries the
mask, 1 where it was pending, and the haul state, and is raised before the notices of haul tables (the model's
reading, log 39). -/
def Obligations.NewTablesAreAppliedAtTheTakeEffect : Prop :=
  (∀ (s : State) (mask : Byte) (wasPending : Bool) (l : Line), names mask .line = true → haulMask mask = true →
    (s.mga.after mask).line = some l → MotionSound s → (s.hlc.state = .parked ∨ s.hlc.state = .tripped) →
    s.env.mode = .off →
    let t := takeEffect mask wasPending s
    let past := fun (start : Time) (limit : Nat) => decide (limit ≤ (s.clock - start).toNat)
    (names mask .reportLevel = false → t = applyLine l (raise .tableActivated
      (mask ++ (if wasPending then (1 : Byte) else (0 : Byte)) ++ s.hlc.state.code ++ (0 : Byte))
      { s with mga := { s.mga with active := s.mga.after mask } })) ∧
    t.mga = { s.mga with active := s.mga.after mask } ∧ t.adu = s.adu ∧ t.clock = s.clock ∧
    (t.hlc.state = s.hlc.state ∨ t.hlc.state = .tripped) ∧
    (∀ ch, let c := s.moe.channel ch
      let e := estimateOf (l.channel ch) c.history
      (c.state ≠ .fresh → t.moe.channel ch = c ∧
        t.moe.counters[(MotionCounter.channel ch .expired).idx] =
          s.moe.counters[(MotionCounter.channel ch .expired).idx]) ∧
      (c.state = .fresh → ∀ a, c.lastArrival = some a →
        (past a (l.stale ch) = false → t.moe.channel ch = { c with
          expiry := some { start := a, dur := l.stale ch }
          estimate := if 2 ≤ c.history.length then e.map (·.1) else c.estimate
          saturated := if 2 ≤ c.history.length then (e.map (·.2)).getD false else c.saturated }) ∧
        (past a (l.stale ch) = true → t.moe.channel ch =
            { c with state := .stale, history := [], expiry := none, estimate := none, saturated := false } ∧
          t.moe.counters[(MotionCounter.channel ch .expired).idx] =
            satAdd s.moe.counters[(MotionCounter.channel ch .expired).idx] 1))) ∧
    t.moe.posA = s.moe.posA ∧ t.moe.source = t.moe.choice ∧
    (∀ sh newest, (s.moe.channel sh.channel).history.getLast? = some newest →
      t.moe.reference sh = { count := newest.count, pos := s.moe.posA }) ∧
    (s.moe.gap = false → t.moe.status = s.moe.status ∧
      (t.moe.gap = true ↔ t.moe.source = none ∧ s.moe.source ≠ none ∧ s.moe.status.trusted = true)) ∧
    t.moe.disagree = .clear ∧ t.moe.slipA = .clear ∧ t.moe.slipB = .clear ∧ t.moe.last = t.moe.motion ∧
    (let still := t.moe.last.known = true ∧ t.moe.last.v ≤ l.vStill
     (¬ still → t.moe.still = false ∧ t.moe.candidate = none ∧ t.moe.stillTimer = none) ∧
     (still → s.moe.candidate = none → t.moe.still = false ∧ t.moe.candidate = some s.clock ∧
       t.moe.stillTimer = some ⟨s.clock, l.tStill⟩) ∧
     (still → ∀ start, s.moe.candidate = some start → t.moe.candidate = some start ∧
       t.moe.still = (s.moe.still || past start l.tStill) ∧
       t.moe.stillTimer = if past start l.tStill then none else some ⟨start, l.tStill⟩)) ∧
    t.brs.tWarn = l.cw ∧ t.brs.tSvc = l.cs ∧ t.brs.tEmg = min l.ce l.vTripAbs ∧
    (s.hlc.drive.arrival = none → t.hlc.drive = s.hlc.drive) ∧
    (∀ a, s.hlc.drive.arrival = some a → t.hlc.drive = { s.hlc.drive with
      expiry := if past a l.tDriveFresh then none else some ⟨a, l.tDriveFresh⟩ }) ∧
    (∀ car side, t.dru.door car side = s.dru.door car side) ∧
    (∀ car, (s.dru.reports car).report = none → t.dru.reports car = s.dru.reports car) ∧
    (∀ car r, (s.dru.reports car).report = some r → t.dru.reports car =
      ⟨some r, if past r.arrival l.tDoorFresh then none else some ⟨r.arrival, l.tDoorFresh⟩⟩) ∧
    (let lapsed := [Car.a, Car.b].filter fun car =>
       (s.dru.reports car).report.any fun r => past r.arrival l.tDoorFresh
     t.rpu.slots[EventKind.doorStateLost.code].count =
       satAdd s.rpu.slots[EventKind.doorStateLost.code].count lapsed.length) ∧
    t.rpu.slots[EventKind.tableActivated.code].count =
      satAdd s.rpu.slots[EventKind.tableActivated.code].count 1 ∧
    t.rpu.beacon = (if l.tBeacon = 0 then none else some ⟨s.clock, l.tBeacon * 1000⟩)) ∧
  (∀ (s : State) (mask : Byte) (wasPending : Bool), names mask .line = false → haulMask mask = true →
    let t := takeEffect mask wasPending s
    (names mask .reportLevel = false → t = motionUpdate (raise .tableActivated
      (mask ++ (if wasPending then (1 : Byte) else (0 : Byte)) ++ s.hlc.state.code ++ (0 : Byte))
      { s with mga := { s.mga with active := s.mga.after mask } })) ∧
    t.mga = { s.mga with active := s.mga.after mask } ∧ (∀ ch, t.moe.channel ch = s.moe.channel ch) ∧
    t.moe.posA = s.moe.posA ∧ t.moe.status = s.moe.status ∧ t.moe.gap = s.moe.gap ∧
    t.moe.source = s.moe.source ∧ t.moe.ref1 = s.moe.ref1 ∧ t.moe.ref2 = s.moe.ref2 ∧ t.moe.last = t.moe.motion ∧
    t.hlc.drive = s.hlc.drive ∧ (∀ car, t.dru.reports car = s.dru.reports car) ∧
    t.rpu.beacon = s.rpu.beacon) ∧
  ∀ (s : State) (mask : Byte) (wasPending : Bool), mask &&& 0x1F = 0 → mask &&& 0xE0 ≠ 0 →
    let a : State := { s with mga := { s.mga with active := s.mga.after mask } }
    let detail := mask ++ (if wasPending then (1 : Byte) else (0 : Byte)) ++ s.hlc.state.code ++ (0 : Byte)
    (names mask .reportLevel = false → takeEffect mask wasPending s = raise .tableActivated detail a) ∧
    (names mask .reportLevel = true → ∃ slots,
      takeEffect mask wasPending s = raise .tableActivated detail
        (selectReports { a with rpu := { s.rpu with slots := slots } }) ∧
      ∀ k : Fin 28, slots[k] = if byteAt (s.mga.after mask).reportLevel k = 0
        then { count := s.rpu.slots[k].count, entry := none } else s.rpu.slots[k])

/-- CANCEL_ACTIVATE, in every haul state: a pending activation becomes none, with the cancelled mask as body, the
shadows standing and no event; with none pending it is refused NOTHING_PENDING (R182). -/
def Obligations.CancelEndsThePendingActivation : Prop :=
  ∀ (s : State) (arr : Arrival) (tag : Byte), ManagerArrives s arr [0x04, tag] →
    (∀ mask, s.mga.pendingMask = some mask → exec (.cancelActivate arr tag []) s =
      .next { begin arr.elapsed s with
        rif := s.answered (mgmtReply s arr 0x04 tag 0x00 [mask]), mga := { s.mga with pendingMask := none } }) ∧
    (s.mga.pendingMask = none → exec (.cancelActivate arr tag []) s =
      .next { begin arr.elapsed s with rif := s.answered (mgmtReply s arr 0x04 tag 0x0D []) })

/-- REINIT: refused out of PARKED and TRIPPED; accepted, the channels are ABSENT with posA, status, references and counters
kept, STILL, its candidate and timer, the gap mark and the disagreement and slip records cleared, and the update carries
V 0, UNKNOWN and HELD; the run of the haul record and the envelope are cleared, the berth in PARKED is that of posA if
STILL stood on a trusted position, else none, and none in TRIPPED; the test is cleared but for the failed flags; the
Admission Unit is emptied but for its token and counters; a pending activation is dropped; the thresholds are those of
E 0; the moving-open flag is cleared while a LINE record is active. Everything else stands: the trip record, its history
and the levels, the drive record, doors and reports, tables and day, the Report Unit, and the ring but for ABSORBED and
the reply (R25, R42, R65, R79, R102, R119, R138, R154, R169, R186, R194). The update's own overrun judgement trips a haul
PARKED beyond the stops (R53). The mode is OFF at rest by EveryStepKeepsTheHaulLaws. -/
def Obligations.ReinitClearsTheRunAndTheCounts : Prop :=
  ∀ (s : State) (arr : Arrival) (tag : Byte), ManagerArrives s arr [0x10, tag] →
    (¬ (s.hlc.state = .parked ∨ s.hlc.state = .tripped) → exec (.reinit arr tag []) s =
      .next { begin arr.elapsed s with rif := s.answered (mgmtReply s arr 0x10 tag 0x04 []) }) ∧
    ((s.hlc.state = .parked ∨ s.hlc.state = .tripped) → s.env.mode = .off →
      let absent : Channel := { state := .absent, history := [], lastArrival := none, expiry := none,
                                estimate := none, saturated := false }
      let stage : Stage := { status := .idle, trigger := 0, vApply := 0, pApply := 0, tStop := 0, dStop := 0,
                             decel := 0 }
      let beyond := s.moe.status.trusted = true ∧ ∃ l low high, s.line = some l ∧ s.stops.head? = some low ∧
        s.stops.getLast? = some high ∧
        (s.moe.posA < low.pos - l.overrun ∨ high.pos + l.overrun < s.moe.posA)
      let reply := mgmtReply s arr 0x10 tag 0x00 []
      let moe : Moe := { s.moe with
        s1 := absent, s2 := absent, ca := absent, cb := absent, source := none, gap := false, still := false,
        candidate := none, stillTimer := none, disagree := ⟨none, false⟩, slipA := ⟨none, false⟩,
        slipB := ⟨none, false⟩,
        last := { v := 0, known := false, dir := .none, posA := s.moe.posA, held := true, status := s.moe.status,
                  still := false } }
      let env : Env := { mode := .off, e := 0, loadClass := 0, load := 0, target := none, dir := .none }
      let test : BrakeTest := { state := .idle, selSvc := false, selEmg := false, vTest := 0, abortPending := false,
                                failureMark := false, svc := stage, emg := stage,
                                svcFailed := s.test.svcFailed, emgFailed := s.test.emgFailed }
      let hlc : Hlc := { s.hlc with
        berth := if s.hlc.state = .parked ∧ s.moe.still = true ∧ s.moe.status.trusted = true
          then s.berthing s.moe.last.posA else none
        target := none, dir := .none, origin := none, stopCause := none, further := 0 }
      let dru : Dru := { s.dru with movingOpen := if s.line = none then s.dru.movingOpen else false }
      let adu : Adu := { s.adu with
        passback := [], fullA := false, fullB := false, grants := [],
        aboardA := 0, aboardB := 0, unticketedA := 0, unticketedB := 0,
        counters := bumpBy s.adu.counters AduCounter.grantCleared.idx s.adu.grants.length }
      let mga : Mga := { s.mga with pendingMask := none }
      ((s.hlc.state = .tripped ∨ ¬ beyond) → exec (.reinit arr tag []) s = .next { begin arr.elapsed s with
        rif := s.answered reply, moe := moe, env := env, test := test, hlc := hlc, dru := dru, adu := adu, mga := mga
        brs := match s.line with
          | some l => { s.brs with tWarn := l.cw, tSvc := l.cs, tEmg := min l.ce l.vTripAbs }
          | none => { s.brs with tWarn := 0, tSvc := 0, tEmg := 0 } }) ∧
      (s.hlc.state = .parked → beyond → Completes (.reinit arr tag []) s fun t =>
        t.moe = moe ∧ t.env = env ∧ t.test = test ∧ t.dru = dru ∧ t.adu = adu ∧ t.mga = mga ∧
        t.rif.reply = s.rif.reply ++ [reply] ∧ t.rif.fifo = s.rif.fifo ∧
        (s.brs.trip.latched = false →
          t.hlc = { hlc with state := .tripped, berth := none, boardingOpen := false, armTimer := none } ∧
          t.brs.trip = { latched := true, first := some .overrun, causes := 64, posA := s.moe.posA, v := 0,
                         time := s.clock + arr.elapsed })))

/-! ### Event reports and beacons (chapter 11) -/

/-- An event of level 0 is counted and leaves nothing pending; of a level above, the first sets the entry with its
time and detail and the selection follows, and a further one is coalesced: the occurrences rise, to 255 at most, and
the first time and detail stay. No other kind and no other block but the Ring Interface changes (R188). -/
def Obligations.EventsAreCountedAndCoalesced : Prop :=
  ∀ (k : EventKind) (d : BitVec 32) (s : State),
    let old := s.rpu.slots[k.code]
    let put := fun x : Option PendingEvent => s.withRpu { s.rpu with
      slots := s.rpu.slots.set k.code { count := satAdd old.count 1, entry := x } }
    let t := raise k d s
    (s.level k.code = 0 → t = put old.entry) ∧
    (s.level k.code ≠ 0 → ∀ x, old.entry = some x →
      t = put (some { x with occurrences := min (x.occurrences + 1) 255 })) ∧
    (s.level k.code ≠ 0 → old.entry = none →
      t = selectReports (put (some { occurrences := 1, firstTime := s.clock, detail := d }))) ∧
    t.rpu.slots[k.code].count = satAdd old.count 1 ∧
    (∀ k' : Fin 28, k' ≠ k.code → t.rpu.slots[k'].count = s.rpu.slots[k'].count) ∧
    t.moe = s.moe ∧ t.env = s.env ∧ t.brs = s.brs ∧ t.test = s.test ∧ t.hlc = s.hlc ∧ t.dru = s.dru ∧
    t.adu = s.adu ∧ t.mga = s.mga ∧ t.rif.fifo = s.rif.fifo ∧ t.rif.force = s.rif.force ∧
    t.rif.reply = s.rif.reply ∧ t.rif.door = s.rif.door ∧ t.rif.counters = s.rif.counters

/-- The selection queues pending kinds until the REPORT class holds 8 or nothing is pending, express slots first, then
by level, then by code; the report sequence advances by exactly one for each frame queued (R190, R191). Each kind queued
makes a REPORT to MA with the new sequence, code, present level, occurrences, first time and detail, and its entry is
cleared; a frame of an express kind stands behind the express frames that wait and ahead of all others, any other one
last (R166, R170, R190). BEACON_EXPIRY: when the expiry is reached, a snapshot of the state of every block, 29 bytes at
their offsets, is placed for MA, replacing a waiting one, and the expiry moves on by t_beacon; else nothing happens, and
the report sequence stands (R165, R166, R170, R191, R192). -/
def Obligations.ReportsAndBeaconsAreBuiltAndPlaced : Prop :=
  (∀ s : State, ∃ n, (selectReports s).rif.report.length = s.rif.report.length + n ∧
    (selectReports s).rpu.seq = s.rpu.seq + BitVec.ofNat 8 n) ∧
  (∀ (s t : State) (e : Time), exec (.beaconExpiry e) s = .next t → t.rpu.seq = s.rpu.seq) ∧
  (∀ s : State, s.strapFault = false → 8 ≤ (selectReports s).rif.report.length ∨
    ∀ k : Fin 28, (selectReports s).rpu.slots[k].entry = none) ∧
  (∀ (s : State) (k : Fin 28), s.nextKind = some k →
    s.isPending k = true ∧
    (∀ k1, s.express1 = some k1 → s.isPending k1 = true → k = k1) ∧
    ((∀ k1, s.express1 = some k1 → s.isPending k1 = false) → ∀ k2, s.express2 = some k2 →
      s.isPending k2 = true → k = k2) ∧
    ((∀ k1, s.express1 = some k1 → s.isPending k1 = false) →
      (∀ k2, s.express2 = some k2 → s.isPending k2 = false) → ∀ k' : Fin 28, s.isPending k' = true →
      s.level k' < s.level k ∨ (s.level k' = s.level k ∧ k ≤ k'))) ∧
  (∀ s : State, ((s.strapFault = true ∨ 8 ≤ s.rif.report.length ∨ s.nextKind = none) → selectReports s = s) ∧
    (s.strapFault = false → s.rif.report.length < 8 → ∀ k, s.nextKind = some k →
      selectReports s = selectReports (placeKind k s))) ∧
  (∀ (s : State) (k : Fin 28),
    (s.express1 = some k ↔ byteAt s.mga.active.reportLevel 28 = BitVec.ofNat 8 k) ∧
    (s.express2 = some k ↔ byteAt s.mga.active.reportLevel 29 = BitVec.ofNat 8 k) ∧
    ∀ x : PendingEvent, s.rpu.slots[k].entry = some x →
      let f : Frame := { kind := 0x70, dst := s.maByte, src := s.oaByte, seq := s.rif.txSeq,
                         payload := [s.rpu.seq + 1, BitVec.ofNat 8 k, byteAt s.mga.active.reportLevel k,
                           BitVec.ofNat 8 x.occurrences] ++ bytes32 x.firstTime ++ bytes32 x.detail }
      let express : Prop := s.express1 = some k ∨ s.express2 = some k
      let placed := fun report : List ReportSlot => ({ s with
        rif := { s.rif with report := report, txSeq := s.rif.txSeq + 1 }
        rpu := { s.rpu with seq := s.rpu.seq + 1
                            slots := s.rpu.slots.set k { count := s.rpu.slots[k].count, entry := none } } } : State)
      (¬ express → placeKind k s = placed (s.rif.report ++ [⟨f, false⟩])) ∧
      (express → ∀ ahead behind, s.rif.report = ahead ++ behind → (∀ y ∈ ahead, y.express = true) →
        (∀ y ∈ behind, y.express = false) → placeKind k s = placed (ahead ++ ⟨f, true⟩ :: behind))) ∧
  (∀ s : State,
    let p := s.beaconPayload
    let b := byteAt p
    let w := wordAt p
    let index := fun x : Option Nat => match x with
      | some i => BitVec.ofNat 8 i
      | none => (0xFF : Byte)
    let door := fun x : DoorRecord => match x.state with
      | .locked => (0 : BitVec 2)
      | .releasing => 1
      | .released => 1
      | .closing => 2
      | .fault => 3
    p.length = 29 ∧ b 0 = s.hlc.state.code ∧ b 1 = index s.hlc.berth ∧ b 2 = index s.hlc.target ∧
    b 3 = s.moe.status.code ∧ longAt p 4 = BitVec.ofInt 32 s.moe.posA ∧
    w 8 = BitVec.ofInt 16 s.moe.last.signed ∧ w 10 = BitVec.ofNat 16 s.env.e ∧ b 12 = s.brs.tier.code ∧
    b 13 = BitVec.ofNat 8 s.env.loadClass ∧ w 14 = BitVec.ofNat 16 s.adu.aboardA ∧
    w 16 = BitVec.ofNat 16 s.adu.aboardB ∧ b 18 = BitVec.ofNat 8 s.adu.unticketedA ∧
    b 19 = BitVec.ofNat 8 s.adu.unticketedB ∧ b 20 = BitVec.ofNat 8 s.adu.grants.length ∧
    b 21 = door s.dru.aLeft ++ door s.dru.aRight ++ door s.dru.bLeft ++ door s.dru.bRight ∧
    b 22 = (s.brs.trip.first.map TripCause.code).getD 0 ∧
    (∀ i : Fin 8, (b 23).getLsbD i = [s.brs.estopLatched, s.test.svcFailed, s.test.emgFailed,
      s.rif.crcFlag || s.rif.formatFlag || s.rif.overrunFlag].getD i false) ∧
    b 24 = s.rpu.seq ∧ longAt p 25 = s.clock) ∧
  ∀ (s : State) (e : Time), s.inReset = false →
    (due s.rpu.beacon (s.clock + e) = false → exec (.beaconExpiry e) s = .next (begin e s)) ∧
    ∀ (x : Timer) (l : Line), s.rpu.beacon = some x → x.reached (s.clock + e) = true → s.line = some l →
      let r := if s.rif.beacon = none then s.rif else s.rif.count .beaconReplaced
      exec (.beaconExpiry e) s = .next { begin e s with
        rif := { r with
          beacon := some { kind := 0x71, dst := s.maByte, src := s.oaByte, seq := s.rif.txSeq,
                           payload := (begin e s).beaconPayload }
          txSeq := s.rif.txSeq + 1 }
        rpu := { s.rpu with
          beacon := some { start := x.start + BitVec.ofNat 32 x.dur, dur := l.tBeacon * 1000 } } }
end

