-- ==== Sys2Proof/Laws/Bytes.lean ====
section
/-! SUPPORT. A frame's bytes and the receive checks: an intact frame of a row is received as the frame its
operands give (R157, R158). -/

namespace Sys2Proof.Machine

@[simp] theorem bytes16_length (w : BitVec 16) : (bytes16 w).length = 2 := rfl
@[simp] theorem bytes32_length (w : BitVec 32) : (bytes32 w).length = 4 := rfl
@[simp] theorem be16_length (n : Nat) : (be16 n).length = 2 := rfl
@[simp] theorem be32_length (n : Nat) : (be32 n).length = 4 := rfl
@[simp] theorem beInt16_length (i : Int) : (beInt16 i).length = 2 := rfl
@[simp] theorem beInt32_length (i : Int) : (beInt32 i).length = 4 := rfl

/-- Two bytes of a 16-bit field read back as the field. -/
@[simp] theorem wordAt_bytes16 (w : BitVec 16) : wordAt (bytes16 w) 0 = w := by
  have h : w.extractLsb' 8 8 ++ w.extractLsb' 0 8 = w := by
    apply BitVec.eq_of_toNat_eq
    have hw := w.isLt
    simp only [BitVec.toNat_append, BitVec.extractLsb'_toNat, Nat.shiftRight_zero]
    rw [← Nat.shiftLeft_add_eq_or_of_lt (by omega), Nat.shiftLeft_eq, Nat.shiftRight_eq_div_pow]
    omega
  exact h

/-- A field that stands behind a run of bytes. -/
theorem wordAt_append_right (xs ys : List Byte) : wordAt (xs ++ ys) xs.length = wordAt ys 0 := by
  simp [wordAt, byteAt, List.getD, List.getElem?_append_right]

theorem byteOf_toNat {n : Nat} (h : n ≤ 255) : (byteOf n).toNat = n := by
  simp only [byteOf, BitVec.toNat_ofNat]
  omega

/-- The length of a row's frame. -/
theorem frameBytes_length (arr : Arrival) (kind : Byte) (payload : List Byte) :
    (frameBytes arr kind payload).length = payload.length + 7 := by
  simp [frameBytes]

/-- A row's frame is its header and payload with the CRC behind. -/
theorem frameBytes_eq {arr : Arrival} {kind : Byte} {payload : List Byte}
    (h : arr.len = byteOf payload.length) :
    frameBytes arr kind payload = (frameOf arr kind payload).body ++ bytes16 arr.crc := by
  simp [frameBytes, frameOf, Frame.body, h]

theorem body_length (f : Frame) : f.body.length = f.payload.length + 5 := by simp [Frame.body]

/-- An intact frame that finds a place in the FIFO is received as the frame its operands give. -/
theorem receive_frameBytes {used : Nat} {arr : Arrival} {kind : Byte} {payload : List Byte}
    (hu : used < 8) (h : intact arr kind payload = true) :
    receive used (frameBytes arr kind payload) = .frame (frameOf arr kind payload) := by
  simp only [intact, Bool.and_eq_true, decide_eq_true_eq, beq_iff_eq] at h
  obtain ⟨⟨hl, hlen⟩, hcrc⟩ := h
  have hn := frameBytes_length arr kind payload
  have hb : (frameOf arr kind payload).body.length = payload.length + 5 := body_length _
  have htake : (frameBytes arr kind payload).take (payload.length + 5) = (frameOf arr kind payload).body := by
    rw [frameBytes_eq hlen, ← hb, List.take_left]
  have hword : wordAt (frameBytes arr kind payload) (payload.length + 5) = arr.crc := by
    rw [frameBytes_eq hlen, ← hb, wordAt_append_right, wordAt_bytes16]
  have h4 : byteAt (frameBytes arr kind payload) 4 = arr.len := by simp [frameBytes, byteAt]
  have hlenN : arr.len.toNat = payload.length := by rw [hlen]; exact byteOf_toNat (by omega)
  have hdrop : ((frameBytes arr kind payload).drop 5).take payload.length = payload := by
    simp [frameBytes, List.drop]
  simp only [receive, hn, h4, hlenN]
  rw [if_neg (by omega), Nat.add_sub_assoc (by omega), htake, hword, if_neg (by simp [hcrc]),
    if_neg (by omega), if_neg (by omega)]
  simp only [Nat.add_sub_cancel, hdrop]
  simp [frameBytes, frameOf, byteAt]

/-- The arrival that `sealed` makes is intact. -/
theorem intact_sealed (elapsed : Time) (dst src seq kind : Byte) {payload : List Byte}
    (h : payload.length ≤ 56) : intact (sealed elapsed dst src seq kind payload) kind payload = true := by
  simp [intact, sealed, frameOf, h]

/-! The kind codes of R170, in the form simp gives a byte. -/

@[simp] theorem FrameKind.ofCode_10 : FrameKind.ofCode 16#8 = .sampleSheave := by decide
@[simp] theorem FrameKind.ofCode_11 : FrameKind.ofCode 17#8 = .sampleCar := by decide
@[simp] theorem FrameKind.ofCode_12 : FrameKind.ofCode 18#8 = .marker := by decide
@[simp] theorem FrameKind.ofCode_20 : FrameKind.ofCode 32#8 = .setpoint := by decide
@[simp] theorem FrameKind.ofCode_21 : FrameKind.ofCode 33#8 = .driveStatus := by decide
@[simp] theorem FrameKind.ofCode_30 : FrameKind.ofCode 48#8 = .ticket := by decide
@[simp] theorem FrameKind.ofCode_31 : FrameKind.ofCode 49#8 = .gatePass := by decide
@[simp] theorem FrameKind.ofCode_40 : FrameKind.ofCode 64#8 = .doorReq := by decide
@[simp] theorem FrameKind.ofCode_41 : FrameKind.ofCode 65#8 = .doorState := by decide
@[simp] theorem FrameKind.ofCode_50 : FrameKind.ofCode 80#8 = .lineCmd := by decide
@[simp] theorem FrameKind.ofCode_60 : FrameKind.ofCode 96#8 = .mgmtReq := by decide
@[simp] theorem FrameKind.ofCode_42 : FrameKind.ofCode 66#8 = .unhandled := by decide
@[simp] theorem FrameKind.ofCode_51 : FrameKind.ofCode 81#8 = .unhandled := by decide
@[simp] theorem FrameKind.ofCode_61 : FrameKind.ofCode 97#8 = .unhandled := by decide
@[simp] theorem FrameKind.ofCode_70 : FrameKind.ofCode 112#8 = .unhandled := by decide
@[simp] theorem FrameKind.ofCode_71 : FrameKind.ofCode 113#8 = .unhandled := by decide

end Sys2Proof.Machine
end

