-- ==== Sys2Proof/Laws/State.lean ====
section
/-! SUPPORT. One lemma per field per block update, each true by rfl. -/

namespace Sys2Proof.Machine

@[simp] theorem State.withPending_pending (s : State) (x : List Instr) : (s.withPending x).pending = x := rfl
@[simp] theorem State.withPending_steps (s : State) (x : List Instr) : (s.withPending x).steps = s.steps := rfl
@[simp] theorem State.withPending_inReset (s : State) (x : List Instr) : (s.withPending x).inReset = s.inReset := rfl
@[simp] theorem State.withPending_clock (s : State) (x : List Instr) : (s.withPending x).clock = s.clock := rfl
@[simp] theorem State.withPending_oa (s : State) (x : List Instr) : (s.withPending x).oa = s.oa := rfl
@[simp] theorem State.withPending_ma (s : State) (x : List Instr) : (s.withPending x).ma = s.ma := rfl
@[simp] theorem State.withPending_rif (s : State) (x : List Instr) : (s.withPending x).rif = s.rif := rfl
@[simp] theorem State.withPending_mga (s : State) (x : List Instr) : (s.withPending x).mga = s.mga := rfl
@[simp] theorem State.withPending_moe (s : State) (x : List Instr) : (s.withPending x).moe = s.moe := rfl
@[simp] theorem State.withPending_env (s : State) (x : List Instr) : (s.withPending x).env = s.env := rfl
@[simp] theorem State.withPending_brs (s : State) (x : List Instr) : (s.withPending x).brs = s.brs := rfl
@[simp] theorem State.withPending_test (s : State) (x : List Instr) : (s.withPending x).test = s.test := rfl
@[simp] theorem State.withPending_hlc (s : State) (x : List Instr) : (s.withPending x).hlc = s.hlc := rfl
@[simp] theorem State.withPending_dru (s : State) (x : List Instr) : (s.withPending x).dru = s.dru := rfl
@[simp] theorem State.withPending_adu (s : State) (x : List Instr) : (s.withPending x).adu = s.adu := rfl
@[simp] theorem State.withPending_rpu (s : State) (x : List Instr) : (s.withPending x).rpu = s.rpu := rfl
@[simp] theorem State.withRif_pending (s : State) (x : Rif) : (s.withRif x).pending = s.pending := rfl
@[simp] theorem State.withRif_steps (s : State) (x : Rif) : (s.withRif x).steps = s.steps := rfl
@[simp] theorem State.withRif_inReset (s : State) (x : Rif) : (s.withRif x).inReset = s.inReset := rfl
@[simp] theorem State.withRif_clock (s : State) (x : Rif) : (s.withRif x).clock = s.clock := rfl
@[simp] theorem State.withRif_oa (s : State) (x : Rif) : (s.withRif x).oa = s.oa := rfl
@[simp] theorem State.withRif_ma (s : State) (x : Rif) : (s.withRif x).ma = s.ma := rfl
@[simp] theorem State.withRif_rif (s : State) (x : Rif) : (s.withRif x).rif = x := rfl
@[simp] theorem State.withRif_mga (s : State) (x : Rif) : (s.withRif x).mga = s.mga := rfl
@[simp] theorem State.withRif_moe (s : State) (x : Rif) : (s.withRif x).moe = s.moe := rfl
@[simp] theorem State.withRif_env (s : State) (x : Rif) : (s.withRif x).env = s.env := rfl
@[simp] theorem State.withRif_brs (s : State) (x : Rif) : (s.withRif x).brs = s.brs := rfl
@[simp] theorem State.withRif_test (s : State) (x : Rif) : (s.withRif x).test = s.test := rfl
@[simp] theorem State.withRif_hlc (s : State) (x : Rif) : (s.withRif x).hlc = s.hlc := rfl
@[simp] theorem State.withRif_dru (s : State) (x : Rif) : (s.withRif x).dru = s.dru := rfl
@[simp] theorem State.withRif_adu (s : State) (x : Rif) : (s.withRif x).adu = s.adu := rfl
@[simp] theorem State.withRif_rpu (s : State) (x : Rif) : (s.withRif x).rpu = s.rpu := rfl
@[simp] theorem State.withMga_pending (s : State) (x : Mga) : (s.withMga x).pending = s.pending := rfl
@[simp] theorem State.withMga_steps (s : State) (x : Mga) : (s.withMga x).steps = s.steps := rfl
@[simp] theorem State.withMga_inReset (s : State) (x : Mga) : (s.withMga x).inReset = s.inReset := rfl
@[simp] theorem State.withMga_clock (s : State) (x : Mga) : (s.withMga x).clock = s.clock := rfl
@[simp] theorem State.withMga_oa (s : State) (x : Mga) : (s.withMga x).oa = s.oa := rfl
@[simp] theorem State.withMga_ma (s : State) (x : Mga) : (s.withMga x).ma = s.ma := rfl
@[simp] theorem State.withMga_rif (s : State) (x : Mga) : (s.withMga x).rif = s.rif := rfl
@[simp] theorem State.withMga_mga (s : State) (x : Mga) : (s.withMga x).mga = x := rfl
@[simp] theorem State.withMga_moe (s : State) (x : Mga) : (s.withMga x).moe = s.moe := rfl
@[simp] theorem State.withMga_env (s : State) (x : Mga) : (s.withMga x).env = s.env := rfl
@[simp] theorem State.withMga_brs (s : State) (x : Mga) : (s.withMga x).brs = s.brs := rfl
@[simp] theorem State.withMga_test (s : State) (x : Mga) : (s.withMga x).test = s.test := rfl
@[simp] theorem State.withMga_hlc (s : State) (x : Mga) : (s.withMga x).hlc = s.hlc := rfl
@[simp] theorem State.withMga_dru (s : State) (x : Mga) : (s.withMga x).dru = s.dru := rfl
@[simp] theorem State.withMga_adu (s : State) (x : Mga) : (s.withMga x).adu = s.adu := rfl
@[simp] theorem State.withMga_rpu (s : State) (x : Mga) : (s.withMga x).rpu = s.rpu := rfl
@[simp] theorem State.withMoe_pending (s : State) (x : Moe) : (s.withMoe x).pending = s.pending := rfl
@[simp] theorem State.withMoe_steps (s : State) (x : Moe) : (s.withMoe x).steps = s.steps := rfl
@[simp] theorem State.withMoe_inReset (s : State) (x : Moe) : (s.withMoe x).inReset = s.inReset := rfl
@[simp] theorem State.withMoe_clock (s : State) (x : Moe) : (s.withMoe x).clock = s.clock := rfl
@[simp] theorem State.withMoe_oa (s : State) (x : Moe) : (s.withMoe x).oa = s.oa := rfl
@[simp] theorem State.withMoe_ma (s : State) (x : Moe) : (s.withMoe x).ma = s.ma := rfl
@[simp] theorem State.withMoe_rif (s : State) (x : Moe) : (s.withMoe x).rif = s.rif := rfl
@[simp] theorem State.withMoe_mga (s : State) (x : Moe) : (s.withMoe x).mga = s.mga := rfl
@[simp] theorem State.withMoe_moe (s : State) (x : Moe) : (s.withMoe x).moe = x := rfl
@[simp] theorem State.withMoe_env (s : State) (x : Moe) : (s.withMoe x).env = s.env := rfl
@[simp] theorem State.withMoe_brs (s : State) (x : Moe) : (s.withMoe x).brs = s.brs := rfl
@[simp] theorem State.withMoe_test (s : State) (x : Moe) : (s.withMoe x).test = s.test := rfl
@[simp] theorem State.withMoe_hlc (s : State) (x : Moe) : (s.withMoe x).hlc = s.hlc := rfl
@[simp] theorem State.withMoe_dru (s : State) (x : Moe) : (s.withMoe x).dru = s.dru := rfl
@[simp] theorem State.withMoe_adu (s : State) (x : Moe) : (s.withMoe x).adu = s.adu := rfl
@[simp] theorem State.withMoe_rpu (s : State) (x : Moe) : (s.withMoe x).rpu = s.rpu := rfl
@[simp] theorem State.withEnv_pending (s : State) (x : Env) : (s.withEnv x).pending = s.pending := rfl
@[simp] theorem State.withEnv_steps (s : State) (x : Env) : (s.withEnv x).steps = s.steps := rfl
@[simp] theorem State.withEnv_inReset (s : State) (x : Env) : (s.withEnv x).inReset = s.inReset := rfl
@[simp] theorem State.withEnv_clock (s : State) (x : Env) : (s.withEnv x).clock = s.clock := rfl
@[simp] theorem State.withEnv_oa (s : State) (x : Env) : (s.withEnv x).oa = s.oa := rfl
@[simp] theorem State.withEnv_ma (s : State) (x : Env) : (s.withEnv x).ma = s.ma := rfl
@[simp] theorem State.withEnv_rif (s : State) (x : Env) : (s.withEnv x).rif = s.rif := rfl
@[simp] theorem State.withEnv_mga (s : State) (x : Env) : (s.withEnv x).mga = s.mga := rfl
@[simp] theorem State.withEnv_moe (s : State) (x : Env) : (s.withEnv x).moe = s.moe := rfl
@[simp] theorem State.withEnv_env (s : State) (x : Env) : (s.withEnv x).env = x := rfl
@[simp] theorem State.withEnv_brs (s : State) (x : Env) : (s.withEnv x).brs = s.brs := rfl
@[simp] theorem State.withEnv_test (s : State) (x : Env) : (s.withEnv x).test = s.test := rfl
@[simp] theorem State.withEnv_hlc (s : State) (x : Env) : (s.withEnv x).hlc = s.hlc := rfl
@[simp] theorem State.withEnv_dru (s : State) (x : Env) : (s.withEnv x).dru = s.dru := rfl
@[simp] theorem State.withEnv_adu (s : State) (x : Env) : (s.withEnv x).adu = s.adu := rfl
@[simp] theorem State.withEnv_rpu (s : State) (x : Env) : (s.withEnv x).rpu = s.rpu := rfl
@[simp] theorem State.withBrs_pending (s : State) (x : Brs) : (s.withBrs x).pending = s.pending := rfl
@[simp] theorem State.withBrs_steps (s : State) (x : Brs) : (s.withBrs x).steps = s.steps := rfl
@[simp] theorem State.withBrs_inReset (s : State) (x : Brs) : (s.withBrs x).inReset = s.inReset := rfl
@[simp] theorem State.withBrs_clock (s : State) (x : Brs) : (s.withBrs x).clock = s.clock := rfl
@[simp] theorem State.withBrs_oa (s : State) (x : Brs) : (s.withBrs x).oa = s.oa := rfl
@[simp] theorem State.withBrs_ma (s : State) (x : Brs) : (s.withBrs x).ma = s.ma := rfl
@[simp] theorem State.withBrs_rif (s : State) (x : Brs) : (s.withBrs x).rif = s.rif := rfl
@[simp] theorem State.withBrs_mga (s : State) (x : Brs) : (s.withBrs x).mga = s.mga := rfl
@[simp] theorem State.withBrs_moe (s : State) (x : Brs) : (s.withBrs x).moe = s.moe := rfl
@[simp] theorem State.withBrs_env (s : State) (x : Brs) : (s.withBrs x).env = s.env := rfl
@[simp] theorem State.withBrs_brs (s : State) (x : Brs) : (s.withBrs x).brs = x := rfl
@[simp] theorem State.withBrs_test (s : State) (x : Brs) : (s.withBrs x).test = s.test := rfl
@[simp] theorem State.withBrs_hlc (s : State) (x : Brs) : (s.withBrs x).hlc = s.hlc := rfl
@[simp] theorem State.withBrs_dru (s : State) (x : Brs) : (s.withBrs x).dru = s.dru := rfl
@[simp] theorem State.withBrs_adu (s : State) (x : Brs) : (s.withBrs x).adu = s.adu := rfl
@[simp] theorem State.withBrs_rpu (s : State) (x : Brs) : (s.withBrs x).rpu = s.rpu := rfl
@[simp] theorem State.withTest_pending (s : State) (x : BrakeTest) : (s.withTest x).pending = s.pending := rfl
@[simp] theorem State.withTest_steps (s : State) (x : BrakeTest) : (s.withTest x).steps = s.steps := rfl
@[simp] theorem State.withTest_inReset (s : State) (x : BrakeTest) : (s.withTest x).inReset = s.inReset := rfl
@[simp] theorem State.withTest_clock (s : State) (x : BrakeTest) : (s.withTest x).clock = s.clock := rfl
@[simp] theorem State.withTest_oa (s : State) (x : BrakeTest) : (s.withTest x).oa = s.oa := rfl
@[simp] theorem State.withTest_ma (s : State) (x : BrakeTest) : (s.withTest x).ma = s.ma := rfl
@[simp] theorem State.withTest_rif (s : State) (x : BrakeTest) : (s.withTest x).rif = s.rif := rfl
@[simp] theorem State.withTest_mga (s : State) (x : BrakeTest) : (s.withTest x).mga = s.mga := rfl
@[simp] theorem State.withTest_moe (s : State) (x : BrakeTest) : (s.withTest x).moe = s.moe := rfl
@[simp] theorem State.withTest_env (s : State) (x : BrakeTest) : (s.withTest x).env = s.env := rfl
@[simp] theorem State.withTest_brs (s : State) (x : BrakeTest) : (s.withTest x).brs = s.brs := rfl
@[simp] theorem State.withTest_test (s : State) (x : BrakeTest) : (s.withTest x).test = x := rfl
@[simp] theorem State.withTest_hlc (s : State) (x : BrakeTest) : (s.withTest x).hlc = s.hlc := rfl
@[simp] theorem State.withTest_dru (s : State) (x : BrakeTest) : (s.withTest x).dru = s.dru := rfl
@[simp] theorem State.withTest_adu (s : State) (x : BrakeTest) : (s.withTest x).adu = s.adu := rfl
@[simp] theorem State.withTest_rpu (s : State) (x : BrakeTest) : (s.withTest x).rpu = s.rpu := rfl
@[simp] theorem State.withHlc_pending (s : State) (x : Hlc) : (s.withHlc x).pending = s.pending := rfl
@[simp] theorem State.withHlc_steps (s : State) (x : Hlc) : (s.withHlc x).steps = s.steps := rfl
@[simp] theorem State.withHlc_inReset (s : State) (x : Hlc) : (s.withHlc x).inReset = s.inReset := rfl
@[simp] theorem State.withHlc_clock (s : State) (x : Hlc) : (s.withHlc x).clock = s.clock := rfl
@[simp] theorem State.withHlc_oa (s : State) (x : Hlc) : (s.withHlc x).oa = s.oa := rfl
@[simp] theorem State.withHlc_ma (s : State) (x : Hlc) : (s.withHlc x).ma = s.ma := rfl
@[simp] theorem State.withHlc_rif (s : State) (x : Hlc) : (s.withHlc x).rif = s.rif := rfl
@[simp] theorem State.withHlc_mga (s : State) (x : Hlc) : (s.withHlc x).mga = s.mga := rfl
@[simp] theorem State.withHlc_moe (s : State) (x : Hlc) : (s.withHlc x).moe = s.moe := rfl
@[simp] theorem State.withHlc_env (s : State) (x : Hlc) : (s.withHlc x).env = s.env := rfl
@[simp] theorem State.withHlc_brs (s : State) (x : Hlc) : (s.withHlc x).brs = s.brs := rfl
@[simp] theorem State.withHlc_test (s : State) (x : Hlc) : (s.withHlc x).test = s.test := rfl
@[simp] theorem State.withHlc_hlc (s : State) (x : Hlc) : (s.withHlc x).hlc = x := rfl
@[simp] theorem State.withHlc_dru (s : State) (x : Hlc) : (s.withHlc x).dru = s.dru := rfl
@[simp] theorem State.withHlc_adu (s : State) (x : Hlc) : (s.withHlc x).adu = s.adu := rfl
@[simp] theorem State.withHlc_rpu (s : State) (x : Hlc) : (s.withHlc x).rpu = s.rpu := rfl
@[simp] theorem State.withDru_pending (s : State) (x : Dru) : (s.withDru x).pending = s.pending := rfl
@[simp] theorem State.withDru_steps (s : State) (x : Dru) : (s.withDru x).steps = s.steps := rfl
@[simp] theorem State.withDru_inReset (s : State) (x : Dru) : (s.withDru x).inReset = s.inReset := rfl
@[simp] theorem State.withDru_clock (s : State) (x : Dru) : (s.withDru x).clock = s.clock := rfl
@[simp] theorem State.withDru_oa (s : State) (x : Dru) : (s.withDru x).oa = s.oa := rfl
@[simp] theorem State.withDru_ma (s : State) (x : Dru) : (s.withDru x).ma = s.ma := rfl
@[simp] theorem State.withDru_rif (s : State) (x : Dru) : (s.withDru x).rif = s.rif := rfl
@[simp] theorem State.withDru_mga (s : State) (x : Dru) : (s.withDru x).mga = s.mga := rfl
@[simp] theorem State.withDru_moe (s : State) (x : Dru) : (s.withDru x).moe = s.moe := rfl
@[simp] theorem State.withDru_env (s : State) (x : Dru) : (s.withDru x).env = s.env := rfl
@[simp] theorem State.withDru_brs (s : State) (x : Dru) : (s.withDru x).brs = s.brs := rfl
@[simp] theorem State.withDru_test (s : State) (x : Dru) : (s.withDru x).test = s.test := rfl
@[simp] theorem State.withDru_hlc (s : State) (x : Dru) : (s.withDru x).hlc = s.hlc := rfl
@[simp] theorem State.withDru_dru (s : State) (x : Dru) : (s.withDru x).dru = x := rfl
@[simp] theorem State.withDru_adu (s : State) (x : Dru) : (s.withDru x).adu = s.adu := rfl
@[simp] theorem State.withDru_rpu (s : State) (x : Dru) : (s.withDru x).rpu = s.rpu := rfl
@[simp] theorem State.withAdu_pending (s : State) (x : Adu) : (s.withAdu x).pending = s.pending := rfl
@[simp] theorem State.withAdu_steps (s : State) (x : Adu) : (s.withAdu x).steps = s.steps := rfl
@[simp] theorem State.withAdu_inReset (s : State) (x : Adu) : (s.withAdu x).inReset = s.inReset := rfl
@[simp] theorem State.withAdu_clock (s : State) (x : Adu) : (s.withAdu x).clock = s.clock := rfl
@[simp] theorem State.withAdu_oa (s : State) (x : Adu) : (s.withAdu x).oa = s.oa := rfl
@[simp] theorem State.withAdu_ma (s : State) (x : Adu) : (s.withAdu x).ma = s.ma := rfl
@[simp] theorem State.withAdu_rif (s : State) (x : Adu) : (s.withAdu x).rif = s.rif := rfl
@[simp] theorem State.withAdu_mga (s : State) (x : Adu) : (s.withAdu x).mga = s.mga := rfl
@[simp] theorem State.withAdu_moe (s : State) (x : Adu) : (s.withAdu x).moe = s.moe := rfl
@[simp] theorem State.withAdu_env (s : State) (x : Adu) : (s.withAdu x).env = s.env := rfl
@[simp] theorem State.withAdu_brs (s : State) (x : Adu) : (s.withAdu x).brs = s.brs := rfl
@[simp] theorem State.withAdu_test (s : State) (x : Adu) : (s.withAdu x).test = s.test := rfl
@[simp] theorem State.withAdu_hlc (s : State) (x : Adu) : (s.withAdu x).hlc = s.hlc := rfl
@[simp] theorem State.withAdu_dru (s : State) (x : Adu) : (s.withAdu x).dru = s.dru := rfl
@[simp] theorem State.withAdu_adu (s : State) (x : Adu) : (s.withAdu x).adu = x := rfl
@[simp] theorem State.withAdu_rpu (s : State) (x : Adu) : (s.withAdu x).rpu = s.rpu := rfl
@[simp] theorem State.withRpu_pending (s : State) (x : Rpu) : (s.withRpu x).pending = s.pending := rfl
@[simp] theorem State.withRpu_steps (s : State) (x : Rpu) : (s.withRpu x).steps = s.steps := rfl
@[simp] theorem State.withRpu_inReset (s : State) (x : Rpu) : (s.withRpu x).inReset = s.inReset := rfl
@[simp] theorem State.withRpu_clock (s : State) (x : Rpu) : (s.withRpu x).clock = s.clock := rfl
@[simp] theorem State.withRpu_oa (s : State) (x : Rpu) : (s.withRpu x).oa = s.oa := rfl
@[simp] theorem State.withRpu_ma (s : State) (x : Rpu) : (s.withRpu x).ma = s.ma := rfl
@[simp] theorem State.withRpu_rif (s : State) (x : Rpu) : (s.withRpu x).rif = s.rif := rfl
@[simp] theorem State.withRpu_mga (s : State) (x : Rpu) : (s.withRpu x).mga = s.mga := rfl
@[simp] theorem State.withRpu_moe (s : State) (x : Rpu) : (s.withRpu x).moe = s.moe := rfl
@[simp] theorem State.withRpu_env (s : State) (x : Rpu) : (s.withRpu x).env = s.env := rfl
@[simp] theorem State.withRpu_brs (s : State) (x : Rpu) : (s.withRpu x).brs = s.brs := rfl
@[simp] theorem State.withRpu_test (s : State) (x : Rpu) : (s.withRpu x).test = s.test := rfl
@[simp] theorem State.withRpu_hlc (s : State) (x : Rpu) : (s.withRpu x).hlc = s.hlc := rfl
@[simp] theorem State.withRpu_dru (s : State) (x : Rpu) : (s.withRpu x).dru = s.dru := rfl
@[simp] theorem State.withRpu_adu (s : State) (x : Rpu) : (s.withRpu x).adu = s.adu := rfl
@[simp] theorem State.withRpu_rpu (s : State) (x : Rpu) : (s.withRpu x).rpu = x := rfl

end Sys2Proof.Machine
end

