-- ==== Sys2Proof/Laws/Frame.lean ====
section
/-! SUPPORT. What the operations up to the door records leave alone: one lemma for each. -/

namespace Sys2Proof.Machine

@[simp] theorem countRing_frame (c : RingCounter) (s : State) :
    (countRing c s).pending = s.pending ∧ (countRing c s).steps = s.steps ∧
    (countRing c s).inReset = s.inReset ∧ (countRing c s).clock = s.clock ∧ (countRing c s).oa = s.oa ∧
    (countRing c s).ma = s.ma ∧ (countRing c s).mga = s.mga ∧ (countRing c s).moe = s.moe ∧
    (countRing c s).env = s.env ∧ (countRing c s).brs = s.brs ∧ (countRing c s).test = s.test ∧
    (countRing c s).hlc = s.hlc ∧ (countRing c s).dru = s.dru ∧ (countRing c s).adu = s.adu ∧
    (countRing c s).rpu = s.rpu := by
  simp [countRing]

@[simp] theorem countMotion_frame (c : MotionCounter) (s : State) :
    (countMotion c s).pending = s.pending ∧ (countMotion c s).steps = s.steps ∧
    (countMotion c s).inReset = s.inReset ∧ (countMotion c s).clock = s.clock ∧ (countMotion c s).oa = s.oa ∧
    (countMotion c s).ma = s.ma ∧ (countMotion c s).rif = s.rif ∧ (countMotion c s).mga = s.mga ∧
    (countMotion c s).env = s.env ∧ (countMotion c s).brs = s.brs ∧ (countMotion c s).test = s.test ∧
    (countMotion c s).hlc = s.hlc ∧ (countMotion c s).dru = s.dru ∧ (countMotion c s).adu = s.adu ∧
    (countMotion c s).rpu = s.rpu := by
  simp [countMotion]

@[simp] theorem countAdu_frame (c : AduCounter) (s : State) :
    (countAdu c s).pending = s.pending ∧ (countAdu c s).steps = s.steps ∧ (countAdu c s).inReset = s.inReset ∧
    (countAdu c s).clock = s.clock ∧ (countAdu c s).oa = s.oa ∧ (countAdu c s).ma = s.ma ∧
    (countAdu c s).rif = s.rif ∧ (countAdu c s).mga = s.mga ∧ (countAdu c s).moe = s.moe ∧
    (countAdu c s).env = s.env ∧ (countAdu c s).brs = s.brs ∧ (countAdu c s).test = s.test ∧
    (countAdu c s).hlc = s.hlc ∧ (countAdu c s).dru = s.dru ∧ (countAdu c s).rpu = s.rpu := by
  simp [countAdu]

@[simp] theorem pushFifo_frame (f : Frame) (note : FifoNote) (s : State) :
    (pushFifo f note s).pending = s.pending ∧ (pushFifo f note s).steps = s.steps ∧
    (pushFifo f note s).inReset = s.inReset ∧ (pushFifo f note s).clock = s.clock ∧
    (pushFifo f note s).oa = s.oa ∧ (pushFifo f note s).ma = s.ma ∧ (pushFifo f note s).mga = s.mga ∧
    (pushFifo f note s).moe = s.moe ∧ (pushFifo f note s).env = s.env ∧ (pushFifo f note s).brs = s.brs ∧
    (pushFifo f note s).test = s.test ∧ (pushFifo f note s).hlc = s.hlc ∧ (pushFifo f note s).dru = s.dru ∧
    (pushFifo f note s).adu = s.adu ∧ (pushFifo f note s).rpu = s.rpu := by
  simp [pushFifo]

@[simp] theorem placeForce_frame (s : State) :
    (placeForce s).pending = s.pending ∧ (placeForce s).steps = s.steps ∧ (placeForce s).inReset = s.inReset ∧
    (placeForce s).clock = s.clock ∧ (placeForce s).oa = s.oa ∧ (placeForce s).ma = s.ma ∧
    (placeForce s).mga = s.mga ∧ (placeForce s).moe = s.moe ∧ (placeForce s).env = s.env ∧
    (placeForce s).brs = s.brs ∧ (placeForce s).test = s.test ∧ (placeForce s).hlc = s.hlc ∧
    (placeForce s).dru = s.dru ∧ (placeForce s).adu = s.adu ∧ (placeForce s).rpu = s.rpu := by
  simp [placeForce]

@[simp] theorem placeDoor_frame (car : Car) (side : Side) (action : DoorAction) (s : State) :
    (placeDoor car side action s).pending = s.pending ∧ (placeDoor car side action s).steps = s.steps ∧
    (placeDoor car side action s).inReset = s.inReset ∧ (placeDoor car side action s).clock = s.clock ∧
    (placeDoor car side action s).oa = s.oa ∧ (placeDoor car side action s).ma = s.ma ∧
    (placeDoor car side action s).mga = s.mga ∧ (placeDoor car side action s).moe = s.moe ∧
    (placeDoor car side action s).env = s.env ∧ (placeDoor car side action s).brs = s.brs ∧
    (placeDoor car side action s).test = s.test ∧ (placeDoor car side action s).hlc = s.hlc ∧
    (placeDoor car side action s).dru = s.dru ∧ (placeDoor car side action s).adu = s.adu ∧
    (placeDoor car side action s).rpu = s.rpu := by
  simp [placeDoor]

@[simp] theorem placeReply_frame (req : Frame) (kind : Byte) (payload : List Byte) (s : State) :
    (placeReply req kind payload s).pending = s.pending ∧ (placeReply req kind payload s).steps = s.steps ∧
    (placeReply req kind payload s).inReset = s.inReset ∧ (placeReply req kind payload s).clock = s.clock ∧
    (placeReply req kind payload s).oa = s.oa ∧ (placeReply req kind payload s).ma = s.ma ∧
    (placeReply req kind payload s).mga = s.mga ∧ (placeReply req kind payload s).moe = s.moe ∧
    (placeReply req kind payload s).env = s.env ∧ (placeReply req kind payload s).brs = s.brs ∧
    (placeReply req kind payload s).test = s.test ∧ (placeReply req kind payload s).hlc = s.hlc ∧
    (placeReply req kind payload s).dru = s.dru ∧ (placeReply req kind payload s).adu = s.adu ∧
    (placeReply req kind payload s).rpu = s.rpu := by
  simp [placeReply]

@[simp] theorem placeReport_frame (express : Bool) (payload : List Byte) (s : State) :
    (placeReport express payload s).pending = s.pending ∧ (placeReport express payload s).steps = s.steps ∧
    (placeReport express payload s).inReset = s.inReset ∧ (placeReport express payload s).clock = s.clock ∧
    (placeReport express payload s).oa = s.oa ∧ (placeReport express payload s).ma = s.ma ∧
    (placeReport express payload s).mga = s.mga ∧ (placeReport express payload s).moe = s.moe ∧
    (placeReport express payload s).env = s.env ∧ (placeReport express payload s).brs = s.brs ∧
    (placeReport express payload s).test = s.test ∧ (placeReport express payload s).hlc = s.hlc ∧
    (placeReport express payload s).dru = s.dru ∧ (placeReport express payload s).adu = s.adu ∧
    (placeReport express payload s).rpu = s.rpu := by
  simp [placeReport]

@[simp] theorem placeBeacon_frame (payload : List Byte) (s : State) :
    (placeBeacon payload s).pending = s.pending ∧ (placeBeacon payload s).steps = s.steps ∧
    (placeBeacon payload s).inReset = s.inReset ∧ (placeBeacon payload s).clock = s.clock ∧
    (placeBeacon payload s).oa = s.oa ∧ (placeBeacon payload s).ma = s.ma ∧
    (placeBeacon payload s).mga = s.mga ∧ (placeBeacon payload s).moe = s.moe ∧
    (placeBeacon payload s).env = s.env ∧ (placeBeacon payload s).brs = s.brs ∧
    (placeBeacon payload s).test = s.test ∧ (placeBeacon payload s).hlc = s.hlc ∧
    (placeBeacon payload s).dru = s.dru ∧ (placeBeacon payload s).adu = s.adu ∧
    (placeBeacon payload s).rpu = s.rpu := by
  simp [placeBeacon]

@[simp] theorem placeKind_frame (k : Fin 28) (s : State) :
    (placeKind k s).pending = s.pending ∧ (placeKind k s).steps = s.steps ∧
    (placeKind k s).inReset = s.inReset ∧ (placeKind k s).clock = s.clock ∧ (placeKind k s).oa = s.oa ∧
    (placeKind k s).ma = s.ma ∧ (placeKind k s).mga = s.mga ∧ (placeKind k s).moe = s.moe ∧
    (placeKind k s).env = s.env ∧ (placeKind k s).brs = s.brs ∧ (placeKind k s).test = s.test ∧
    (placeKind k s).hlc = s.hlc ∧ (placeKind k s).dru = s.dru ∧ (placeKind k s).adu = s.adu := by
  unfold placeKind
  split <;> simp

/-- A selection changes the Ring Interface and the Report Unit alone. -/
@[simp] theorem selectUpTo_frame (n : Nat) (s : State) :
    (selectUpTo n s).pending = s.pending ∧ (selectUpTo n s).steps = s.steps ∧
    (selectUpTo n s).inReset = s.inReset ∧ (selectUpTo n s).clock = s.clock ∧ (selectUpTo n s).oa = s.oa ∧
    (selectUpTo n s).ma = s.ma ∧ (selectUpTo n s).mga = s.mga ∧ (selectUpTo n s).moe = s.moe ∧
    (selectUpTo n s).env = s.env ∧ (selectUpTo n s).brs = s.brs ∧ (selectUpTo n s).test = s.test ∧
    (selectUpTo n s).hlc = s.hlc ∧ (selectUpTo n s).dru = s.dru ∧ (selectUpTo n s).adu = s.adu := by
  induction n generalizing s with
  | zero => simp [selectUpTo]
  | succ n ih =>
    unfold selectUpTo
    split
    · split
      · simp [ih]
      · simp
    · simp

@[simp] theorem selectReports_frame (s : State) :
    (selectReports s).pending = s.pending ∧ (selectReports s).steps = s.steps ∧
    (selectReports s).inReset = s.inReset ∧ (selectReports s).clock = s.clock ∧ (selectReports s).oa = s.oa ∧
    (selectReports s).ma = s.ma ∧ (selectReports s).mga = s.mga ∧ (selectReports s).moe = s.moe ∧
    (selectReports s).env = s.env ∧ (selectReports s).brs = s.brs ∧ (selectReports s).test = s.test ∧
    (selectReports s).hlc = s.hlc ∧ (selectReports s).dru = s.dru ∧ (selectReports s).adu = s.adu := by
  unfold selectReports
  split <;> simp

@[simp] theorem raise_frame (k : EventKind) (detail : BitVec 32) (s : State) :
    (raise k detail s).pending = s.pending ∧ (raise k detail s).steps = s.steps ∧
    (raise k detail s).inReset = s.inReset ∧ (raise k detail s).clock = s.clock ∧ (raise k detail s).oa = s.oa ∧
    (raise k detail s).ma = s.ma ∧ (raise k detail s).mga = s.mga ∧ (raise k detail s).moe = s.moe ∧
    (raise k detail s).env = s.env ∧ (raise k detail s).brs = s.brs ∧ (raise k detail s).test = s.test ∧
    (raise k detail s).hlc = s.hlc ∧ (raise k detail s).dru = s.dru ∧ (raise k detail s).adu = s.adu := by
  simp only [raise]
  (repeat' split) <;> simp

@[simp] theorem applyReportLevel_frame (s : State) :
    (applyReportLevel s).pending = s.pending ∧ (applyReportLevel s).steps = s.steps ∧
    (applyReportLevel s).inReset = s.inReset ∧ (applyReportLevel s).clock = s.clock ∧
    (applyReportLevel s).oa = s.oa ∧ (applyReportLevel s).ma = s.ma ∧ (applyReportLevel s).mga = s.mga ∧
    (applyReportLevel s).moe = s.moe ∧ (applyReportLevel s).env = s.env ∧ (applyReportLevel s).brs = s.brs ∧
    (applyReportLevel s).test = s.test ∧ (applyReportLevel s).hlc = s.hlc ∧ (applyReportLevel s).dru = s.dru ∧
    (applyReportLevel s).adu = s.adu := by
  simp [applyReportLevel]

@[simp] theorem setBeaconTimer_frame (l : Line) (s : State) :
    (setBeaconTimer l s).pending = s.pending ∧ (setBeaconTimer l s).steps = s.steps ∧
    (setBeaconTimer l s).inReset = s.inReset ∧ (setBeaconTimer l s).clock = s.clock ∧
    (setBeaconTimer l s).oa = s.oa ∧ (setBeaconTimer l s).ma = s.ma ∧ (setBeaconTimer l s).rif = s.rif ∧
    (setBeaconTimer l s).mga = s.mga ∧ (setBeaconTimer l s).moe = s.moe ∧ (setBeaconTimer l s).env = s.env ∧
    (setBeaconTimer l s).brs = s.brs ∧ (setBeaconTimer l s).test = s.test ∧ (setBeaconTimer l s).hlc = s.hlc ∧
    (setBeaconTimer l s).dru = s.dru ∧ (setBeaconTimer l s).adu = s.adu := by
  simp [setBeaconTimer]

@[simp] theorem beaconExpiry_frame (s : State) :
    (beaconExpiry s).pending = s.pending ∧ (beaconExpiry s).steps = s.steps ∧
    (beaconExpiry s).inReset = s.inReset ∧ (beaconExpiry s).clock = s.clock ∧ (beaconExpiry s).oa = s.oa ∧
    (beaconExpiry s).ma = s.ma ∧ (beaconExpiry s).mga = s.mga ∧ (beaconExpiry s).moe = s.moe ∧
    (beaconExpiry s).env = s.env ∧ (beaconExpiry s).brs = s.brs ∧ (beaconExpiry s).test = s.test ∧
    (beaconExpiry s).hlc = s.hlc ∧ (beaconExpiry s).dru = s.dru ∧ (beaconExpiry s).adu = s.adu := by
  unfold beaconExpiry
  (repeat' split) <;> simp

@[simp] theorem recomputeThresholds_frame (s : State) :
    (recomputeThresholds s).pending = s.pending ∧ (recomputeThresholds s).steps = s.steps ∧
    (recomputeThresholds s).inReset = s.inReset ∧ (recomputeThresholds s).clock = s.clock ∧
    (recomputeThresholds s).oa = s.oa ∧ (recomputeThresholds s).ma = s.ma ∧
    (recomputeThresholds s).rif = s.rif ∧ (recomputeThresholds s).mga = s.mga ∧
    (recomputeThresholds s).moe = s.moe ∧ (recomputeThresholds s).env = s.env ∧
    (recomputeThresholds s).test = s.test ∧ (recomputeThresholds s).hlc = s.hlc ∧
    (recomputeThresholds s).dru = s.dru ∧ (recomputeThresholds s).adu = s.adu ∧
    (recomputeThresholds s).rpu = s.rpu := by
  simp [recomputeThresholds]

@[simp] theorem handOn_frame (mode : EnvMode) (e : Nat) (s : State) :
    (handOn mode e s).pending = s.pending ∧ (handOn mode e s).steps = s.steps ∧
    (handOn mode e s).inReset = s.inReset ∧ (handOn mode e s).clock = s.clock ∧ (handOn mode e s).oa = s.oa ∧
    (handOn mode e s).ma = s.ma ∧ (handOn mode e s).rif = s.rif ∧ (handOn mode e s).mga = s.mga ∧
    (handOn mode e s).moe = s.moe ∧ (handOn mode e s).test = s.test ∧ (handOn mode e s).hlc = s.hlc ∧
    (handOn mode e s).dru = s.dru ∧ (handOn mode e s).adu = s.adu ∧ (handOn mode e s).rpu = s.rpu := by
  unfold handOn
  split <;> simp

@[simp] theorem evaluateIn_frame (mode : EnvMode) (s : State) :
    (evaluateIn mode s).pending = s.pending ∧ (evaluateIn mode s).steps = s.steps ∧
    (evaluateIn mode s).inReset = s.inReset ∧ (evaluateIn mode s).clock = s.clock ∧
    (evaluateIn mode s).oa = s.oa ∧ (evaluateIn mode s).ma = s.ma ∧ (evaluateIn mode s).rif = s.rif ∧
    (evaluateIn mode s).mga = s.mga ∧ (evaluateIn mode s).moe = s.moe ∧ (evaluateIn mode s).test = s.test ∧
    (evaluateIn mode s).hlc = s.hlc ∧ (evaluateIn mode s).dru = s.dru ∧ (evaluateIn mode s).adu = s.adu ∧
    (evaluateIn mode s).rpu = s.rpu := by
  simp [evaluateIn]

@[simp] theorem envEvaluate_frame (s : State) :
    (envEvaluate s).pending = s.pending ∧ (envEvaluate s).steps = s.steps ∧
    (envEvaluate s).inReset = s.inReset ∧ (envEvaluate s).clock = s.clock ∧ (envEvaluate s).oa = s.oa ∧
    (envEvaluate s).ma = s.ma ∧ (envEvaluate s).rif = s.rif ∧ (envEvaluate s).mga = s.mga ∧
    (envEvaluate s).moe = s.moe ∧ (envEvaluate s).test = s.test ∧ (envEvaluate s).hlc = s.hlc ∧
    (envEvaluate s).dru = s.dru ∧ (envEvaluate s).adu = s.adu ∧ (envEvaluate s).rpu = s.rpu := by
  simp [envEvaluate]

@[simp] theorem envArm_frame (s : State) :
    (envArm s).pending = s.pending ∧ (envArm s).steps = s.steps ∧ (envArm s).inReset = s.inReset ∧
    (envArm s).clock = s.clock ∧ (envArm s).oa = s.oa ∧ (envArm s).ma = s.ma ∧ (envArm s).rif = s.rif ∧
    (envArm s).mga = s.mga ∧ (envArm s).moe = s.moe ∧ (envArm s).test = s.test ∧ (envArm s).hlc = s.hlc ∧
    (envArm s).dru = s.dru ∧ (envArm s).adu = s.adu ∧ (envArm s).rpu = s.rpu := by
  simp [envArm]

@[simp] theorem clearFullFlags_frame (s : State) :
    (clearFullFlags s).pending = s.pending ∧ (clearFullFlags s).steps = s.steps ∧
    (clearFullFlags s).inReset = s.inReset ∧ (clearFullFlags s).clock = s.clock ∧ (clearFullFlags s).oa = s.oa ∧
    (clearFullFlags s).ma = s.ma ∧ (clearFullFlags s).rif = s.rif ∧ (clearFullFlags s).mga = s.mga ∧
    (clearFullFlags s).moe = s.moe ∧ (clearFullFlags s).env = s.env ∧ (clearFullFlags s).brs = s.brs ∧
    (clearFullFlags s).test = s.test ∧ (clearFullFlags s).hlc = s.hlc ∧ (clearFullFlags s).dru = s.dru ∧
    (clearFullFlags s).rpu = s.rpu := by
  simp [clearFullFlags]

@[simp] theorem enterRest_frame (st : HaulState) (berth : Option Nat) (boardingOpen : Bool) (s : State) :
    (enterRest st berth boardingOpen s).pending = s.pending ∧
    (enterRest st berth boardingOpen s).steps = s.steps ∧
    (enterRest st berth boardingOpen s).inReset = s.inReset ∧
    (enterRest st berth boardingOpen s).clock = s.clock ∧ (enterRest st berth boardingOpen s).oa = s.oa ∧
    (enterRest st berth boardingOpen s).ma = s.ma ∧ (enterRest st berth boardingOpen s).rif = s.rif ∧
    (enterRest st berth boardingOpen s).mga = s.mga ∧ (enterRest st berth boardingOpen s).moe = s.moe ∧
    (enterRest st berth boardingOpen s).test = s.test ∧ (enterRest st berth boardingOpen s).dru = s.dru ∧
    (enterRest st berth boardingOpen s).rpu = s.rpu := by
  unfold enterRest
  split <;> simp

@[simp] theorem returnToOrigin_frame (s : State) :
    (returnToOrigin s).pending = s.pending ∧ (returnToOrigin s).steps = s.steps ∧
    (returnToOrigin s).inReset = s.inReset ∧ (returnToOrigin s).clock = s.clock ∧ (returnToOrigin s).oa = s.oa ∧
    (returnToOrigin s).ma = s.ma ∧ (returnToOrigin s).mga = s.mga ∧ (returnToOrigin s).moe = s.moe ∧
    (returnToOrigin s).test = s.test ∧ (returnToOrigin s).dru = s.dru ∧ (returnToOrigin s).rpu = s.rpu := by
  simp [returnToOrigin]

@[simp] theorem enterTripped_frame (s : State) :
    (enterTripped s).pending = s.pending ∧ (enterTripped s).steps = s.steps ∧
    (enterTripped s).inReset = s.inReset ∧ (enterTripped s).clock = s.clock ∧ (enterTripped s).oa = s.oa ∧
    (enterTripped s).ma = s.ma ∧ (enterTripped s).mga = s.mga ∧ (enterTripped s).moe = s.moe ∧
    (enterTripped s).test = s.test ∧ (enterTripped s).dru = s.dru ∧ (enterTripped s).rpu = s.rpu := by
  simp [enterTripped]

@[simp] theorem enterArmed_frame (target : Nat) (dir : Direction) (s : State) :
    (enterArmed target dir s).pending = s.pending ∧ (enterArmed target dir s).steps = s.steps ∧
    (enterArmed target dir s).inReset = s.inReset ∧ (enterArmed target dir s).clock = s.clock ∧
    (enterArmed target dir s).oa = s.oa ∧ (enterArmed target dir s).ma = s.ma ∧
    (enterArmed target dir s).rif = s.rif ∧ (enterArmed target dir s).mga = s.mga ∧
    (enterArmed target dir s).moe = s.moe ∧ (enterArmed target dir s).test = s.test ∧
    (enterArmed target dir s).dru = s.dru ∧ (enterArmed target dir s).adu = s.adu ∧
    (enterArmed target dir s).rpu = s.rpu := by
  simp [enterArmed]

@[simp] theorem superviseStop_frame (s : State) :
    (superviseStop s).pending = s.pending ∧ (superviseStop s).steps = s.steps ∧
    (superviseStop s).inReset = s.inReset ∧ (superviseStop s).clock = s.clock ∧ (superviseStop s).oa = s.oa ∧
    (superviseStop s).ma = s.ma ∧ (superviseStop s).rif = s.rif ∧ (superviseStop s).mga = s.mga ∧
    (superviseStop s).moe = s.moe ∧ (superviseStop s).env = s.env ∧ (superviseStop s).test = s.test ∧
    (superviseStop s).hlc = s.hlc ∧ (superviseStop s).dru = s.dru ∧ (superviseStop s).adu = s.adu ∧
    (superviseStop s).rpu = s.rpu := by
  simp [superviseStop]

@[simp] theorem enterServiceStop_frame (cause : StopCause) (s : State) :
    (enterServiceStop cause s).pending = s.pending ∧ (enterServiceStop cause s).steps = s.steps ∧
    (enterServiceStop cause s).inReset = s.inReset ∧ (enterServiceStop cause s).clock = s.clock ∧
    (enterServiceStop cause s).oa = s.oa ∧ (enterServiceStop cause s).ma = s.ma ∧
    (enterServiceStop cause s).mga = s.mga ∧ (enterServiceStop cause s).moe = s.moe ∧
    (enterServiceStop cause s).test = s.test ∧ (enterServiceStop cause s).dru = s.dru ∧
    (enterServiceStop cause s).adu = s.adu ∧ (enterServiceStop cause s).rpu = s.rpu := by
  simp [enterServiceStop]

@[simp] theorem abortService_frame (s : State) :
    (abortService s).pending = s.pending ∧ (abortService s).steps = s.steps ∧
    (abortService s).inReset = s.inReset ∧ (abortService s).clock = s.clock ∧ (abortService s).oa = s.oa ∧
    (abortService s).ma = s.ma ∧ (abortService s).mga = s.mga ∧ (abortService s).moe = s.moe ∧
    (abortService s).env = s.env ∧ (abortService s).brs = s.brs ∧ (abortService s).hlc = s.hlc ∧
    (abortService s).dru = s.dru ∧ (abortService s).adu = s.adu := by
  simp [abortService]

@[simp] theorem testOnTrip_frame (cause : TripCause) (s : State) :
    (testOnTrip cause s).pending = s.pending ∧ (testOnTrip cause s).steps = s.steps ∧
    (testOnTrip cause s).inReset = s.inReset ∧ (testOnTrip cause s).clock = s.clock ∧
    (testOnTrip cause s).oa = s.oa ∧ (testOnTrip cause s).ma = s.ma ∧ (testOnTrip cause s).mga = s.mga ∧
    (testOnTrip cause s).moe = s.moe ∧ (testOnTrip cause s).env = s.env ∧ (testOnTrip cause s).brs = s.brs ∧
    (testOnTrip cause s).hlc = s.hlc ∧ (testOnTrip cause s).dru = s.dru ∧ (testOnTrip cause s).adu = s.adu := by
  unfold testOnTrip
  (repeat' split) <;> simp

@[simp] theorem raiseTrip_frame (cause : TripCause) (first : Byte) (s : State) :
    (raiseTrip cause first s).pending = s.pending ∧ (raiseTrip cause first s).steps = s.steps ∧
    (raiseTrip cause first s).inReset = s.inReset ∧ (raiseTrip cause first s).clock = s.clock ∧
    (raiseTrip cause first s).oa = s.oa ∧ (raiseTrip cause first s).ma = s.ma ∧
    (raiseTrip cause first s).mga = s.mga ∧ (raiseTrip cause first s).moe = s.moe ∧
    (raiseTrip cause first s).env = s.env ∧ (raiseTrip cause first s).brs = s.brs ∧
    (raiseTrip cause first s).test = s.test ∧ (raiseTrip cause first s).hlc = s.hlc ∧
    (raiseTrip cause first s).dru = s.dru ∧ (raiseTrip cause first s).adu = s.adu := by
  simp [raiseTrip]

@[simp] theorem latchTrip_frame (cause : TripCause) (s : State) :
    (latchTrip cause s).pending = s.pending ∧ (latchTrip cause s).steps = s.steps ∧
    (latchTrip cause s).inReset = s.inReset ∧ (latchTrip cause s).clock = s.clock ∧
    (latchTrip cause s).oa = s.oa ∧ (latchTrip cause s).ma = s.ma ∧ (latchTrip cause s).mga = s.mga ∧
    (latchTrip cause s).moe = s.moe ∧ (latchTrip cause s).test = s.test ∧ (latchTrip cause s).dru = s.dru := by
  simp [latchTrip]

@[simp] theorem addTrip_frame (cause : TripCause) (s : State) :
    (addTrip cause s).pending = s.pending ∧ (addTrip cause s).steps = s.steps ∧
    (addTrip cause s).inReset = s.inReset ∧ (addTrip cause s).clock = s.clock ∧ (addTrip cause s).oa = s.oa ∧
    (addTrip cause s).ma = s.ma ∧ (addTrip cause s).mga = s.mga ∧ (addTrip cause s).moe = s.moe ∧
    (addTrip cause s).env = s.env ∧ (addTrip cause s).test = s.test ∧ (addTrip cause s).hlc = s.hlc ∧
    (addTrip cause s).dru = s.dru ∧ (addTrip cause s).adu = s.adu := by
  simp [addTrip]

@[simp] theorem trip_frame (cause : TripCause) (s : State) :
    (trip cause s).pending = s.pending ∧ (trip cause s).steps = s.steps ∧ (trip cause s).inReset = s.inReset ∧
    (trip cause s).clock = s.clock ∧ (trip cause s).oa = s.oa ∧ (trip cause s).ma = s.ma ∧
    (trip cause s).mga = s.mga ∧ (trip cause s).moe = s.moe ∧ (trip cause s).dru = s.dru := by
  unfold trip
  split <;> simp

@[simp] theorem raiseStop_frame (cause : StopCause) (o : DemandOutcome) (s : State) :
    (raiseStop cause o s).pending = s.pending ∧ (raiseStop cause o s).steps = s.steps ∧
    (raiseStop cause o s).inReset = s.inReset ∧ (raiseStop cause o s).clock = s.clock ∧
    (raiseStop cause o s).oa = s.oa ∧ (raiseStop cause o s).ma = s.ma ∧ (raiseStop cause o s).mga = s.mga ∧
    (raiseStop cause o s).moe = s.moe ∧ (raiseStop cause o s).env = s.env ∧ (raiseStop cause o s).brs = s.brs ∧
    (raiseStop cause o s).test = s.test ∧ (raiseStop cause o s).hlc = s.hlc ∧
    (raiseStop cause o s).dru = s.dru ∧ (raiseStop cause o s).adu = s.adu := by
  simp [raiseStop]

@[simp] theorem demand_frame (cause : StopCause) (s : State) :
    (demand cause s).pending = s.pending ∧ (demand cause s).steps = s.steps ∧
    (demand cause s).inReset = s.inReset ∧ (demand cause s).clock = s.clock ∧ (demand cause s).oa = s.oa ∧
    (demand cause s).ma = s.ma ∧ (demand cause s).mga = s.mga ∧ (demand cause s).moe = s.moe ∧
    (demand cause s).dru = s.dru := by
  simp only [demand]
  (repeat' split) <;> simp

@[simp] theorem setTier_frame (tier : Tier) (above : Bool) (s : State) :
    (setTier tier above s).pending = s.pending ∧ (setTier tier above s).steps = s.steps ∧
    (setTier tier above s).inReset = s.inReset ∧ (setTier tier above s).clock = s.clock ∧
    (setTier tier above s).oa = s.oa ∧ (setTier tier above s).ma = s.ma ∧ (setTier tier above s).rif = s.rif ∧
    (setTier tier above s).mga = s.mga ∧ (setTier tier above s).moe = s.moe ∧
    (setTier tier above s).env = s.env ∧ (setTier tier above s).test = s.test ∧
    (setTier tier above s).hlc = s.hlc ∧ (setTier tier above s).dru = s.dru ∧
    (setTier tier above s).adu = s.adu ∧ (setTier tier above s).rpu = s.rpu := by
  simp [setTier]

@[simp] theorem warn_frame (above : Bool) (s : State) :
    (warn above s).pending = s.pending ∧ (warn above s).steps = s.steps ∧ (warn above s).inReset = s.inReset ∧
    (warn above s).clock = s.clock ∧ (warn above s).oa = s.oa ∧ (warn above s).ma = s.ma ∧
    (warn above s).mga = s.mga ∧ (warn above s).moe = s.moe ∧ (warn above s).env = s.env ∧
    (warn above s).test = s.test ∧ (warn above s).hlc = s.hlc ∧ (warn above s).dru = s.dru ∧
    (warn above s).adu = s.adu := by
  unfold warn
  split <;> simp

@[simp] theorem tierCases_frame (s : State) :
    (tierCases s).pending = s.pending ∧ (tierCases s).steps = s.steps ∧ (tierCases s).inReset = s.inReset ∧
    (tierCases s).clock = s.clock ∧ (tierCases s).oa = s.oa ∧ (tierCases s).ma = s.ma ∧
    (tierCases s).mga = s.mga ∧ (tierCases s).moe = s.moe ∧ (tierCases s).dru = s.dru := by
  simp only [tierCases]
  (repeat' split) <;> simp

@[simp] theorem judgeTier_frame (s : State) :
    (judgeTier s).pending = s.pending ∧ (judgeTier s).steps = s.steps ∧ (judgeTier s).inReset = s.inReset ∧
    (judgeTier s).clock = s.clock ∧ (judgeTier s).oa = s.oa ∧ (judgeTier s).ma = s.ma ∧
    (judgeTier s).mga = s.mga ∧ (judgeTier s).moe = s.moe ∧ (judgeTier s).dru = s.dru := by
  unfold judgeTier
  split <;> simp

@[simp] theorem startLossTimer_frame (s : State) :
    (startLossTimer s).pending = s.pending ∧ (startLossTimer s).steps = s.steps ∧
    (startLossTimer s).inReset = s.inReset ∧ (startLossTimer s).clock = s.clock ∧ (startLossTimer s).oa = s.oa ∧
    (startLossTimer s).ma = s.ma ∧ (startLossTimer s).rif = s.rif ∧ (startLossTimer s).mga = s.mga ∧
    (startLossTimer s).moe = s.moe ∧ (startLossTimer s).env = s.env ∧ (startLossTimer s).test = s.test ∧
    (startLossTimer s).hlc = s.hlc ∧ (startLossTimer s).dru = s.dru ∧ (startLossTimer s).adu = s.adu ∧
    (startLossTimer s).rpu = s.rpu := by
  simp [startLossTimer]

@[simp] theorem followLoss_frame (s : State) :
    (followLoss s).pending = s.pending ∧ (followLoss s).steps = s.steps ∧ (followLoss s).inReset = s.inReset ∧
    (followLoss s).clock = s.clock ∧ (followLoss s).oa = s.oa ∧ (followLoss s).ma = s.ma ∧
    (followLoss s).rif = s.rif ∧ (followLoss s).mga = s.mga ∧ (followLoss s).moe = s.moe ∧
    (followLoss s).env = s.env ∧ (followLoss s).test = s.test ∧ (followLoss s).hlc = s.hlc ∧
    (followLoss s).dru = s.dru ∧ (followLoss s).adu = s.adu ∧ (followLoss s).rpu = s.rpu := by
  unfold followLoss
  (repeat' split) <;> simp

@[simp] theorem takeLoss_frame (s : State) :
    (takeLoss s).pending = s.pending ∧ (takeLoss s).steps = s.steps ∧ (takeLoss s).inReset = s.inReset ∧
    (takeLoss s).clock = s.clock ∧ (takeLoss s).oa = s.oa ∧ (takeLoss s).ma = s.ma ∧ (takeLoss s).mga = s.mga ∧
    (takeLoss s).moe = s.moe ∧ (takeLoss s).dru = s.dru := by
  simp only [takeLoss]
  (repeat' split) <;> simp

@[simp] theorem judgeLoss_frame (s : State) :
    (judgeLoss s).pending = s.pending ∧ (judgeLoss s).steps = s.steps ∧ (judgeLoss s).inReset = s.inReset ∧
    (judgeLoss s).clock = s.clock ∧ (judgeLoss s).oa = s.oa ∧ (judgeLoss s).ma = s.ma ∧
    (judgeLoss s).mga = s.mga ∧ (judgeLoss s).moe = s.moe ∧ (judgeLoss s).dru = s.dru := by
  unfold judgeLoss
  (repeat' split) <;> simp

@[simp] theorem applyBrake_frame (id : StageId) (s : State) :
    (applyBrake id s).pending = s.pending ∧ (applyBrake id s).steps = s.steps ∧
    (applyBrake id s).inReset = s.inReset ∧ (applyBrake id s).clock = s.clock ∧ (applyBrake id s).oa = s.oa ∧
    (applyBrake id s).ma = s.ma ∧ (applyBrake id s).mga = s.mga ∧ (applyBrake id s).moe = s.moe ∧
    (applyBrake id s).dru = s.dru := by
  unfold applyBrake
  split <;> simp

@[simp] theorem judgeTrigger_frame (id : StageId) (s : State) :
    (judgeTrigger id s).pending = s.pending ∧ (judgeTrigger id s).steps = s.steps ∧
    (judgeTrigger id s).inReset = s.inReset ∧ (judgeTrigger id s).clock = s.clock ∧
    (judgeTrigger id s).oa = s.oa ∧ (judgeTrigger id s).ma = s.ma ∧ (judgeTrigger id s).mga = s.mga ∧
    (judgeTrigger id s).moe = s.moe ∧ (judgeTrigger id s).dru = s.dru := by
  unfold judgeTrigger
  split <;> simp

@[simp] theorem endStage_frame (id : StageId) (s : State) :
    (endStage id s).pending = s.pending ∧ (endStage id s).steps = s.steps ∧
    (endStage id s).inReset = s.inReset ∧ (endStage id s).clock = s.clock ∧ (endStage id s).oa = s.oa ∧
    (endStage id s).ma = s.ma ∧ (endStage id s).mga = s.mga ∧ (endStage id s).moe = s.moe ∧
    (endStage id s).env = s.env ∧ (endStage id s).brs = s.brs ∧ (endStage id s).hlc = s.hlc ∧
    (endStage id s).dru = s.dru ∧ (endStage id s).adu = s.adu := by
  simp only [endStage]
  (repeat' split) <;> simp

@[simp] theorem judgeStopEnd_frame (id : StageId) (s : State) :
    (judgeStopEnd id s).pending = s.pending ∧ (judgeStopEnd id s).steps = s.steps ∧
    (judgeStopEnd id s).inReset = s.inReset ∧ (judgeStopEnd id s).clock = s.clock ∧
    (judgeStopEnd id s).oa = s.oa ∧ (judgeStopEnd id s).ma = s.ma ∧ (judgeStopEnd id s).mga = s.mga ∧
    (judgeStopEnd id s).moe = s.moe ∧ (judgeStopEnd id s).env = s.env ∧ (judgeStopEnd id s).brs = s.brs ∧
    (judgeStopEnd id s).hlc = s.hlc ∧ (judgeStopEnd id s).dru = s.dru ∧ (judgeStopEnd id s).adu = s.adu := by
  unfold judgeStopEnd
  split <;> simp

@[simp] theorem judgeTest_frame (s : State) :
    (judgeTest s).pending = s.pending ∧ (judgeTest s).steps = s.steps ∧ (judgeTest s).inReset = s.inReset ∧
    (judgeTest s).clock = s.clock ∧ (judgeTest s).oa = s.oa ∧ (judgeTest s).ma = s.ma ∧
    (judgeTest s).mga = s.mga ∧ (judgeTest s).moe = s.moe ∧ (judgeTest s).dru = s.dru := by
  unfold judgeTest
  split <;> simp

@[simp] theorem setDoor_frame (car : Car) (side : Side) (r : DoorRecord) (s : State) :
    (setDoor car side r s).pending = s.pending ∧ (setDoor car side r s).steps = s.steps ∧
    (setDoor car side r s).inReset = s.inReset ∧ (setDoor car side r s).clock = s.clock ∧
    (setDoor car side r s).oa = s.oa ∧ (setDoor car side r s).ma = s.ma ∧ (setDoor car side r s).rif = s.rif ∧
    (setDoor car side r s).mga = s.mga ∧ (setDoor car side r s).moe = s.moe ∧
    (setDoor car side r s).env = s.env ∧ (setDoor car side r s).brs = s.brs ∧
    (setDoor car side r s).test = s.test ∧ (setDoor car side r s).hlc = s.hlc ∧
    (setDoor car side r s).adu = s.adu ∧ (setDoor car side r s).rpu = s.rpu := by
  simp [setDoor]

@[simp] theorem settleDoor_frame (car : Car) (side : Side) (st : DoorState) (s : State) :
    (settleDoor car side st s).pending = s.pending ∧ (settleDoor car side st s).steps = s.steps ∧
    (settleDoor car side st s).inReset = s.inReset ∧ (settleDoor car side st s).clock = s.clock ∧
    (settleDoor car side st s).oa = s.oa ∧ (settleDoor car side st s).ma = s.ma ∧
    (settleDoor car side st s).rif = s.rif ∧ (settleDoor car side st s).mga = s.mga ∧
    (settleDoor car side st s).moe = s.moe ∧ (settleDoor car side st s).env = s.env ∧
    (settleDoor car side st s).brs = s.brs ∧ (settleDoor car side st s).test = s.test ∧
    (settleDoor car side st s).hlc = s.hlc ∧ (settleDoor car side st s).adu = s.adu ∧
    (settleDoor car side st s).rpu = s.rpu := by
  simp [settleDoor]

@[simp] theorem startRelease_frame (car : Car) (side : Side) (s : State) :
    (startRelease car side s).pending = s.pending ∧ (startRelease car side s).steps = s.steps ∧
    (startRelease car side s).inReset = s.inReset ∧ (startRelease car side s).clock = s.clock ∧
    (startRelease car side s).oa = s.oa ∧ (startRelease car side s).ma = s.ma ∧
    (startRelease car side s).rif = s.rif ∧ (startRelease car side s).mga = s.mga ∧
    (startRelease car side s).moe = s.moe ∧ (startRelease car side s).env = s.env ∧
    (startRelease car side s).brs = s.brs ∧ (startRelease car side s).test = s.test ∧
    (startRelease car side s).hlc = s.hlc ∧ (startRelease car side s).adu = s.adu ∧
    (startRelease car side s).rpu = s.rpu := by
  simp [startRelease]

@[simp] theorem startClosing_frame (car : Car) (side : Side) (s : State) :
    (startClosing car side s).pending = s.pending ∧ (startClosing car side s).steps = s.steps ∧
    (startClosing car side s).inReset = s.inReset ∧ (startClosing car side s).clock = s.clock ∧
    (startClosing car side s).oa = s.oa ∧ (startClosing car side s).ma = s.ma ∧
    (startClosing car side s).rif = s.rif ∧ (startClosing car side s).mga = s.mga ∧
    (startClosing car side s).moe = s.moe ∧ (startClosing car side s).env = s.env ∧
    (startClosing car side s).brs = s.brs ∧ (startClosing car side s).test = s.test ∧
    (startClosing car side s).hlc = s.hlc ∧ (startClosing car side s).adu = s.adu ∧
    (startClosing car side s).rpu = s.rpu := by
  simp [startClosing]

@[simp] theorem withdraw_frame (car : Car) (side : Side) (s : State) :
    (withdraw car side s).pending = s.pending ∧ (withdraw car side s).steps = s.steps ∧
    (withdraw car side s).inReset = s.inReset ∧ (withdraw car side s).clock = s.clock ∧
    (withdraw car side s).oa = s.oa ∧ (withdraw car side s).ma = s.ma ∧ (withdraw car side s).mga = s.mga ∧
    (withdraw car side s).moe = s.moe ∧ (withdraw car side s).env = s.env ∧ (withdraw car side s).brs = s.brs ∧
    (withdraw car side s).test = s.test ∧ (withdraw car side s).hlc = s.hlc ∧
    (withdraw car side s).adu = s.adu ∧ (withdraw car side s).rpu = s.rpu := by
  simp [withdraw]

@[simp] theorem faultDoor_frame (car : Car) (side : Side) (why : DoorFaultReason) (judgedIn : HaulState) (s : State) :
    (faultDoor car side why judgedIn s).pending = s.pending ∧
    (faultDoor car side why judgedIn s).steps = s.steps ∧
    (faultDoor car side why judgedIn s).inReset = s.inReset ∧
    (faultDoor car side why judgedIn s).clock = s.clock ∧ (faultDoor car side why judgedIn s).oa = s.oa ∧
    (faultDoor car side why judgedIn s).ma = s.ma ∧ (faultDoor car side why judgedIn s).mga = s.mga ∧
    (faultDoor car side why judgedIn s).moe = s.moe ∧ (faultDoor car side why judgedIn s).env = s.env ∧
    (faultDoor car side why judgedIn s).brs = s.brs ∧ (faultDoor car side why judgedIn s).test = s.test ∧
    (faultDoor car side why judgedIn s).hlc = s.hlc ∧ (faultDoor car side why judgedIn s).adu = s.adu := by
  simp [faultDoor]

@[simp] theorem releaseExpiry_frame (car : Car) (side : Side) (s : State) :
    (releaseExpiry car side s).pending = s.pending ∧ (releaseExpiry car side s).steps = s.steps ∧
    (releaseExpiry car side s).inReset = s.inReset ∧ (releaseExpiry car side s).clock = s.clock ∧
    (releaseExpiry car side s).oa = s.oa ∧ (releaseExpiry car side s).ma = s.ma ∧
    (releaseExpiry car side s).mga = s.mga ∧ (releaseExpiry car side s).moe = s.moe ∧
    (releaseExpiry car side s).env = s.env ∧ (releaseExpiry car side s).brs = s.brs ∧
    (releaseExpiry car side s).test = s.test ∧ (releaseExpiry car side s).hlc = s.hlc ∧
    (releaseExpiry car side s).adu = s.adu := by
  simp only [releaseExpiry]
  (repeat' split) <;> simp

@[simp] theorem closeExpiry_frame (car : Car) (side : Side) (s : State) :
    (closeExpiry car side s).pending = s.pending ∧ (closeExpiry car side s).steps = s.steps ∧
    (closeExpiry car side s).inReset = s.inReset ∧ (closeExpiry car side s).clock = s.clock ∧
    (closeExpiry car side s).oa = s.oa ∧ (closeExpiry car side s).ma = s.ma ∧
    (closeExpiry car side s).mga = s.mga ∧ (closeExpiry car side s).moe = s.moe ∧
    (closeExpiry car side s).env = s.env ∧ (closeExpiry car side s).brs = s.brs ∧
    (closeExpiry car side s).test = s.test ∧ (closeExpiry car side s).hlc = s.hlc ∧
    (closeExpiry car side s).adu = s.adu := by
  simp only [closeExpiry]
  (repeat' split) <;> simp

@[simp] theorem lapse_frame (car : Car) (s : State) :
    (lapse car s).pending = s.pending ∧ (lapse car s).steps = s.steps ∧ (lapse car s).inReset = s.inReset ∧
    (lapse car s).clock = s.clock ∧ (lapse car s).oa = s.oa ∧ (lapse car s).ma = s.ma ∧
    (lapse car s).mga = s.mga ∧ (lapse car s).moe = s.moe := by
  unfold lapse
  split <;> simp

@[simp] theorem freshnessExpiry_frame (car : Car) (s : State) :
    (freshnessExpiry car s).pending = s.pending ∧ (freshnessExpiry car s).steps = s.steps ∧
    (freshnessExpiry car s).inReset = s.inReset ∧ (freshnessExpiry car s).clock = s.clock ∧
    (freshnessExpiry car s).oa = s.oa ∧ (freshnessExpiry car s).ma = s.ma ∧
    (freshnessExpiry car s).mga = s.mga ∧ (freshnessExpiry car s).moe = s.moe := by
  unfold freshnessExpiry
  split <;> simp

@[simp] theorem setMovingOpen_frame (b : Bool) (s : State) :
    (setMovingOpen b s).pending = s.pending ∧ (setMovingOpen b s).steps = s.steps ∧
    (setMovingOpen b s).inReset = s.inReset ∧ (setMovingOpen b s).clock = s.clock ∧
    (setMovingOpen b s).oa = s.oa ∧ (setMovingOpen b s).ma = s.ma ∧ (setMovingOpen b s).rif = s.rif ∧
    (setMovingOpen b s).mga = s.mga ∧ (setMovingOpen b s).moe = s.moe ∧ (setMovingOpen b s).env = s.env ∧
    (setMovingOpen b s).brs = s.brs ∧ (setMovingOpen b s).test = s.test ∧ (setMovingOpen b s).hlc = s.hlc ∧
    (setMovingOpen b s).adu = s.adu ∧ (setMovingOpen b s).rpu = s.rpu := by
  simp [setMovingOpen]

@[simp] theorem judgeMovingOpen_frame (tripped : Bool) (s : State) :
    (judgeMovingOpen tripped s).pending = s.pending ∧ (judgeMovingOpen tripped s).steps = s.steps ∧
    (judgeMovingOpen tripped s).inReset = s.inReset ∧ (judgeMovingOpen tripped s).clock = s.clock ∧
    (judgeMovingOpen tripped s).oa = s.oa ∧ (judgeMovingOpen tripped s).ma = s.ma ∧
    (judgeMovingOpen tripped s).mga = s.mga ∧ (judgeMovingOpen tripped s).moe = s.moe := by
  unfold judgeMovingOpen
  (repeat' split) <;> simp

@[simp] theorem withdrawReleased_frame (s : State) (cs : Car × Side) :
    (withdrawReleased s cs).pending = s.pending ∧ (withdrawReleased s cs).steps = s.steps ∧
    (withdrawReleased s cs).inReset = s.inReset ∧ (withdrawReleased s cs).clock = s.clock ∧
    (withdrawReleased s cs).oa = s.oa ∧ (withdrawReleased s cs).ma = s.ma ∧
    (withdrawReleased s cs).mga = s.mga ∧ (withdrawReleased s cs).moe = s.moe ∧
    (withdrawReleased s cs).env = s.env ∧ (withdrawReleased s cs).brs = s.brs ∧
    (withdrawReleased s cs).test = s.test ∧ (withdrawReleased s cs).hlc = s.hlc ∧
    (withdrawReleased s cs).adu = s.adu ∧ (withdrawReleased s cs).rpu = s.rpu := by
  simp only [withdrawReleased]
  (repeat' split) <;> simp

@[simp] theorem judgeWithdrawal_frame (s : State) :
    (judgeWithdrawal s).pending = s.pending ∧ (judgeWithdrawal s).steps = s.steps ∧
    (judgeWithdrawal s).inReset = s.inReset ∧ (judgeWithdrawal s).clock = s.clock ∧
    (judgeWithdrawal s).oa = s.oa ∧ (judgeWithdrawal s).ma = s.ma ∧ (judgeWithdrawal s).mga = s.mga ∧
    (judgeWithdrawal s).moe = s.moe ∧ (judgeWithdrawal s).env = s.env ∧ (judgeWithdrawal s).brs = s.brs ∧
    (judgeWithdrawal s).test = s.test ∧ (judgeWithdrawal s).hlc = s.hlc ∧ (judgeWithdrawal s).adu = s.adu ∧
    (judgeWithdrawal s).rpu = s.rpu := by
  unfold judgeWithdrawal
  split <;> simp [carSides]

@[simp] theorem judgeSide_frame (car : Car) (side : Side) (x : SideStatus) (s : State) :
    (judgeSide car side x s).1.pending = s.pending ∧ (judgeSide car side x s).1.steps = s.steps ∧
    (judgeSide car side x s).1.inReset = s.inReset ∧ (judgeSide car side x s).1.clock = s.clock ∧
    (judgeSide car side x s).1.oa = s.oa ∧ (judgeSide car side x s).1.ma = s.ma ∧
    (judgeSide car side x s).1.mga = s.mga ∧ (judgeSide car side x s).1.moe = s.moe := by
  simp only [judgeSide]
  (repeat' split) <;> simp

@[simp] theorem storeReport_frame (car : Car) (left right : SideStatus) (s : State) :
    (storeReport car left right s).pending = s.pending ∧ (storeReport car left right s).steps = s.steps ∧
    (storeReport car left right s).inReset = s.inReset ∧ (storeReport car left right s).clock = s.clock ∧
    (storeReport car left right s).oa = s.oa ∧ (storeReport car left right s).ma = s.ma ∧
    (storeReport car left right s).rif = s.rif ∧ (storeReport car left right s).mga = s.mga ∧
    (storeReport car left right s).moe = s.moe ∧ (storeReport car left right s).env = s.env ∧
    (storeReport car left right s).brs = s.brs ∧ (storeReport car left right s).test = s.test ∧
    (storeReport car left right s).hlc = s.hlc ∧ (storeReport car left right s).adu = s.adu ∧
    (storeReport car left right s).rpu = s.rpu := by
  simp [storeReport]

@[simp] theorem takeDoorReport_frame (car : Car) (left right : SideStatus) (s : State) :
    (takeDoorReport car left right s).pending = s.pending ∧ (takeDoorReport car left right s).steps = s.steps ∧
    (takeDoorReport car left right s).inReset = s.inReset ∧ (takeDoorReport car left right s).clock = s.clock ∧
    (takeDoorReport car left right s).oa = s.oa ∧ (takeDoorReport car left right s).ma = s.ma ∧
    (takeDoorReport car left right s).mga = s.mga ∧ (takeDoorReport car left right s).moe = s.moe := by
  simp only [takeDoorReport]
  (repeat' split) <;> simp

@[simp] theorem openDoor_frame (car : Car) (side : Side) (s : State) :
    (openDoor car side s).2.pending = s.pending ∧ (openDoor car side s).2.steps = s.steps ∧
    (openDoor car side s).2.inReset = s.inReset ∧ (openDoor car side s).2.clock = s.clock ∧
    (openDoor car side s).2.oa = s.oa ∧ (openDoor car side s).2.ma = s.ma ∧
    (openDoor car side s).2.mga = s.mga ∧ (openDoor car side s).2.moe = s.moe := by
  unfold openDoor
  split <;> simp

@[simp] theorem closeDoor_frame (car : Car) (side : Side) (s : State) :
    (closeDoor car side s).2.pending = s.pending ∧ (closeDoor car side s).2.steps = s.steps ∧
    (closeDoor car side s).2.inReset = s.inReset ∧ (closeDoor car side s).2.clock = s.clock ∧
    (closeDoor car side s).2.oa = s.oa ∧ (closeDoor car side s).2.ma = s.ma ∧
    (closeDoor car side s).2.mga = s.mga ∧ (closeDoor car side s).2.moe = s.moe ∧
    (closeDoor car side s).2.env = s.env ∧ (closeDoor car side s).2.brs = s.brs ∧
    (closeDoor car side s).2.test = s.test ∧ (closeDoor car side s).2.hlc = s.hlc ∧
    (closeDoor car side s).2.adu = s.adu ∧ (closeDoor car side s).2.rpu = s.rpu := by
  unfold closeDoor
  split <;> simp

@[simp] theorem decideDoor_frame (car side action : Byte) (s : State) :
    (decideDoor car side action s).2.pending = s.pending ∧ (decideDoor car side action s).2.steps = s.steps ∧
    (decideDoor car side action s).2.inReset = s.inReset ∧ (decideDoor car side action s).2.clock = s.clock ∧
    (decideDoor car side action s).2.oa = s.oa ∧ (decideDoor car side action s).2.ma = s.ma ∧
    (decideDoor car side action s).2.mga = s.mga ∧ (decideDoor car side action s).2.moe = s.moe := by
  unfold decideDoor
  (repeat' split) <;> simp

end Sys2Proof.Machine
end

