-- ==== Sys2Proof/Laws/FrameMotion.lean ====
section
/-! SUPPORT. What the motion update, the Motion Estimator's operations and the activation leave alone. -/

namespace Sys2Proof.Machine

@[simp] theorem judgeStill_frame (s : State) :
    (judgeStill s).pending = s.pending ∧ (judgeStill s).steps = s.steps ∧ (judgeStill s).inReset = s.inReset ∧
    (judgeStill s).clock = s.clock ∧ (judgeStill s).oa = s.oa ∧ (judgeStill s).ma = s.ma ∧
    (judgeStill s).rif = s.rif ∧ (judgeStill s).mga = s.mga ∧ (judgeStill s).env = s.env ∧
    (judgeStill s).brs = s.brs ∧ (judgeStill s).test = s.test ∧ (judgeStill s).hlc = s.hlc ∧
    (judgeStill s).dru = s.dru ∧ (judgeStill s).adu = s.adu ∧ (judgeStill s).rpu = s.rpu := by
  simp [judgeStill]

@[simp] theorem storeMotion_frame (s : State) :
    (storeMotion s).pending = s.pending ∧ (storeMotion s).steps = s.steps ∧
    (storeMotion s).inReset = s.inReset ∧ (storeMotion s).clock = s.clock ∧ (storeMotion s).oa = s.oa ∧
    (storeMotion s).ma = s.ma ∧ (storeMotion s).rif = s.rif ∧ (storeMotion s).mga = s.mga ∧
    (storeMotion s).env = s.env ∧ (storeMotion s).brs = s.brs ∧ (storeMotion s).test = s.test ∧
    (storeMotion s).hlc = s.hlc ∧ (storeMotion s).dru = s.dru ∧ (storeMotion s).adu = s.adu ∧
    (storeMotion s).rpu = s.rpu := by
  simp [storeMotion]

@[simp] theorem envUpdate_frame (s : State) :
    (envUpdate s).pending = s.pending ∧ (envUpdate s).steps = s.steps ∧ (envUpdate s).inReset = s.inReset ∧
    (envUpdate s).clock = s.clock ∧ (envUpdate s).oa = s.oa ∧ (envUpdate s).ma = s.ma ∧
    (envUpdate s).mga = s.mga ∧ (envUpdate s).moe = s.moe ∧ (envUpdate s).dru = s.dru := by
  unfold envUpdate
  split <;> simp

@[simp] theorem brsUpdate_frame (s : State) :
    (brsUpdate s).pending = s.pending ∧ (brsUpdate s).steps = s.steps ∧ (brsUpdate s).inReset = s.inReset ∧
    (brsUpdate s).clock = s.clock ∧ (brsUpdate s).oa = s.oa ∧ (brsUpdate s).ma = s.ma ∧
    (brsUpdate s).mga = s.mga ∧ (brsUpdate s).moe = s.moe ∧ (brsUpdate s).dru = s.dru := by
  simp only [brsUpdate]
  (repeat' split) <;> simp

@[simp] theorem druUpdate_frame (s : State) :
    (druUpdate s).pending = s.pending ∧ (druUpdate s).steps = s.steps ∧ (druUpdate s).inReset = s.inReset ∧
    (druUpdate s).clock = s.clock ∧ (druUpdate s).oa = s.oa ∧ (druUpdate s).ma = s.ma ∧
    (druUpdate s).mga = s.mga ∧ (druUpdate s).moe = s.moe := by
  simp [druUpdate]

@[simp] theorem raiseArrived_frame (stop : Nat) (via : Byte) (s : State) :
    (raiseArrived stop via s).pending = s.pending ∧ (raiseArrived stop via s).steps = s.steps ∧
    (raiseArrived stop via s).inReset = s.inReset ∧ (raiseArrived stop via s).clock = s.clock ∧
    (raiseArrived stop via s).oa = s.oa ∧ (raiseArrived stop via s).ma = s.ma ∧
    (raiseArrived stop via s).mga = s.mga ∧ (raiseArrived stop via s).moe = s.moe ∧
    (raiseArrived stop via s).env = s.env ∧ (raiseArrived stop via s).brs = s.brs ∧
    (raiseArrived stop via s).test = s.test ∧ (raiseArrived stop via s).hlc = s.hlc ∧
    (raiseArrived stop via s).dru = s.dru ∧ (raiseArrived stop via s).adu = s.adu := by
  simp [raiseArrived]

@[simp] theorem endServiceStop_frame (s : State) :
    (endServiceStop s).pending = s.pending ∧ (endServiceStop s).steps = s.steps ∧
    (endServiceStop s).inReset = s.inReset ∧ (endServiceStop s).clock = s.clock ∧ (endServiceStop s).oa = s.oa ∧
    (endServiceStop s).ma = s.ma ∧ (endServiceStop s).mga = s.mga ∧ (endServiceStop s).moe = s.moe ∧
    (endServiceStop s).test = s.test ∧ (endServiceStop s).dru = s.dru := by
  unfold endServiceStop
  split <;> simp

@[simp] theorem arrive_frame (s : State) :
    (arrive s).pending = s.pending ∧ (arrive s).steps = s.steps ∧ (arrive s).inReset = s.inReset ∧
    (arrive s).clock = s.clock ∧ (arrive s).oa = s.oa ∧ (arrive s).ma = s.ma ∧ (arrive s).mga = s.mga ∧
    (arrive s).moe = s.moe ∧ (arrive s).test = s.test ∧ (arrive s).dru = s.dru := by
  unfold arrive
  split <;> simp

@[simp] theorem hlcUpdate_frame (s : State) :
    (hlcUpdate s).pending = s.pending ∧ (hlcUpdate s).steps = s.steps ∧ (hlcUpdate s).inReset = s.inReset ∧
    (hlcUpdate s).clock = s.clock ∧ (hlcUpdate s).oa = s.oa ∧ (hlcUpdate s).ma = s.ma ∧
    (hlcUpdate s).mga = s.mga ∧ (hlcUpdate s).moe = s.moe ∧ (hlcUpdate s).test = s.test ∧
    (hlcUpdate s).dru = s.dru := by
  unfold hlcUpdate
  (repeat' split) <;> simp

@[simp] theorem motionUpdate_frame (s : State) :
    (motionUpdate s).pending = s.pending ∧ (motionUpdate s).steps = s.steps ∧
    (motionUpdate s).inReset = s.inReset ∧ (motionUpdate s).clock = s.clock ∧ (motionUpdate s).oa = s.oa ∧
    (motionUpdate s).ma = s.ma ∧ (motionUpdate s).mga = s.mga := by
  simp [motionUpdate]

@[simp] theorem judgeDivergence_frame (l : Line) (s : State) :
    (judgeDivergence l s).pending = s.pending ∧ (judgeDivergence l s).steps = s.steps ∧
    (judgeDivergence l s).inReset = s.inReset ∧ (judgeDivergence l s).clock = s.clock ∧
    (judgeDivergence l s).oa = s.oa ∧ (judgeDivergence l s).ma = s.ma ∧ (judgeDivergence l s).mga = s.mga ∧
    (judgeDivergence l s).env = s.env ∧ (judgeDivergence l s).brs = s.brs ∧
    (judgeDivergence l s).test = s.test ∧ (judgeDivergence l s).hlc = s.hlc ∧
    (judgeDivergence l s).dru = s.dru ∧ (judgeDivergence l s).adu = s.adu := by
  simp only [judgeDivergence]
  (repeat' split) <;> simp

@[simp] theorem judgeDisagree_frame (l : Line) (s : State) :
    (judgeDisagree l s).pending = s.pending ∧ (judgeDisagree l s).steps = s.steps ∧
    (judgeDisagree l s).inReset = s.inReset ∧ (judgeDisagree l s).clock = s.clock ∧
    (judgeDisagree l s).oa = s.oa ∧ (judgeDisagree l s).ma = s.ma ∧ (judgeDisagree l s).mga = s.mga ∧
    (judgeDisagree l s).dru = s.dru := by
  unfold judgeDisagree
  (repeat' split) <;> simp

@[simp] theorem judgeSlip_frame (l : Line) (car : Car) (s : State) :
    (judgeSlip l car s).pending = s.pending ∧ (judgeSlip l car s).steps = s.steps ∧
    (judgeSlip l car s).inReset = s.inReset ∧ (judgeSlip l car s).clock = s.clock ∧
    (judgeSlip l car s).oa = s.oa ∧ (judgeSlip l car s).ma = s.ma ∧ (judgeSlip l car s).mga = s.mga ∧
    (judgeSlip l car s).dru = s.dru := by
  unfold judgeSlip
  (repeat' split) <;> simp

@[simp] theorem crossCheck_frame (l : Line) (ch : ChannelId) (s : State) :
    (crossCheck l ch s).pending = s.pending ∧ (crossCheck l ch s).steps = s.steps ∧
    (crossCheck l ch s).inReset = s.inReset ∧ (crossCheck l ch s).clock = s.clock ∧
    (crossCheck l ch s).oa = s.oa ∧ (crossCheck l ch s).ma = s.ma ∧ (crossCheck l ch s).mga = s.mga ∧
    (crossCheck l ch s).dru = s.dru := by
  unfold crossCheck
  split <;> simp

@[simp] theorem acceptSample_frame (l : Line) (ch : ChannelId) (x : Sample) (s : State) :
    (acceptSample l ch x s).pending = s.pending ∧ (acceptSample l ch x s).steps = s.steps ∧
    (acceptSample l ch x s).inReset = s.inReset ∧ (acceptSample l ch x s).clock = s.clock ∧
    (acceptSample l ch x s).oa = s.oa ∧ (acceptSample l ch x s).ma = s.ma ∧
    (acceptSample l ch x s).mga = s.mga := by
  simp [acceptSample]

@[simp] theorem takeSample_frame (ch : ChannelId) (x : Sample) (health : Byte) (s : State) :
    (takeSample ch x health s).pending = s.pending ∧ (takeSample ch x health s).steps = s.steps ∧
    (takeSample ch x health s).inReset = s.inReset ∧ (takeSample ch x health s).clock = s.clock ∧
    (takeSample ch x health s).oa = s.oa ∧ (takeSample ch x health s).ma = s.ma ∧
    (takeSample ch x health s).mga = s.mga := by
  unfold takeSample
  (repeat' split) <;> simp

@[simp] theorem afterExpiry_frame (ch : ChannelId) (s : State) :
    (afterExpiry ch s).pending = s.pending ∧ (afterExpiry ch s).steps = s.steps ∧
    (afterExpiry ch s).inReset = s.inReset ∧ (afterExpiry ch s).clock = s.clock ∧ (afterExpiry ch s).oa = s.oa ∧
    (afterExpiry ch s).ma = s.ma ∧ (afterExpiry ch s).mga = s.mga ∧ (afterExpiry ch s).env = s.env ∧
    (afterExpiry ch s).brs = s.brs ∧ (afterExpiry ch s).test = s.test ∧ (afterExpiry ch s).hlc = s.hlc ∧
    (afterExpiry ch s).dru = s.dru ∧ (afterExpiry ch s).adu = s.adu := by
  unfold afterExpiry
  split <;> simp

@[simp] theorem expireChannel_frame (ch : ChannelId) (s : State) :
    (expireChannel ch s).pending = s.pending ∧ (expireChannel ch s).steps = s.steps ∧
    (expireChannel ch s).inReset = s.inReset ∧ (expireChannel ch s).clock = s.clock ∧
    (expireChannel ch s).oa = s.oa ∧ (expireChannel ch s).ma = s.ma ∧ (expireChannel ch s).mga = s.mga ∧
    (expireChannel ch s).env = s.env ∧ (expireChannel ch s).brs = s.brs ∧ (expireChannel ch s).test = s.test ∧
    (expireChannel ch s).hlc = s.hlc ∧ (expireChannel ch s).dru = s.dru ∧ (expireChannel ch s).adu = s.adu := by
  simp [expireChannel]

@[simp] theorem channelExpiry_frame (ch : ChannelId) (s : State) :
    (channelExpiry ch s).pending = s.pending ∧ (channelExpiry ch s).steps = s.steps ∧
    (channelExpiry ch s).inReset = s.inReset ∧ (channelExpiry ch s).clock = s.clock ∧
    (channelExpiry ch s).oa = s.oa ∧ (channelExpiry ch s).ma = s.ma ∧ (channelExpiry ch s).mga = s.mga := by
  unfold channelExpiry
  split <;> simp

@[simp] theorem stillTimerExpiry_frame (s : State) :
    (stillTimerExpiry s).pending = s.pending ∧ (stillTimerExpiry s).steps = s.steps ∧
    (stillTimerExpiry s).inReset = s.inReset ∧ (stillTimerExpiry s).clock = s.clock ∧
    (stillTimerExpiry s).oa = s.oa ∧ (stillTimerExpiry s).ma = s.ma ∧ (stillTimerExpiry s).mga = s.mga := by
  unfold stillTimerExpiry
  split <;> simp

@[simp] theorem markerUnknown_frame (id car : Byte) (s : State) :
    (markerUnknown id car s).pending = s.pending ∧ (markerUnknown id car s).steps = s.steps ∧
    (markerUnknown id car s).inReset = s.inReset ∧ (markerUnknown id car s).clock = s.clock ∧
    (markerUnknown id car s).oa = s.oa ∧ (markerUnknown id car s).ma = s.ma ∧
    (markerUnknown id car s).mga = s.mga ∧ (markerUnknown id car s).env = s.env ∧
    (markerUnknown id car s).brs = s.brs ∧ (markerUnknown id car s).test = s.test ∧
    (markerUnknown id car s).hlc = s.hlc ∧ (markerUnknown id car s).dru = s.dru ∧
    (markerUnknown id car s).adu = s.adu := by
  simp [markerUnknown]

@[simp] theorem applyMarker_frame (implied diff : Int) (c : MotionCounter) (s : State) :
    (applyMarker implied diff c s).pending = s.pending ∧ (applyMarker implied diff c s).steps = s.steps ∧
    (applyMarker implied diff c s).inReset = s.inReset ∧ (applyMarker implied diff c s).clock = s.clock ∧
    (applyMarker implied diff c s).oa = s.oa ∧ (applyMarker implied diff c s).ma = s.ma ∧
    (applyMarker implied diff c s).mga = s.mga := by
  simp [applyMarker]

@[simp] theorem rejectMarker_frame (diff : Int) (s : State) :
    (rejectMarker diff s).pending = s.pending ∧ (rejectMarker diff s).steps = s.steps ∧
    (rejectMarker diff s).inReset = s.inReset ∧ (rejectMarker diff s).clock = s.clock ∧
    (rejectMarker diff s).oa = s.oa ∧ (rejectMarker diff s).ma = s.ma ∧ (rejectMarker diff s).mga = s.mga := by
  simp [rejectMarker]

@[simp] theorem judgeMarker_frame (l : Line) (implied : Int) (s : State) :
    (judgeMarker l implied s).pending = s.pending ∧ (judgeMarker l implied s).steps = s.steps ∧
    (judgeMarker l implied s).inReset = s.inReset ∧ (judgeMarker l implied s).clock = s.clock ∧
    (judgeMarker l implied s).oa = s.oa ∧ (judgeMarker l implied s).ma = s.ma ∧
    (judgeMarker l implied s).mga = s.mga := by
  simp only [judgeMarker]
  (repeat' split) <;> simp

@[simp] theorem takeMarker_frame (id car : Byte) (s : State) :
    (takeMarker id car s).pending = s.pending ∧ (takeMarker id car s).steps = s.steps ∧
    (takeMarker id car s).inReset = s.inReset ∧ (takeMarker id car s).clock = s.clock ∧
    (takeMarker id car s).oa = s.oa ∧ (takeMarker id car s).ma = s.ma ∧ (takeMarker id car s).mga = s.mga := by
  unfold takeMarker
  (repeat' split) <;> simp

@[simp] theorem expireIfDue_frame (s : State) (ch : ChannelId) :
    (expireIfDue s ch).pending = s.pending ∧ (expireIfDue s ch).steps = s.steps ∧
    (expireIfDue s ch).inReset = s.inReset ∧ (expireIfDue s ch).clock = s.clock ∧ (expireIfDue s ch).oa = s.oa ∧
    (expireIfDue s ch).ma = s.ma ∧ (expireIfDue s ch).mga = s.mga ∧ (expireIfDue s ch).env = s.env ∧
    (expireIfDue s ch).brs = s.brs ∧ (expireIfDue s ch).test = s.test ∧ (expireIfDue s ch).hlc = s.hlc ∧
    (expireIfDue s ch).dru = s.dru ∧ (expireIfDue s ch).adu = s.adu := by
  unfold expireIfDue
  split <;> simp

@[simp] theorem applyLineMoe_frame (l : Line) (s : State) :
    (applyLineMoe l s).pending = s.pending ∧ (applyLineMoe l s).steps = s.steps ∧
    (applyLineMoe l s).inReset = s.inReset ∧ (applyLineMoe l s).clock = s.clock ∧ (applyLineMoe l s).oa = s.oa ∧
    (applyLineMoe l s).ma = s.ma ∧ (applyLineMoe l s).mga = s.mga := by
  simp [applyLineMoe, allChannels]

@[simp] theorem applyLineDrive_frame (l : Line) (s : State) :
    (applyLineDrive l s).pending = s.pending ∧ (applyLineDrive l s).steps = s.steps ∧
    (applyLineDrive l s).inReset = s.inReset ∧ (applyLineDrive l s).clock = s.clock ∧
    (applyLineDrive l s).oa = s.oa ∧ (applyLineDrive l s).ma = s.ma ∧ (applyLineDrive l s).rif = s.rif ∧
    (applyLineDrive l s).mga = s.mga ∧ (applyLineDrive l s).moe = s.moe ∧ (applyLineDrive l s).env = s.env ∧
    (applyLineDrive l s).brs = s.brs ∧ (applyLineDrive l s).test = s.test ∧ (applyLineDrive l s).dru = s.dru ∧
    (applyLineDrive l s).adu = s.adu ∧ (applyLineDrive l s).rpu = s.rpu := by
  unfold applyLineDrive
  split <;> simp

@[simp] theorem applyLineDoor_frame (l : Line) (s : State) (car : Car) :
    (applyLineDoor l s car).pending = s.pending ∧ (applyLineDoor l s car).steps = s.steps ∧
    (applyLineDoor l s car).inReset = s.inReset ∧ (applyLineDoor l s car).clock = s.clock ∧
    (applyLineDoor l s car).oa = s.oa ∧ (applyLineDoor l s car).ma = s.ma ∧
    (applyLineDoor l s car).mga = s.mga ∧ (applyLineDoor l s car).moe = s.moe := by
  simp only [applyLineDoor]
  (repeat' split) <;> simp

@[simp] theorem applyLine_frame (l : Line) (s : State) :
    (applyLine l s).pending = s.pending ∧ (applyLine l s).steps = s.steps ∧
    (applyLine l s).inReset = s.inReset ∧ (applyLine l s).clock = s.clock ∧ (applyLine l s).oa = s.oa ∧
    (applyLine l s).ma = s.ma ∧ (applyLine l s).mga = s.mga := by
  simp [applyLine]

@[simp] theorem copyTables_frame (mask : Byte) (s : State) :
    (copyTables mask s).pending = s.pending ∧ (copyTables mask s).steps = s.steps ∧
    (copyTables mask s).inReset = s.inReset ∧ (copyTables mask s).clock = s.clock ∧
    (copyTables mask s).oa = s.oa ∧ (copyTables mask s).ma = s.ma ∧ (copyTables mask s).rif = s.rif ∧
    (copyTables mask s).moe = s.moe ∧ (copyTables mask s).env = s.env ∧ (copyTables mask s).brs = s.brs ∧
    (copyTables mask s).test = s.test ∧ (copyTables mask s).hlc = s.hlc ∧ (copyTables mask s).dru = s.dru ∧
    (copyTables mask s).adu = s.adu ∧ (copyTables mask s).rpu = s.rpu := by
  simp [copyTables]

@[simp] theorem raiseActivated_frame (mask : Byte) (wasPending : Bool) (s : State) :
    (raiseActivated mask wasPending s).pending = s.pending ∧
    (raiseActivated mask wasPending s).steps = s.steps ∧
    (raiseActivated mask wasPending s).inReset = s.inReset ∧
    (raiseActivated mask wasPending s).clock = s.clock ∧ (raiseActivated mask wasPending s).oa = s.oa ∧
    (raiseActivated mask wasPending s).ma = s.ma ∧ (raiseActivated mask wasPending s).mga = s.mga ∧
    (raiseActivated mask wasPending s).moe = s.moe ∧ (raiseActivated mask wasPending s).env = s.env ∧
    (raiseActivated mask wasPending s).brs = s.brs ∧ (raiseActivated mask wasPending s).test = s.test ∧
    (raiseActivated mask wasPending s).hlc = s.hlc ∧ (raiseActivated mask wasPending s).dru = s.dru ∧
    (raiseActivated mask wasPending s).adu = s.adu := by
  simp [raiseActivated]

@[simp] theorem noticeTables_frame (mask : Byte) (s : State) :
    (noticeTables mask s).pending = s.pending ∧ (noticeTables mask s).steps = s.steps ∧
    (noticeTables mask s).inReset = s.inReset ∧ (noticeTables mask s).clock = s.clock ∧
    (noticeTables mask s).oa = s.oa ∧ (noticeTables mask s).ma = s.ma ∧ (noticeTables mask s).mga = s.mga := by
  unfold noticeTables
  (repeat' split) <;> simp

@[simp] theorem takeEffect_frame (mask : Byte) (wasPending : Bool) (s : State) :
    (takeEffect mask wasPending s).pending = s.pending ∧ (takeEffect mask wasPending s).steps = s.steps ∧
    (takeEffect mask wasPending s).inReset = s.inReset ∧ (takeEffect mask wasPending s).clock = s.clock ∧
    (takeEffect mask wasPending s).oa = s.oa ∧ (takeEffect mask wasPending s).ma = s.ma := by
  unfold takeEffect
  split <;> simp

@[simp] theorem raiseFailed_frame (mask : Byte) (check index : Nat) (s : State) :
    (raiseFailed mask check index s).pending = s.pending ∧ (raiseFailed mask check index s).steps = s.steps ∧
    (raiseFailed mask check index s).inReset = s.inReset ∧ (raiseFailed mask check index s).clock = s.clock ∧
    (raiseFailed mask check index s).oa = s.oa ∧ (raiseFailed mask check index s).ma = s.ma ∧
    (raiseFailed mask check index s).mga = s.mga ∧ (raiseFailed mask check index s).moe = s.moe ∧
    (raiseFailed mask check index s).env = s.env ∧ (raiseFailed mask check index s).brs = s.brs ∧
    (raiseFailed mask check index s).test = s.test ∧ (raiseFailed mask check index s).hlc = s.hlc ∧
    (raiseFailed mask check index s).dru = s.dru ∧ (raiseFailed mask check index s).adu = s.adu := by
  simp [raiseFailed]

@[simp] theorem takePending_frame (mask : Byte) (s : State) :
    (takePending mask s).pending = s.pending ∧ (takePending mask s).steps = s.steps ∧
    (takePending mask s).inReset = s.inReset ∧ (takePending mask s).clock = s.clock ∧
    (takePending mask s).oa = s.oa ∧ (takePending mask s).ma = s.ma := by
  simp only [takePending]
  (repeat' split) <;> simp

@[simp] theorem settle_frame (before after : State) :
    (settle before after).pending = after.pending ∧ (settle before after).steps = after.steps ∧
    (settle before after).inReset = after.inReset ∧ (settle before after).clock = after.clock ∧
    (settle before after).oa = after.oa ∧ (settle before after).ma = after.ma := by
  unfold settle
  (repeat' split) <;> simp

end Sys2Proof.Machine
end

