-- ==== Sys2Proof/Laws/FrameRequests.lean ====
section
/-! SUPPORT. What the operations of admission, management and the line commands leave alone. -/

namespace Sys2Proof.Machine

@[simp] theorem age_frame (s : State) :
    (age s).pending = s.pending ∧ (age s).steps = s.steps ∧ (age s).inReset = s.inReset ∧
    (age s).clock = s.clock ∧ (age s).oa = s.oa ∧ (age s).ma = s.ma ∧ (age s).rif = s.rif ∧
    (age s).mga = s.mga ∧ (age s).moe = s.moe ∧ (age s).env = s.env ∧ (age s).brs = s.brs ∧
    (age s).test = s.test ∧ (age s).hlc = s.hlc ∧ (age s).dru = s.dru ∧ (age s).rpu = s.rpu := by
  simp [age]

@[simp] theorem appendPassback_frame (serial : BitVec 32) (s : State) :
    (appendPassback serial s).pending = s.pending ∧ (appendPassback serial s).steps = s.steps ∧
    (appendPassback serial s).inReset = s.inReset ∧ (appendPassback serial s).clock = s.clock ∧
    (appendPassback serial s).oa = s.oa ∧ (appendPassback serial s).ma = s.ma ∧
    (appendPassback serial s).rif = s.rif ∧ (appendPassback serial s).mga = s.mga ∧
    (appendPassback serial s).moe = s.moe ∧ (appendPassback serial s).env = s.env ∧
    (appendPassback serial s).brs = s.brs ∧ (appendPassback serial s).test = s.test ∧
    (appendPassback serial s).hlc = s.hlc ∧ (appendPassback serial s).dru = s.dru ∧
    (appendPassback serial s).rpu = s.rpu := by
  unfold appendPassback
  split <;> simp

@[simp] theorem appendGrant_frame (gate : Byte) (car : Car) (serial : BitVec 32) (s : State) :
    (appendGrant gate car serial s).pending = s.pending ∧ (appendGrant gate car serial s).steps = s.steps ∧
    (appendGrant gate car serial s).inReset = s.inReset ∧ (appendGrant gate car serial s).clock = s.clock ∧
    (appendGrant gate car serial s).oa = s.oa ∧ (appendGrant gate car serial s).ma = s.ma ∧
    (appendGrant gate car serial s).rif = s.rif ∧ (appendGrant gate car serial s).mga = s.mga ∧
    (appendGrant gate car serial s).moe = s.moe ∧ (appendGrant gate car serial s).env = s.env ∧
    (appendGrant gate car serial s).brs = s.brs ∧ (appendGrant gate car serial s).test = s.test ∧
    (appendGrant gate car serial s).hlc = s.hlc ∧ (appendGrant gate car serial s).dru = s.dru ∧
    (appendGrant gate car serial s).rpu = s.rpu := by
  simp [appendGrant]

@[simp] theorem reportFull_frame (gate : Byte) (car : Car) (s : State) :
    (reportFull gate car s).pending = s.pending ∧ (reportFull gate car s).steps = s.steps ∧
    (reportFull gate car s).inReset = s.inReset ∧ (reportFull gate car s).clock = s.clock ∧
    (reportFull gate car s).oa = s.oa ∧ (reportFull gate car s).ma = s.ma ∧
    (reportFull gate car s).mga = s.mga ∧ (reportFull gate car s).moe = s.moe ∧
    (reportFull gate car s).env = s.env ∧ (reportFull gate car s).brs = s.brs ∧
    (reportFull gate car s).test = s.test ∧ (reportFull gate car s).hlc = s.hlc ∧
    (reportFull gate car s).dru = s.dru := by
  unfold reportFull
  split <;> simp

@[simp] theorem takeTicket_frame (f : Frame) (s : State) :
    (takeTicket f s).pending = s.pending ∧ (takeTicket f s).steps = s.steps ∧
    (takeTicket f s).inReset = s.inReset ∧ (takeTicket f s).clock = s.clock ∧ (takeTicket f s).oa = s.oa ∧
    (takeTicket f s).ma = s.ma ∧ (takeTicket f s).mga = s.mga ∧ (takeTicket f s).moe = s.moe ∧
    (takeTicket f s).env = s.env ∧ (takeTicket f s).brs = s.brs ∧ (takeTicket f s).test = s.test ∧
    (takeTicket f s).hlc = s.hlc ∧ (takeTicket f s).dru = s.dru := by
  simp only [takeTicket]
  (repeat' split) <;> simp

@[simp] theorem consumeGrant_frame (gate token : Byte) (g : Grant) (s : State) :
    (consumeGrant gate token g s).pending = s.pending ∧ (consumeGrant gate token g s).steps = s.steps ∧
    (consumeGrant gate token g s).inReset = s.inReset ∧ (consumeGrant gate token g s).clock = s.clock ∧
    (consumeGrant gate token g s).oa = s.oa ∧ (consumeGrant gate token g s).ma = s.ma ∧
    (consumeGrant gate token g s).rif = s.rif ∧ (consumeGrant gate token g s).mga = s.mga ∧
    (consumeGrant gate token g s).moe = s.moe ∧ (consumeGrant gate token g s).env = s.env ∧
    (consumeGrant gate token g s).brs = s.brs ∧ (consumeGrant gate token g s).test = s.test ∧
    (consumeGrant gate token g s).hlc = s.hlc ∧ (consumeGrant gate token g s).dru = s.dru ∧
    (consumeGrant gate token g s).rpu = s.rpu := by
  simp [consumeGrant]

@[simp] theorem forcedPass_frame (gate token : Byte) (car : Car) (s : State) :
    (forcedPass gate token car s).pending = s.pending ∧ (forcedPass gate token car s).steps = s.steps ∧
    (forcedPass gate token car s).inReset = s.inReset ∧ (forcedPass gate token car s).clock = s.clock ∧
    (forcedPass gate token car s).oa = s.oa ∧ (forcedPass gate token car s).ma = s.ma ∧
    (forcedPass gate token car s).mga = s.mga ∧ (forcedPass gate token car s).moe = s.moe ∧
    (forcedPass gate token car s).env = s.env ∧ (forcedPass gate token car s).brs = s.brs ∧
    (forcedPass gate token car s).test = s.test ∧ (forcedPass gate token car s).hlc = s.hlc ∧
    (forcedPass gate token car s).dru = s.dru := by
  simp [forcedPass]

@[simp] theorem entryPass_frame (gate token : Byte) (g : Node) (s : State) :
    (entryPass gate token g s).pending = s.pending ∧ (entryPass gate token g s).steps = s.steps ∧
    (entryPass gate token g s).inReset = s.inReset ∧ (entryPass gate token g s).clock = s.clock ∧
    (entryPass gate token g s).oa = s.oa ∧ (entryPass gate token g s).ma = s.ma ∧
    (entryPass gate token g s).mga = s.mga ∧ (entryPass gate token g s).moe = s.moe ∧
    (entryPass gate token g s).env = s.env ∧ (entryPass gate token g s).brs = s.brs ∧
    (entryPass gate token g s).test = s.test ∧ (entryPass gate token g s).hlc = s.hlc ∧
    (entryPass gate token g s).dru = s.dru := by
  unfold entryPass
  split <;> simp

@[simp] theorem exitAtBerth_frame (gate : Byte) (car : Car) (berth : Byte) (s : State) :
    (exitAtBerth gate car berth s).pending = s.pending ∧ (exitAtBerth gate car berth s).steps = s.steps ∧
    (exitAtBerth gate car berth s).inReset = s.inReset ∧ (exitAtBerth gate car berth s).clock = s.clock ∧
    (exitAtBerth gate car berth s).oa = s.oa ∧ (exitAtBerth gate car berth s).ma = s.ma ∧
    (exitAtBerth gate car berth s).mga = s.mga ∧ (exitAtBerth gate car berth s).moe = s.moe ∧
    (exitAtBerth gate car berth s).env = s.env ∧ (exitAtBerth gate car berth s).brs = s.brs ∧
    (exitAtBerth gate car berth s).test = s.test ∧ (exitAtBerth gate car berth s).hlc = s.hlc ∧
    (exitAtBerth gate car berth s).dru = s.dru := by
  unfold exitAtBerth
  (repeat' split) <;> simp

@[simp] theorem exitPass_frame (gate : Byte) (g : Node) (s : State) :
    (exitPass gate g s).pending = s.pending ∧ (exitPass gate g s).steps = s.steps ∧
    (exitPass gate g s).inReset = s.inReset ∧ (exitPass gate g s).clock = s.clock ∧
    (exitPass gate g s).oa = s.oa ∧ (exitPass gate g s).ma = s.ma ∧ (exitPass gate g s).mga = s.mga ∧
    (exitPass gate g s).moe = s.moe ∧ (exitPass gate g s).env = s.env ∧ (exitPass gate g s).brs = s.brs ∧
    (exitPass gate g s).test = s.test ∧ (exitPass gate g s).hlc = s.hlc ∧ (exitPass gate g s).dru = s.dru := by
  unfold exitPass
  split <;> simp

@[simp] theorem takePass_frame (gate token : Byte) (g : Node) (s : State) :
    (takePass gate token g s).pending = s.pending ∧ (takePass gate token g s).steps = s.steps ∧
    (takePass gate token g s).inReset = s.inReset ∧ (takePass gate token g s).clock = s.clock ∧
    (takePass gate token g s).oa = s.oa ∧ (takePass gate token g s).ma = s.ma ∧
    (takePass gate token g s).mga = s.mga ∧ (takePass gate token g s).moe = s.moe ∧
    (takePass gate token g s).env = s.env ∧ (takePass gate token g s).brs = s.brs ∧
    (takePass gate token g s).test = s.test ∧ (takePass gate token g s).hlc = s.hlc ∧
    (takePass gate token g s).dru = s.dru := by
  unfold takePass
  split <;> simp

@[simp] theorem grantExpiry_frame (gate : Byte) (s : State) :
    (grantExpiry gate s).pending = s.pending ∧ (grantExpiry gate s).steps = s.steps ∧
    (grantExpiry gate s).inReset = s.inReset ∧ (grantExpiry gate s).clock = s.clock ∧
    (grantExpiry gate s).oa = s.oa ∧ (grantExpiry gate s).ma = s.ma ∧ (grantExpiry gate s).mga = s.mga ∧
    (grantExpiry gate s).moe = s.moe ∧ (grantExpiry gate s).env = s.env ∧ (grantExpiry gate s).brs = s.brs ∧
    (grantExpiry gate s).test = s.test ∧ (grantExpiry gate s).hlc = s.hlc ∧ (grantExpiry gate s).dru = s.dru := by
  unfold grantExpiry
  (repeat' split) <;> simp

@[simp] theorem parkGrants_frame (s : State) :
    (parkGrants s).pending = s.pending ∧ (parkGrants s).steps = s.steps ∧ (parkGrants s).inReset = s.inReset ∧
    (parkGrants s).clock = s.clock ∧ (parkGrants s).oa = s.oa ∧ (parkGrants s).ma = s.ma ∧
    (parkGrants s).mga = s.mga ∧ (parkGrants s).moe = s.moe ∧ (parkGrants s).env = s.env ∧
    (parkGrants s).brs = s.brs ∧ (parkGrants s).test = s.test ∧ (parkGrants s).hlc = s.hlc ∧
    (parkGrants s).dru = s.dru := by
  simp only [parkGrants]
  (repeat' split) <;> simp

@[simp] theorem refuse_frame (r : MgmtResult) (s : State) :
    (refuse r s).state.pending = s.pending ∧ (refuse r s).state.steps = s.steps ∧
    (refuse r s).state.inReset = s.inReset ∧ (refuse r s).state.clock = s.clock ∧ (refuse r s).state.oa = s.oa ∧
    (refuse r s).state.ma = s.ma ∧ (refuse r s).state.rif = s.rif ∧ (refuse r s).state.mga = s.mga ∧
    (refuse r s).state.moe = s.moe ∧ (refuse r s).state.env = s.env ∧ (refuse r s).state.brs = s.brs ∧
    (refuse r s).state.test = s.test ∧ (refuse r s).state.hlc = s.hlc ∧ (refuse r s).state.dru = s.dru ∧
    (refuse r s).state.adu = s.adu ∧ (refuse r s).state.rpu = s.rpu := by
  simp [refuse]

@[simp] theorem accept_frame (body : List Byte) (s : State) :
    (accept body s).state.pending = s.pending ∧ (accept body s).state.steps = s.steps ∧
    (accept body s).state.inReset = s.inReset ∧ (accept body s).state.clock = s.clock ∧
    (accept body s).state.oa = s.oa ∧ (accept body s).state.ma = s.ma ∧ (accept body s).state.rif = s.rif ∧
    (accept body s).state.mga = s.mga ∧ (accept body s).state.moe = s.moe ∧ (accept body s).state.env = s.env ∧
    (accept body s).state.brs = s.brs ∧ (accept body s).state.test = s.test ∧
    (accept body s).state.hlc = s.hlc ∧ (accept body s).state.dru = s.dru ∧ (accept body s).state.adu = s.adu ∧
    (accept body s).state.rpu = s.rpu := by
  simp [accept]

@[simp] theorem loadTable_frame (t : TableId) (first count : Nat) (last : Bool) (bs : List Byte) (s : State) :
    (loadTable t first count last bs s).state.pending = s.pending ∧
    (loadTable t first count last bs s).state.steps = s.steps ∧
    (loadTable t first count last bs s).state.inReset = s.inReset ∧
    (loadTable t first count last bs s).state.clock = s.clock ∧
    (loadTable t first count last bs s).state.oa = s.oa ∧ (loadTable t first count last bs s).state.ma = s.ma ∧
    (loadTable t first count last bs s).state.rif = s.rif ∧
    (loadTable t first count last bs s).state.moe = s.moe ∧
    (loadTable t first count last bs s).state.env = s.env ∧
    (loadTable t first count last bs s).state.brs = s.brs ∧
    (loadTable t first count last bs s).state.test = s.test ∧
    (loadTable t first count last bs s).state.hlc = s.hlc ∧
    (loadTable t first count last bs s).state.dru = s.dru ∧
    (loadTable t first count last bs s).state.adu = s.adu ∧
    (loadTable t first count last bs s).state.rpu = s.rpu := by
  simp only [loadTable]
  (repeat' split) <;> simp

@[simp] theorem decideLoad_frame (body : List Byte) (s : State) :
    (decideLoad body s).state.pending = s.pending ∧ (decideLoad body s).state.steps = s.steps ∧
    (decideLoad body s).state.inReset = s.inReset ∧ (decideLoad body s).state.clock = s.clock ∧
    (decideLoad body s).state.oa = s.oa ∧ (decideLoad body s).state.ma = s.ma ∧
    (decideLoad body s).state.rif = s.rif ∧ (decideLoad body s).state.moe = s.moe ∧
    (decideLoad body s).state.env = s.env ∧ (decideLoad body s).state.brs = s.brs ∧
    (decideLoad body s).state.test = s.test ∧ (decideLoad body s).state.hlc = s.hlc ∧
    (decideLoad body s).state.dru = s.dru ∧ (decideLoad body s).state.adu = s.adu ∧
    (decideLoad body s).state.rpu = s.rpu := by
  unfold decideLoad
  split <;> simp

@[simp] theorem activateNow_frame (mask : Byte) (s : State) :
    (activateNow mask s).state.pending = s.pending ∧ (activateNow mask s).state.steps = s.steps ∧
    (activateNow mask s).state.inReset = s.inReset ∧ (activateNow mask s).state.clock = s.clock ∧
    (activateNow mask s).state.oa = s.oa ∧ (activateNow mask s).state.ma = s.ma := by
  unfold activateNow
  split <;> simp

@[simp] theorem decideActivate_frame (mask : Byte) (s : State) :
    (decideActivate mask s).state.pending = s.pending ∧ (decideActivate mask s).state.steps = s.steps ∧
    (decideActivate mask s).state.inReset = s.inReset ∧ (decideActivate mask s).state.clock = s.clock ∧
    (decideActivate mask s).state.oa = s.oa ∧ (decideActivate mask s).state.ma = s.ma := by
  unfold decideActivate
  (repeat' split) <;> simp

@[simp] theorem decideCancel_frame (s : State) :
    (decideCancel s).state.pending = s.pending ∧ (decideCancel s).state.steps = s.steps ∧
    (decideCancel s).state.inReset = s.inReset ∧ (decideCancel s).state.clock = s.clock ∧
    (decideCancel s).state.oa = s.oa ∧ (decideCancel s).state.ma = s.ma ∧ (decideCancel s).state.rif = s.rif ∧
    (decideCancel s).state.moe = s.moe ∧ (decideCancel s).state.env = s.env ∧
    (decideCancel s).state.brs = s.brs ∧ (decideCancel s).state.test = s.test ∧
    (decideCancel s).state.hlc = s.hlc ∧ (decideCancel s).state.dru = s.dru ∧
    (decideCancel s).state.adu = s.adu ∧ (decideCancel s).state.rpu = s.rpu := by
  unfold decideCancel
  split <;> simp

@[simp] theorem decideReadStatus_frame (page : Byte) (s : State) :
    (decideReadStatus page s).state.pending = s.pending ∧ (decideReadStatus page s).state.steps = s.steps ∧
    (decideReadStatus page s).state.inReset = s.inReset ∧ (decideReadStatus page s).state.clock = s.clock ∧
    (decideReadStatus page s).state.oa = s.oa ∧ (decideReadStatus page s).state.ma = s.ma ∧
    (decideReadStatus page s).state.rif = s.rif ∧ (decideReadStatus page s).state.mga = s.mga ∧
    (decideReadStatus page s).state.moe = s.moe ∧ (decideReadStatus page s).state.env = s.env ∧
    (decideReadStatus page s).state.brs = s.brs ∧ (decideReadStatus page s).state.test = s.test ∧
    (decideReadStatus page s).state.hlc = s.hlc ∧ (decideReadStatus page s).state.dru = s.dru ∧
    (decideReadStatus page s).state.adu = s.adu ∧ (decideReadStatus page s).state.rpu = s.rpu := by
  unfold decideReadStatus
  split <;> simp

@[simp] theorem decideReadTable_frame (body : List Byte) (s : State) :
    (decideReadTable body s).state.pending = s.pending ∧ (decideReadTable body s).state.steps = s.steps ∧
    (decideReadTable body s).state.inReset = s.inReset ∧ (decideReadTable body s).state.clock = s.clock ∧
    (decideReadTable body s).state.oa = s.oa ∧ (decideReadTable body s).state.ma = s.ma ∧
    (decideReadTable body s).state.rif = s.rif ∧ (decideReadTable body s).state.mga = s.mga ∧
    (decideReadTable body s).state.moe = s.moe ∧ (decideReadTable body s).state.env = s.env ∧
    (decideReadTable body s).state.brs = s.brs ∧ (decideReadTable body s).state.test = s.test ∧
    (decideReadTable body s).state.hlc = s.hlc ∧ (decideReadTable body s).state.dru = s.dru ∧
    (decideReadTable body s).state.adu = s.adu ∧ (decideReadTable body s).state.rpu = s.rpu := by
  simp only [decideReadTable]
  (repeat' split) <;> simp

@[simp] theorem decideReadTrips_frame (first : Byte) (s : State) :
    (decideReadTrips first s).state.pending = s.pending ∧ (decideReadTrips first s).state.steps = s.steps ∧
    (decideReadTrips first s).state.inReset = s.inReset ∧ (decideReadTrips first s).state.clock = s.clock ∧
    (decideReadTrips first s).state.oa = s.oa ∧ (decideReadTrips first s).state.ma = s.ma ∧
    (decideReadTrips first s).state.rif = s.rif ∧ (decideReadTrips first s).state.mga = s.mga ∧
    (decideReadTrips first s).state.moe = s.moe ∧ (decideReadTrips first s).state.env = s.env ∧
    (decideReadTrips first s).state.brs = s.brs ∧ (decideReadTrips first s).state.test = s.test ∧
    (decideReadTrips first s).state.hlc = s.hlc ∧ (decideReadTrips first s).state.dru = s.dru ∧
    (decideReadTrips first s).state.adu = s.adu ∧ (decideReadTrips first s).state.rpu = s.rpu := by
  simp [decideReadTrips]

@[simp] theorem decideReadCounters_frame (group first : Byte) (s : State) :
    (decideReadCounters group first s).state.pending = s.pending ∧
    (decideReadCounters group first s).state.steps = s.steps ∧
    (decideReadCounters group first s).state.inReset = s.inReset ∧
    (decideReadCounters group first s).state.clock = s.clock ∧
    (decideReadCounters group first s).state.oa = s.oa ∧ (decideReadCounters group first s).state.ma = s.ma ∧
    (decideReadCounters group first s).state.rif = s.rif ∧
    (decideReadCounters group first s).state.mga = s.mga ∧
    (decideReadCounters group first s).state.moe = s.moe ∧
    (decideReadCounters group first s).state.env = s.env ∧
    (decideReadCounters group first s).state.brs = s.brs ∧
    (decideReadCounters group first s).state.test = s.test ∧
    (decideReadCounters group first s).state.hlc = s.hlc ∧
    (decideReadCounters group first s).state.dru = s.dru ∧
    (decideReadCounters group first s).state.adu = s.adu ∧
    (decideReadCounters group first s).state.rpu = s.rpu := by
  unfold decideReadCounters
  split <;> simp

@[simp] theorem decideClearCounters_frame (group : Byte) (s : State) :
    (decideClearCounters group s).state.pending = s.pending ∧
    (decideClearCounters group s).state.steps = s.steps ∧
    (decideClearCounters group s).state.inReset = s.inReset ∧
    (decideClearCounters group s).state.clock = s.clock ∧ (decideClearCounters group s).state.oa = s.oa ∧
    (decideClearCounters group s).state.ma = s.ma ∧ (decideClearCounters group s).state.mga = s.mga ∧
    (decideClearCounters group s).state.env = s.env ∧ (decideClearCounters group s).state.brs = s.brs ∧
    (decideClearCounters group s).state.test = s.test ∧ (decideClearCounters group s).state.hlc = s.hlc ∧
    (decideClearCounters group s).state.dru = s.dru := by
  unfold decideClearCounters
  (repeat' split) <;> simp

@[simp] theorem decideClearFlags_frame (s : State) :
    (decideClearFlags s).state.pending = s.pending ∧ (decideClearFlags s).state.steps = s.steps ∧
    (decideClearFlags s).state.inReset = s.inReset ∧ (decideClearFlags s).state.clock = s.clock ∧
    (decideClearFlags s).state.oa = s.oa ∧ (decideClearFlags s).state.ma = s.ma ∧
    (decideClearFlags s).state.mga = s.mga ∧ (decideClearFlags s).state.moe = s.moe ∧
    (decideClearFlags s).state.env = s.env ∧ (decideClearFlags s).state.brs = s.brs ∧
    (decideClearFlags s).state.test = s.test ∧ (decideClearFlags s).state.hlc = s.hlc ∧
    (decideClearFlags s).state.dru = s.dru ∧ (decideClearFlags s).state.adu = s.adu ∧
    (decideClearFlags s).state.rpu = s.rpu := by
  simp [decideClearFlags]

@[simp] theorem decideSetDay_frame (day : BitVec 16) (s : State) :
    (decideSetDay day s).state.pending = s.pending ∧ (decideSetDay day s).state.steps = s.steps ∧
    (decideSetDay day s).state.inReset = s.inReset ∧ (decideSetDay day s).state.clock = s.clock ∧
    (decideSetDay day s).state.oa = s.oa ∧ (decideSetDay day s).state.ma = s.ma ∧
    (decideSetDay day s).state.rif = s.rif ∧ (decideSetDay day s).state.moe = s.moe ∧
    (decideSetDay day s).state.env = s.env ∧ (decideSetDay day s).state.brs = s.brs ∧
    (decideSetDay day s).state.test = s.test ∧ (decideSetDay day s).state.hlc = s.hlc ∧
    (decideSetDay day s).state.dru = s.dru ∧ (decideSetDay day s).state.adu = s.adu ∧
    (decideSetDay day s).state.rpu = s.rpu := by
  simp [decideSetDay]

@[simp] theorem decideReference_frame (stop : Byte) (s : State) :
    (decideReference stop s).state.pending = s.pending ∧ (decideReference stop s).state.steps = s.steps ∧
    (decideReference stop s).state.inReset = s.inReset ∧ (decideReference stop s).state.clock = s.clock ∧
    (decideReference stop s).state.oa = s.oa ∧ (decideReference stop s).state.ma = s.ma ∧
    (decideReference stop s).state.mga = s.mga := by
  unfold decideReference
  (repeat' split) <;> simp

@[simp] theorem decideTripReset_frame (s : State) :
    (decideTripReset s).state.pending = s.pending ∧ (decideTripReset s).state.steps = s.steps ∧
    (decideTripReset s).state.inReset = s.inReset ∧ (decideTripReset s).state.clock = s.clock ∧
    (decideTripReset s).state.oa = s.oa ∧ (decideTripReset s).state.ma = s.ma ∧
    (decideTripReset s).state.rif = s.rif ∧ (decideTripReset s).state.mga = s.mga ∧
    (decideTripReset s).state.moe = s.moe ∧ (decideTripReset s).state.test = s.test ∧
    (decideTripReset s).state.dru = s.dru ∧ (decideTripReset s).state.rpu = s.rpu := by
  unfold decideTripReset
  (repeat' split) <;> simp

@[simp] theorem decideManualTrip_frame (s : State) :
    (decideManualTrip s).state.pending = s.pending ∧ (decideManualTrip s).state.steps = s.steps ∧
    (decideManualTrip s).state.inReset = s.inReset ∧ (decideManualTrip s).state.clock = s.clock ∧
    (decideManualTrip s).state.oa = s.oa ∧ (decideManualTrip s).state.ma = s.ma ∧
    (decideManualTrip s).state.mga = s.mga ∧ (decideManualTrip s).state.moe = s.moe ∧
    (decideManualTrip s).state.dru = s.dru := by
  simp [decideManualTrip]

@[simp] theorem decideBrakeTest_frame (mask : Byte) (v : Nat) (s : State) :
    (decideBrakeTest mask v s).state.pending = s.pending ∧ (decideBrakeTest mask v s).state.steps = s.steps ∧
    (decideBrakeTest mask v s).state.inReset = s.inReset ∧ (decideBrakeTest mask v s).state.clock = s.clock ∧
    (decideBrakeTest mask v s).state.oa = s.oa ∧ (decideBrakeTest mask v s).state.ma = s.ma ∧
    (decideBrakeTest mask v s).state.rif = s.rif ∧ (decideBrakeTest mask v s).state.mga = s.mga ∧
    (decideBrakeTest mask v s).state.moe = s.moe ∧ (decideBrakeTest mask v s).state.env = s.env ∧
    (decideBrakeTest mask v s).state.brs = s.brs ∧ (decideBrakeTest mask v s).state.hlc = s.hlc ∧
    (decideBrakeTest mask v s).state.dru = s.dru ∧ (decideBrakeTest mask v s).state.adu = s.adu ∧
    (decideBrakeTest mask v s).state.rpu = s.rpu := by
  unfold decideBrakeTest
  (repeat' split) <;> simp

@[simp] theorem abortWaiting_frame (id : StageId) (s : State) :
    (abortWaiting id s).pending = s.pending ∧ (abortWaiting id s).steps = s.steps ∧
    (abortWaiting id s).inReset = s.inReset ∧ (abortWaiting id s).clock = s.clock ∧
    (abortWaiting id s).oa = s.oa ∧ (abortWaiting id s).ma = s.ma ∧ (abortWaiting id s).mga = s.mga ∧
    (abortWaiting id s).moe = s.moe ∧ (abortWaiting id s).env = s.env ∧ (abortWaiting id s).brs = s.brs ∧
    (abortWaiting id s).hlc = s.hlc ∧ (abortWaiting id s).dru = s.dru ∧ (abortWaiting id s).adu = s.adu := by
  simp [abortWaiting]

@[simp] theorem decideAbort_frame (s : State) :
    (decideAbort s).state.pending = s.pending ∧ (decideAbort s).state.steps = s.steps ∧
    (decideAbort s).state.inReset = s.inReset ∧ (decideAbort s).state.clock = s.clock ∧
    (decideAbort s).state.oa = s.oa ∧ (decideAbort s).state.ma = s.ma ∧ (decideAbort s).state.mga = s.mga ∧
    (decideAbort s).state.moe = s.moe ∧ (decideAbort s).state.env = s.env ∧ (decideAbort s).state.brs = s.brs ∧
    (decideAbort s).state.hlc = s.hlc ∧ (decideAbort s).state.dru = s.dru ∧
    (decideAbort s).state.adu = s.adu := by
  unfold decideAbort
  (repeat' split) <;> simp

@[simp] theorem reinitHlc_frame (s : State) :
    (reinitHlc s).pending = s.pending ∧ (reinitHlc s).steps = s.steps ∧ (reinitHlc s).inReset = s.inReset ∧
    (reinitHlc s).clock = s.clock ∧ (reinitHlc s).oa = s.oa ∧ (reinitHlc s).ma = s.ma ∧
    (reinitHlc s).rif = s.rif ∧ (reinitHlc s).mga = s.mga ∧ (reinitHlc s).moe = s.moe ∧
    (reinitHlc s).env = s.env ∧ (reinitHlc s).brs = s.brs ∧ (reinitHlc s).test = s.test ∧
    (reinitHlc s).dru = s.dru ∧ (reinitHlc s).adu = s.adu ∧ (reinitHlc s).rpu = s.rpu := by
  simp [reinitHlc]

@[simp] theorem reinit_frame (s : State) :
    (reinit s).pending = s.pending ∧ (reinit s).steps = s.steps ∧ (reinit s).inReset = s.inReset ∧
    (reinit s).clock = s.clock ∧ (reinit s).oa = s.oa ∧ (reinit s).ma = s.ma := by
  simp [reinit]

@[simp] theorem decideReinit_frame (s : State) :
    (decideReinit s).state.pending = s.pending ∧ (decideReinit s).state.steps = s.steps ∧
    (decideReinit s).state.inReset = s.inReset ∧ (decideReinit s).state.clock = s.clock ∧
    (decideReinit s).state.oa = s.oa ∧ (decideReinit s).state.ma = s.ma := by
  unfold decideReinit
  split <;> simp

@[simp] theorem Request.decide_frame (r : Request) (body : List Byte) (s : State) :
    (r.decide body s).state.pending = s.pending ∧ (r.decide body s).state.steps = s.steps ∧
    (r.decide body s).state.inReset = s.inReset ∧ (r.decide body s).state.clock = s.clock ∧
    (r.decide body s).state.oa = s.oa ∧ (r.decide body s).state.ma = s.ma := by
  cases r <;> simp [Request.decide]

@[simp] theorem decideRequest_frame (code : Byte) (body : List Byte) (s : State) :
    (decideRequest code body s).state.pending = s.pending ∧ (decideRequest code body s).state.steps = s.steps ∧
    (decideRequest code body s).state.inReset = s.inReset ∧ (decideRequest code body s).state.clock = s.clock ∧
    (decideRequest code body s).state.oa = s.oa ∧ (decideRequest code body s).state.ma = s.ma := by
  unfold decideRequest
  (repeat' split) <;> simp

@[simp] theorem takeRequest_frame (f : Frame) (s : State) :
    (takeRequest f s).pending = s.pending ∧ (takeRequest f s).steps = s.steps ∧
    (takeRequest f s).inReset = s.inReset ∧ (takeRequest f s).clock = s.clock ∧ (takeRequest f s).oa = s.oa ∧
    (takeRequest f s).ma = s.ma := by
  simp [takeRequest]

@[simp] theorem openLine_frame (s : State) :
    (openLine s).2.pending = s.pending ∧ (openLine s).2.steps = s.steps ∧ (openLine s).2.inReset = s.inReset ∧
    (openLine s).2.clock = s.clock ∧ (openLine s).2.oa = s.oa ∧ (openLine s).2.ma = s.ma ∧
    (openLine s).2.rif = s.rif ∧ (openLine s).2.mga = s.mga ∧ (openLine s).2.moe = s.moe ∧
    (openLine s).2.test = s.test ∧ (openLine s).2.dru = s.dru ∧ (openLine s).2.rpu = s.rpu := by
  unfold openLine
  (repeat' split) <;> simp

@[simp] theorem closeBoarding_frame (s : State) :
    (closeBoarding s).2.pending = s.pending ∧ (closeBoarding s).2.steps = s.steps ∧
    (closeBoarding s).2.inReset = s.inReset ∧ (closeBoarding s).2.clock = s.clock ∧
    (closeBoarding s).2.oa = s.oa ∧ (closeBoarding s).2.ma = s.ma ∧ (closeBoarding s).2.rif = s.rif ∧
    (closeBoarding s).2.mga = s.mga ∧ (closeBoarding s).2.moe = s.moe ∧ (closeBoarding s).2.env = s.env ∧
    (closeBoarding s).2.brs = s.brs ∧ (closeBoarding s).2.test = s.test ∧ (closeBoarding s).2.dru = s.dru ∧
    (closeBoarding s).2.adu = s.adu ∧ (closeBoarding s).2.rpu = s.rpu := by
  unfold closeBoarding
  split <;> simp

@[simp] theorem departLine_frame (target : Nat) (s : State) :
    (departLine target s).2.pending = s.pending ∧ (departLine target s).2.steps = s.steps ∧
    (departLine target s).2.inReset = s.inReset ∧ (departLine target s).2.clock = s.clock ∧
    (departLine target s).2.oa = s.oa ∧ (departLine target s).2.ma = s.ma ∧
    (departLine target s).2.rif = s.rif ∧ (departLine target s).2.mga = s.mga ∧
    (departLine target s).2.moe = s.moe ∧ (departLine target s).2.test = s.test ∧
    (departLine target s).2.dru = s.dru ∧ (departLine target s).2.adu = s.adu ∧
    (departLine target s).2.rpu = s.rpu := by
  unfold departLine
  (repeat' split) <;> simp

@[simp] theorem stopLine_frame (s : State) :
    (stopLine s).2.pending = s.pending ∧ (stopLine s).2.steps = s.steps ∧ (stopLine s).2.inReset = s.inReset ∧
    (stopLine s).2.clock = s.clock ∧ (stopLine s).2.oa = s.oa ∧ (stopLine s).2.ma = s.ma ∧
    (stopLine s).2.mga = s.mga ∧ (stopLine s).2.moe = s.moe ∧ (stopLine s).2.dru = s.dru := by
  unfold stopLine
  split <;> simp

@[simp] theorem parkLine_frame (s : State) :
    (parkLine s).2.pending = s.pending ∧ (parkLine s).2.steps = s.steps ∧ (parkLine s).2.inReset = s.inReset ∧
    (parkLine s).2.clock = s.clock ∧ (parkLine s).2.oa = s.oa ∧ (parkLine s).2.ma = s.ma ∧
    (parkLine s).2.mga = s.mga ∧ (parkLine s).2.moe = s.moe ∧ (parkLine s).2.test = s.test ∧
    (parkLine s).2.dru = s.dru := by
  unfold parkLine
  (repeat' split) <;> simp

@[simp] theorem decideLine_frame (command argument : Byte) (s : State) :
    (decideLine command argument s).2.pending = s.pending ∧ (decideLine command argument s).2.steps = s.steps ∧
    (decideLine command argument s).2.inReset = s.inReset ∧ (decideLine command argument s).2.clock = s.clock ∧
    (decideLine command argument s).2.oa = s.oa ∧ (decideLine command argument s).2.ma = s.ma ∧
    (decideLine command argument s).2.mga = s.mga ∧ (decideLine command argument s).2.moe = s.moe ∧
    (decideLine command argument s).2.dru = s.dru := by
  unfold decideLine
  (repeat' split) <;> simp

@[simp] theorem takeLineCmd_frame (f : Frame) (s : State) :
    (takeLineCmd f s).pending = s.pending ∧ (takeLineCmd f s).steps = s.steps ∧
    (takeLineCmd f s).inReset = s.inReset ∧ (takeLineCmd f s).clock = s.clock ∧ (takeLineCmd f s).oa = s.oa ∧
    (takeLineCmd f s).ma = s.ma ∧ (takeLineCmd f s).mga = s.mga ∧ (takeLineCmd f s).moe = s.moe ∧
    (takeLineCmd f s).dru = s.dru := by
  simp [takeLineCmd]

@[simp] theorem takeDoorReq_frame (f : Frame) (s : State) :
    (takeDoorReq f s).pending = s.pending ∧ (takeDoorReq f s).steps = s.steps ∧
    (takeDoorReq f s).inReset = s.inReset ∧ (takeDoorReq f s).clock = s.clock ∧ (takeDoorReq f s).oa = s.oa ∧
    (takeDoorReq f s).ma = s.ma ∧ (takeDoorReq f s).mga = s.mga ∧ (takeDoorReq f s).moe = s.moe := by
  simp [takeDoorReq]

@[simp] theorem armExpiry_frame (s : State) :
    (armExpiry s).pending = s.pending ∧ (armExpiry s).steps = s.steps ∧ (armExpiry s).inReset = s.inReset ∧
    (armExpiry s).clock = s.clock ∧ (armExpiry s).oa = s.oa ∧ (armExpiry s).ma = s.ma ∧
    (armExpiry s).mga = s.mga ∧ (armExpiry s).moe = s.moe ∧ (armExpiry s).test = s.test ∧
    (armExpiry s).dru = s.dru := by
  unfold armExpiry
  split <;> simp

@[simp] theorem driveLost_frame (s : State) :
    (driveLost s).pending = s.pending ∧ (driveLost s).steps = s.steps ∧ (driveLost s).inReset = s.inReset ∧
    (driveLost s).clock = s.clock ∧ (driveLost s).oa = s.oa ∧ (driveLost s).ma = s.ma ∧
    (driveLost s).mga = s.mga ∧ (driveLost s).moe = s.moe ∧ (driveLost s).dru = s.dru := by
  unfold driveLost
  split <;> simp

@[simp] theorem takeDrive_frame (p : List Byte) (s : State) :
    (takeDrive p s).pending = s.pending ∧ (takeDrive p s).steps = s.steps ∧
    (takeDrive p s).inReset = s.inReset ∧ (takeDrive p s).clock = s.clock ∧ (takeDrive p s).oa = s.oa ∧
    (takeDrive p s).ma = s.ma ∧ (takeDrive p s).mga = s.mga ∧ (takeDrive p s).moe = s.moe ∧
    (takeDrive p s).dru = s.dru := by
  unfold takeDrive
  split <;> simp

@[simp] theorem driveExpiry_frame (s : State) :
    (driveExpiry s).pending = s.pending ∧ (driveExpiry s).steps = s.steps ∧
    (driveExpiry s).inReset = s.inReset ∧ (driveExpiry s).clock = s.clock ∧ (driveExpiry s).oa = s.oa ∧
    (driveExpiry s).ma = s.ma ∧ (driveExpiry s).mga = s.mga ∧ (driveExpiry s).moe = s.moe ∧
    (driveExpiry s).dru = s.dru := by
  unfold driveExpiry
  split <;> simp

@[simp] theorem judgePeriod_frame (l : Line) (s : State) :
    (judgePeriod l s).pending = s.pending ∧ (judgePeriod l s).steps = s.steps ∧
    (judgePeriod l s).inReset = s.inReset ∧ (judgePeriod l s).clock = s.clock ∧ (judgePeriod l s).oa = s.oa ∧
    (judgePeriod l s).ma = s.ma ∧ (judgePeriod l s).mga = s.mga ∧ (judgePeriod l s).moe = s.moe ∧
    (judgePeriod l s).dru = s.dru := by
  simp only [judgePeriod]
  (repeat' split) <;> simp

@[simp] theorem supervisionExpiry_frame (s : State) :
    (supervisionExpiry s).pending = s.pending ∧ (supervisionExpiry s).steps = s.steps ∧
    (supervisionExpiry s).inReset = s.inReset ∧ (supervisionExpiry s).clock = s.clock ∧
    (supervisionExpiry s).oa = s.oa ∧ (supervisionExpiry s).ma = s.ma ∧ (supervisionExpiry s).mga = s.mga ∧
    (supervisionExpiry s).moe = s.moe ∧ (supervisionExpiry s).dru = s.dru := by
  unfold supervisionExpiry
  (repeat' split) <;> simp

@[simp] theorem lossExpiry_frame (s : State) :
    (lossExpiry s).pending = s.pending ∧ (lossExpiry s).steps = s.steps ∧ (lossExpiry s).inReset = s.inReset ∧
    (lossExpiry s).clock = s.clock ∧ (lossExpiry s).oa = s.oa ∧ (lossExpiry s).ma = s.ma ∧
    (lossExpiry s).mga = s.mga ∧ (lossExpiry s).moe = s.moe ∧ (lossExpiry s).dru = s.dru := by
  unfold lossExpiry
  split <;> simp

@[simp] theorem rawChange_frame (p : Pin) (level : Level) (s : State) :
    (rawChange p level s).pending = s.pending ∧ (rawChange p level s).steps = s.steps ∧
    (rawChange p level s).inReset = s.inReset ∧ (rawChange p level s).clock = s.clock ∧
    (rawChange p level s).oa = s.oa ∧ (rawChange p level s).ma = s.ma ∧ (rawChange p level s).rif = s.rif ∧
    (rawChange p level s).mga = s.mga ∧ (rawChange p level s).moe = s.moe ∧ (rawChange p level s).env = s.env ∧
    (rawChange p level s).test = s.test ∧ (rawChange p level s).hlc = s.hlc ∧
    (rawChange p level s).dru = s.dru ∧ (rawChange p level s).adu = s.adu ∧
    (rawChange p level s).rpu = s.rpu := by
  unfold rawChange
  split <;> simp

@[simp] theorem raiseEstop_frame (v : Int) (latches : Bool) (s : State) :
    (raiseEstop v latches s).pending = s.pending ∧ (raiseEstop v latches s).steps = s.steps ∧
    (raiseEstop v latches s).inReset = s.inReset ∧ (raiseEstop v latches s).clock = s.clock ∧
    (raiseEstop v latches s).oa = s.oa ∧ (raiseEstop v latches s).ma = s.ma ∧
    (raiseEstop v latches s).mga = s.mga ∧ (raiseEstop v latches s).moe = s.moe ∧
    (raiseEstop v latches s).env = s.env ∧ (raiseEstop v latches s).brs = s.brs ∧
    (raiseEstop v latches s).test = s.test ∧ (raiseEstop v latches s).hlc = s.hlc ∧
    (raiseEstop v latches s).dru = s.dru ∧ (raiseEstop v latches s).adu = s.adu := by
  simp [raiseEstop]

@[simp] theorem chainOpened_frame (s : State) :
    (chainOpened s).pending = s.pending ∧ (chainOpened s).steps = s.steps ∧
    (chainOpened s).inReset = s.inReset ∧ (chainOpened s).clock = s.clock ∧ (chainOpened s).oa = s.oa ∧
    (chainOpened s).ma = s.ma ∧ (chainOpened s).mga = s.mga ∧ (chainOpened s).moe = s.moe ∧
    (chainOpened s).dru = s.dru := by
  simp [chainOpened]

@[simp] theorem debounceExpiry_frame (p : Pin) (s : State) :
    (debounceExpiry p s).pending = s.pending ∧ (debounceExpiry p s).steps = s.steps ∧
    (debounceExpiry p s).inReset = s.inReset ∧ (debounceExpiry p s).clock = s.clock ∧
    (debounceExpiry p s).oa = s.oa ∧ (debounceExpiry p s).ma = s.ma ∧ (debounceExpiry p s).mga = s.mga ∧
    (debounceExpiry p s).moe = s.moe ∧ (debounceExpiry p s).dru = s.dru := by
  simp only [debounceExpiry]
  (repeat' split) <;> simp

end Sys2Proof.Machine
end

