-- ==== Sys2Proof/Laws/FrameRing.lean ====
section
/-! SUPPORT. What the Ring Interface's operations leave alone. -/

namespace Sys2Proof.Machine

@[simp] theorem begin_frame (elapsed : Time) (s : State) :
    (begin elapsed s).pending = s.pending ∧ (begin elapsed s).inReset = s.inReset ∧
    (begin elapsed s).clock = s.clock + elapsed ∧ (begin elapsed s).steps = s.steps + 1 ∧
    (begin elapsed s).oa = s.oa ∧ (begin elapsed s).ma = s.ma ∧ (begin elapsed s).rif = s.rif ∧
    (begin elapsed s).mga = s.mga ∧ (begin elapsed s).moe = s.moe ∧ (begin elapsed s).env = s.env ∧
    (begin elapsed s).brs = s.brs ∧ (begin elapsed s).test = s.test ∧ (begin elapsed s).hlc = s.hlc ∧
    (begin elapsed s).dru = s.dru ∧ (begin elapsed s).adu = s.adu ∧ (begin elapsed s).rpu = s.rpu := by
  simp [begin]

@[simp] theorem dropFrame_frame (e : LinkError) (s : State) :
    (dropFrame e s).pending = s.pending ∧ (dropFrame e s).steps = s.steps ∧
    (dropFrame e s).inReset = s.inReset ∧ (dropFrame e s).clock = s.clock ∧ (dropFrame e s).oa = s.oa ∧
    (dropFrame e s).ma = s.ma ∧ (dropFrame e s).mga = s.mga ∧ (dropFrame e s).moe = s.moe ∧
    (dropFrame e s).env = s.env ∧ (dropFrame e s).brs = s.brs ∧ (dropFrame e s).test = s.test ∧
    (dropFrame e s).hlc = s.hlc ∧ (dropFrame e s).dru = s.dru ∧ (dropFrame e s).adu = s.adu := by
  unfold dropFrame
  split <;> simp

@[simp] theorem mismatch_frame (f : Frame) (outcome : Byte) (s : State) :
    (mismatch f outcome s).pending = s.pending ∧ (mismatch f outcome s).steps = s.steps ∧
    (mismatch f outcome s).inReset = s.inReset ∧ (mismatch f outcome s).clock = s.clock ∧
    (mismatch f outcome s).oa = s.oa ∧ (mismatch f outcome s).ma = s.ma ∧ (mismatch f outcome s).mga = s.mga ∧
    (mismatch f outcome s).moe = s.moe ∧ (mismatch f outcome s).env = s.env ∧
    (mismatch f outcome s).brs = s.brs ∧ (mismatch f outcome s).test = s.test ∧
    (mismatch f outcome s).hlc = s.hlc ∧ (mismatch f outcome s).dru = s.dru ∧
    (mismatch f outcome s).adu = s.adu := by
  simp [mismatch]

@[simp] theorem passUnread_frame (f : Frame) (s : State) :
    (passUnread f s).pending = s.pending ∧ (passUnread f s).steps = s.steps ∧
    (passUnread f s).inReset = s.inReset ∧ (passUnread f s).clock = s.clock ∧ (passUnread f s).oa = s.oa ∧
    (passUnread f s).ma = s.ma ∧ (passUnread f s).mga = s.mga ∧ (passUnread f s).moe = s.moe ∧
    (passUnread f s).env = s.env ∧ (passUnread f s).brs = s.brs ∧ (passUnread f s).test = s.test ∧
    (passUnread f s).hlc = s.hlc ∧ (passUnread f s).dru = s.dru ∧ (passUnread f s).adu = s.adu ∧
    (passUnread f s).rpu = s.rpu := by
  unfold passUnread
  split <;> simp

@[simp] theorem rejectRead_frame (f : Frame) (s : State) :
    (rejectRead f s).pending = s.pending ∧ (rejectRead f s).steps = s.steps ∧
    (rejectRead f s).inReset = s.inReset ∧ (rejectRead f s).clock = s.clock ∧ (rejectRead f s).oa = s.oa ∧
    (rejectRead f s).ma = s.ma ∧ (rejectRead f s).mga = s.mga ∧ (rejectRead f s).moe = s.moe ∧
    (rejectRead f s).env = s.env ∧ (rejectRead f s).brs = s.brs ∧ (rejectRead f s).test = s.test ∧
    (rejectRead f s).hlc = s.hlc ∧ (rejectRead f s).dru = s.dru ∧ (rejectRead f s).adu = s.adu := by
  unfold rejectRead
  split <;> simp

@[simp] theorem dealSheave_frame (f : Frame) (s : State) :
    (dealSheave f s).pending = s.pending ∧ (dealSheave f s).steps = s.steps ∧
    (dealSheave f s).inReset = s.inReset ∧ (dealSheave f s).clock = s.clock ∧ (dealSheave f s).oa = s.oa ∧
    (dealSheave f s).ma = s.ma ∧ (dealSheave f s).mga = s.mga := by
  cases h : sheaveChannelOf (s.roleOf f.src)
  all_goals simp only [dealSheave, dealRead, h, Option.map, readFrame]
  all_goals (repeat' split) <;> simp

@[simp] theorem dealCar_frame (f : Frame) (s : State) :
    (dealCar f s).pending = s.pending ∧ (dealCar f s).steps = s.steps ∧ (dealCar f s).inReset = s.inReset ∧
    (dealCar f s).clock = s.clock ∧ (dealCar f s).oa = s.oa ∧ (dealCar f s).ma = s.ma ∧
    (dealCar f s).mga = s.mga := by
  cases h : carOfRole (s.roleOf f.src)
  all_goals simp only [dealCar, dealRead, h, Option.map, readFrame]
  all_goals (repeat' split) <;> simp

@[simp] theorem dealMarker_frame (f : Frame) (s : State) :
    (dealMarker f s).pending = s.pending ∧ (dealMarker f s).steps = s.steps ∧
    (dealMarker f s).inReset = s.inReset ∧ (dealMarker f s).clock = s.clock ∧ (dealMarker f s).oa = s.oa ∧
    (dealMarker f s).ma = s.ma ∧ (dealMarker f s).mga = s.mga := by
  by_cases h : s.roleOf f.src = some .markerReader
  all_goals simp only [dealMarker, dealRead, h, readFrame, reduceIte]
  all_goals (repeat' split) <;> simp

@[simp] theorem dealDrive_frame (f : Frame) (s : State) :
    (dealDrive f s).pending = s.pending ∧ (dealDrive f s).steps = s.steps ∧
    (dealDrive f s).inReset = s.inReset ∧ (dealDrive f s).clock = s.clock ∧ (dealDrive f s).oa = s.oa ∧
    (dealDrive f s).ma = s.ma ∧ (dealDrive f s).mga = s.mga ∧ (dealDrive f s).moe = s.moe ∧
    (dealDrive f s).dru = s.dru := by
  by_cases h : s.roleOf f.src = some .drive
  all_goals simp only [dealDrive, dealRead, h, readFrame, reduceIte]
  all_goals (repeat' split) <;> simp

@[simp] theorem dealDoorState_frame (f : Frame) (s : State) :
    (dealDoorState f s).pending = s.pending ∧ (dealDoorState f s).steps = s.steps ∧
    (dealDoorState f s).inReset = s.inReset ∧ (dealDoorState f s).clock = s.clock ∧
    (dealDoorState f s).oa = s.oa ∧ (dealDoorState f s).ma = s.ma ∧ (dealDoorState f s).mga = s.mga ∧
    (dealDoorState f s).moe = s.moe := by
  cases h : carOfRole (s.roleOf f.src)
  all_goals simp only [dealDoorState, dealRead, h, Option.map, readFrame]
  all_goals (repeat' split) <;> simp

@[simp] theorem dealSetpoint_frame (f : Frame) (s : State) :
    (dealSetpoint f s).pending = s.pending ∧ (dealSetpoint f s).steps = s.steps ∧
    (dealSetpoint f s).inReset = s.inReset ∧ (dealSetpoint f s).clock = s.clock ∧ (dealSetpoint f s).oa = s.oa ∧
    (dealSetpoint f s).ma = s.ma ∧ (dealSetpoint f s).mga = s.mga ∧ (dealSetpoint f s).moe = s.moe ∧
    (dealSetpoint f s).env = s.env ∧ (dealSetpoint f s).brs = s.brs ∧ (dealSetpoint f s).test = s.test ∧
    (dealSetpoint f s).hlc = s.hlc ∧ (dealSetpoint f s).dru = s.dru ∧ (dealSetpoint f s).adu = s.adu := by
  unfold dealSetpoint
  (repeat' split) <;> simp

@[simp] theorem dropRequest_frame (f : Frame) (s : State) :
    (dropRequest f s).pending = s.pending ∧ (dropRequest f s).steps = s.steps ∧
    (dropRequest f s).inReset = s.inReset ∧ (dropRequest f s).clock = s.clock ∧ (dropRequest f s).oa = s.oa ∧
    (dropRequest f s).ma = s.ma ∧ (dropRequest f s).mga = s.mga ∧ (dropRequest f s).moe = s.moe ∧
    (dropRequest f s).env = s.env ∧ (dropRequest f s).brs = s.brs ∧ (dropRequest f s).test = s.test ∧
    (dropRequest f s).hlc = s.hlc ∧ (dropRequest f s).dru = s.dru ∧ (dropRequest f s).adu = s.adu := by
  simp [dropRequest]

@[simp] theorem dealLineCmd_frame (f : Frame) (s : State) :
    (dealLineCmd f s).pending = s.pending ∧ (dealLineCmd f s).steps = s.steps ∧
    (dealLineCmd f s).inReset = s.inReset ∧ (dealLineCmd f s).clock = s.clock ∧ (dealLineCmd f s).oa = s.oa ∧
    (dealLineCmd f s).ma = s.ma ∧ (dealLineCmd f s).mga = s.mga ∧ (dealLineCmd f s).moe = s.moe ∧
    (dealLineCmd f s).dru = s.dru := by
  simp only [dealLineCmd, dealRequest, takeIfRoom]
  (repeat' split) <;> simp_all

@[simp] theorem dealDoorReq_frame (f : Frame) (s : State) :
    (dealDoorReq f s).pending = s.pending ∧ (dealDoorReq f s).steps = s.steps ∧
    (dealDoorReq f s).inReset = s.inReset ∧ (dealDoorReq f s).clock = s.clock ∧ (dealDoorReq f s).oa = s.oa ∧
    (dealDoorReq f s).ma = s.ma ∧ (dealDoorReq f s).mga = s.mga ∧ (dealDoorReq f s).moe = s.moe := by
  simp only [dealDoorReq, dealRequest, takeIfRoom]
  (repeat' split) <;> simp_all

@[simp] theorem dealMgmtReq_frame (f : Frame) (s : State) :
    (dealMgmtReq f s).pending = s.pending ∧ (dealMgmtReq f s).steps = s.steps ∧
    (dealMgmtReq f s).inReset = s.inReset ∧ (dealMgmtReq f s).clock = s.clock ∧ (dealMgmtReq f s).oa = s.oa ∧
    (dealMgmtReq f s).ma = s.ma := by
  simp only [dealMgmtReq, dealRequest, takeIfRoom]
  (repeat' split) <;> simp_all

@[simp] theorem dealTicket_frame (f : Frame) (s : State) :
    (dealTicket f s).pending = s.pending ∧ (dealTicket f s).steps = s.steps ∧
    (dealTicket f s).inReset = s.inReset ∧ (dealTicket f s).clock = s.clock ∧ (dealTicket f s).oa = s.oa ∧
    (dealTicket f s).ma = s.ma ∧ (dealTicket f s).mga = s.mga ∧ (dealTicket f s).moe = s.moe ∧
    (dealTicket f s).env = s.env ∧ (dealTicket f s).brs = s.brs ∧ (dealTicket f s).test = s.test ∧
    (dealTicket f s).hlc = s.hlc ∧ (dealTicket f s).dru = s.dru := by
  unfold dealTicket
  (repeat' split) <;> simp

@[simp] theorem dealGatePass_frame (f : Frame) (s : State) :
    (dealGatePass f s).pending = s.pending ∧ (dealGatePass f s).steps = s.steps ∧
    (dealGatePass f s).inReset = s.inReset ∧ (dealGatePass f s).clock = s.clock ∧ (dealGatePass f s).oa = s.oa ∧
    (dealGatePass f s).ma = s.ma ∧ (dealGatePass f s).mga = s.mga ∧ (dealGatePass f s).moe = s.moe ∧
    (dealGatePass f s).env = s.env ∧ (dealGatePass f s).brs = s.brs ∧ (dealGatePass f s).test = s.test ∧
    (dealGatePass f s).hlc = s.hlc ∧ (dealGatePass f s).dru = s.dru := by
  unfold dealGatePass
  (repeat' split) <;> simp

@[simp] theorem dealUnhandled_frame (f : Frame) (s : State) :
    (dealUnhandled f s).pending = s.pending ∧ (dealUnhandled f s).steps = s.steps ∧
    (dealUnhandled f s).inReset = s.inReset ∧ (dealUnhandled f s).clock = s.clock ∧
    (dealUnhandled f s).oa = s.oa ∧ (dealUnhandled f s).ma = s.ma ∧ (dealUnhandled f s).mga = s.mga ∧
    (dealUnhandled f s).moe = s.moe ∧ (dealUnhandled f s).env = s.env ∧ (dealUnhandled f s).brs = s.brs ∧
    (dealUnhandled f s).test = s.test ∧ (dealUnhandled f s).hlc = s.hlc ∧ (dealUnhandled f s).dru = s.dru ∧
    (dealUnhandled f s).adu = s.adu ∧ (dealUnhandled f s).rpu = s.rpu := by
  unfold dealUnhandled
  split <;> simp

@[simp] theorem dealKind_frame (f : Frame) (s : State) :
    (dealKind f s).pending = s.pending ∧ (dealKind f s).steps = s.steps ∧ (dealKind f s).inReset = s.inReset ∧
    (dealKind f s).clock = s.clock ∧ (dealKind f s).oa = s.oa ∧ (dealKind f s).ma = s.ma := by
  unfold dealKind
  split <;> simp

@[simp] theorem disposeGood_frame (f : Frame) (s : State) :
    (disposeGood f s).pending = s.pending ∧ (disposeGood f s).steps = s.steps ∧
    (disposeGood f s).inReset = s.inReset ∧ (disposeGood f s).clock = s.clock ∧ (disposeGood f s).oa = s.oa ∧
    (disposeGood f s).ma = s.ma := by
  unfold disposeGood
  split <;> simp

@[simp] theorem disposeFault_frame (f : Frame) (s : State) :
    (disposeFault f s).pending = s.pending ∧ (disposeFault f s).steps = s.steps ∧
    (disposeFault f s).inReset = s.inReset ∧ (disposeFault f s).clock = s.clock ∧ (disposeFault f s).oa = s.oa ∧
    (disposeFault f s).ma = s.ma ∧ (disposeFault f s).mga = s.mga ∧ (disposeFault f s).moe = s.moe ∧
    (disposeFault f s).env = s.env ∧ (disposeFault f s).brs = s.brs ∧ (disposeFault f s).test = s.test ∧
    (disposeFault f s).hlc = s.hlc ∧ (disposeFault f s).dru = s.dru ∧ (disposeFault f s).adu = s.adu ∧
    (disposeFault f s).rpu = s.rpu := by
  unfold disposeFault
  (repeat' split) <;> simp

@[simp] theorem takeFrame_frame (rx : List Byte) (s : State) :
    (takeFrame rx s).pending = s.pending ∧ (takeFrame rx s).steps = s.steps ∧
    (takeFrame rx s).inReset = s.inReset ∧ (takeFrame rx s).clock = s.clock ∧ (takeFrame rx s).oa = s.oa ∧
    (takeFrame rx s).ma = s.ma := by
  unfold takeFrame
  (repeat' split) <;> simp

@[simp] theorem startRun_frame (s : State) :
    (startRun s).pending = s.pending ∧ (startRun s).steps = s.steps ∧ (startRun s).inReset = s.inReset ∧
    (startRun s).clock = s.clock ∧ (startRun s).oa = s.oa ∧ (startRun s).ma = s.ma ∧ (startRun s).mga = s.mga ∧
    (startRun s).moe = s.moe ∧ (startRun s).dru = s.dru := by
  simp [startRun]

@[simp] theorem putOut_frame (f : Frame) (fromFifo : Bool) (s : State) :
    (putOut f fromFifo s).pending = s.pending ∧ (putOut f fromFifo s).steps = s.steps ∧
    (putOut f fromFifo s).inReset = s.inReset ∧ (putOut f fromFifo s).clock = s.clock ∧
    (putOut f fromFifo s).oa = s.oa ∧ (putOut f fromFifo s).ma = s.ma ∧ (putOut f fromFifo s).mga = s.mga ∧
    (putOut f fromFifo s).moe = s.moe ∧ (putOut f fromFifo s).env = s.env ∧ (putOut f fromFifo s).brs = s.brs ∧
    (putOut f fromFifo s).test = s.test ∧ (putOut f fromFifo s).hlc = s.hlc ∧
    (putOut f fromFifo s).dru = s.dru ∧ (putOut f fromFifo s).adu = s.adu ∧
    (putOut f fromFifo s).rpu = s.rpu := by
  simp [putOut]

@[simp] theorem sendConsole_frame (f : Frame) (s : State) :
    (sendConsole f s).pending = s.pending ∧ (sendConsole f s).steps = s.steps ∧
    (sendConsole f s).inReset = s.inReset ∧ (sendConsole f s).clock = s.clock ∧ (sendConsole f s).oa = s.oa ∧
    (sendConsole f s).ma = s.ma ∧ (sendConsole f s).mga = s.mga ∧ (sendConsole f s).moe = s.moe ∧
    (sendConsole f s).dru = s.dru := by
  simp only [sendConsole]
  (repeat' split) <;> simp

@[simp] theorem sendForward_frame (x : FifoEntry) (s : State) :
    (sendForward x s).pending = s.pending ∧ (sendForward x s).steps = s.steps ∧
    (sendForward x s).inReset = s.inReset ∧ (sendForward x s).clock = s.clock ∧ (sendForward x s).oa = s.oa ∧
    (sendForward x s).ma = s.ma ∧ (sendForward x s).mga = s.mga ∧ (sendForward x s).moe = s.moe ∧
    (sendForward x s).dru = s.dru := by
  unfold sendForward
  split <;> simp

@[simp] theorem setCount_frame (n : Nat) (s : State) :
    (setCount n s).pending = s.pending ∧ (setCount n s).steps = s.steps ∧ (setCount n s).inReset = s.inReset ∧
    (setCount n s).clock = s.clock ∧ (setCount n s).oa = s.oa ∧ (setCount n s).ma = s.ma ∧
    (setCount n s).mga = s.mga ∧ (setCount n s).moe = s.moe ∧ (setCount n s).env = s.env ∧
    (setCount n s).brs = s.brs ∧ (setCount n s).test = s.test ∧ (setCount n s).hlc = s.hlc ∧
    (setCount n s).dru = s.dru ∧ (setCount n s).adu = s.adu ∧ (setCount n s).rpu = s.rpu := by
  simp [setCount]

@[simp] theorem sendInserted_frame (f : Frame) (s : State) :
    (sendInserted f s).pending = s.pending ∧ (sendInserted f s).steps = s.steps ∧
    (sendInserted f s).inReset = s.inReset ∧ (sendInserted f s).clock = s.clock ∧ (sendInserted f s).oa = s.oa ∧
    (sendInserted f s).ma = s.ma ∧ (sendInserted f s).mga = s.mga ∧ (sendInserted f s).moe = s.moe ∧
    (sendInserted f s).env = s.env ∧ (sendInserted f s).brs = s.brs ∧ (sendInserted f s).test = s.test ∧
    (sendInserted f s).hlc = s.hlc ∧ (sendInserted f s).dru = s.dru ∧ (sendInserted f s).adu = s.adu ∧
    (sendInserted f s).rpu = s.rpu := by
  simp [sendInserted]

@[simp] theorem sendInsertion_frame (s : State) :
    (sendInsertion s).pending = s.pending ∧ (sendInsertion s).steps = s.steps ∧
    (sendInsertion s).inReset = s.inReset ∧ (sendInsertion s).clock = s.clock ∧ (sendInsertion s).oa = s.oa ∧
    (sendInsertion s).ma = s.ma ∧ (sendInsertion s).mga = s.mga ∧ (sendInsertion s).moe = s.moe ∧
    (sendInsertion s).env = s.env ∧ (sendInsertion s).brs = s.brs ∧ (sendInsertion s).test = s.test ∧
    (sendInsertion s).hlc = s.hlc ∧ (sendInsertion s).dru = s.dru ∧ (sendInsertion s).adu = s.adu := by
  simp only [sendInsertion]
  (repeat' split) <;> simp

@[simp] theorem sendOldest_frame (x : FifoEntry) (rest : List FifoEntry) (s : State) :
    (sendOldest x rest s).pending = s.pending ∧ (sendOldest x rest s).steps = s.steps ∧
    (sendOldest x rest s).inReset = s.inReset ∧ (sendOldest x rest s).clock = s.clock ∧
    (sendOldest x rest s).oa = s.oa ∧ (sendOldest x rest s).ma = s.ma ∧ (sendOldest x rest s).mga = s.mga ∧
    (sendOldest x rest s).moe = s.moe ∧ (sendOldest x rest s).dru = s.dru := by
  simp [sendOldest]

@[simp] theorem arbitrate_frame (s : State) :
    (arbitrate s).pending = s.pending ∧ (arbitrate s).steps = s.steps ∧ (arbitrate s).inReset = s.inReset ∧
    (arbitrate s).clock = s.clock ∧ (arbitrate s).oa = s.oa ∧ (arbitrate s).ma = s.ma ∧
    (arbitrate s).mga = s.mga ∧ (arbitrate s).moe = s.moe ∧ (arbitrate s).dru = s.dru := by
  simp only [arbitrate]
  (repeat' split) <;> simp

@[simp] theorem arbitrateFault_frame (s : State) :
    (arbitrateFault s).pending = s.pending ∧ (arbitrateFault s).steps = s.steps ∧
    (arbitrateFault s).inReset = s.inReset ∧ (arbitrateFault s).clock = s.clock ∧ (arbitrateFault s).oa = s.oa ∧
    (arbitrateFault s).ma = s.ma ∧ (arbitrateFault s).mga = s.mga ∧ (arbitrateFault s).moe = s.moe ∧
    (arbitrateFault s).dru = s.dru := by
  unfold arbitrateFault
  split <;> simp

@[simp] theorem boundary_frame (s : State) :
    (boundary s).pending = s.pending ∧ (boundary s).steps = s.steps ∧ (boundary s).inReset = s.inReset ∧
    (boundary s).clock = s.clock ∧ (boundary s).oa = s.oa ∧ (boundary s).ma = s.ma ∧ (boundary s).mga = s.mga ∧
    (boundary s).moe = s.moe ∧ (boundary s).dru = s.dru := by
  unfold boundary
  split <;> simp

end Sys2Proof.Machine
end

