-- ==== Sys2Proof/Laws/PerInstr.lean ====
section
/-! SUPPORT. One lemma per command: an intact frame of its row that finds a place in the FIFO is received as the
frame its operands give, so that no operand of a row is dropped or misread on the way in. -/

namespace Sys2Proof.Laws.ReceivesOwn

/-- An intact frame of the command's row is received as the frame its operands give. -/
def Statement (i : Instr) : Prop :=
  ∀ arr kind payload, Machine.rowFrame i = some (arr, kind, payload) →
    Machine.intact arr kind payload = true → ∀ used, used < 8 →
      Machine.receive used (Machine.frameBytes arr kind payload) = .frame (Machine.frameOf arr kind payload)

/-- The law of every row, from the round trip of a frame's bytes. -/
theorem all (i : Instr) : Statement i := fun _ _ _ _ h _ hu => Machine.receive_frameBytes hu h

theorem powerOnReset (oa ma : BitVec 6) (stopChain resetKey : Level) : Statement (.powerOnReset oa ma stopChain resetKey) := all _
theorem rawLevelChange (elapsed : Time) (pin : Pin) (level : Level) : Statement (.rawLevelChange elapsed pin level) := all _
theorem debounceExpiry (elapsed : Time) (pin : Pin) : Statement (.debounceExpiry elapsed pin) := all _
theorem sampleSheave (arr : Arrival) (payload : List Byte) : Statement (.sampleSheave arr payload) := all _
theorem sampleCar (arr : Arrival) (payload : List Byte) : Statement (.sampleCar arr payload) := all _
theorem channelExpiry (elapsed : Time) (ch : ChannelId) : Statement (.channelExpiry elapsed ch) := all _
theorem stillTimerExpiry (elapsed : Time) : Statement (.stillTimerExpiry elapsed) := all _
theorem marker (arr : Arrival) (payload : List Byte) : Statement (.marker arr payload) := all _
theorem lossTimerExpiry (elapsed : Time) : Statement (.lossTimerExpiry elapsed) := all _
theorem supervisionPeriodExpiry (elapsed : Time) : Statement (.supervisionPeriodExpiry elapsed) := all _
theorem armExpiry (elapsed : Time) : Statement (.armExpiry elapsed) := all _
theorem driveStatus (arr : Arrival) (payload : List Byte) : Statement (.driveStatus arr payload) := all _
theorem driveExpiry (elapsed : Time) : Statement (.driveExpiry elapsed) := all _
theorem lineOpen (arr : Arrival) (argument tag : Byte) : Statement (.lineOpen arr argument tag) := all _
theorem closeBoarding (arr : Arrival) (argument tag : Byte) : Statement (.closeBoarding arr argument tag) := all _
theorem depart (arr : Arrival) (target tag : Byte) : Statement (.depart arr target tag) := all _
theorem lineStop (arr : Arrival) (argument tag : Byte) : Statement (.lineStop arr argument tag) := all _
theorem park (arr : Arrival) (argument tag : Byte) : Statement (.park arr argument tag) := all _
theorem unknownCommand (arr : Arrival) (command argument tag : Byte) : Statement (.unknownCommand arr command argument tag) := all _
theorem doorState (arr : Arrival) (payload : List Byte) : Statement (.doorState arr payload) := all _
theorem doorStateLost (elapsed : Time) (car : Car) : Statement (.doorStateLost elapsed car) := all _
theorem releaseExpiry (elapsed : Time) (car : Car) (side : Side) : Statement (.releaseExpiry elapsed car side) := all _
theorem closeExpiry (elapsed : Time) (car : Car) (side : Side) : Statement (.closeExpiry elapsed car side) := all _
theorem doorReqOpen (arr : Arrival) (car side tag : Byte) : Statement (.doorReqOpen arr car side tag) := all _
theorem doorReqClose (arr : Arrival) (car side tag : Byte) : Statement (.doorReqClose arr car side tag) := all _
theorem badRequest (arr : Arrival) (car side action tag : Byte) : Statement (.badRequest arr car side action tag) := all _
theorem ticket (arr : Arrival) (payload : List Byte) : Statement (.ticket arr payload) := all _
theorem gatePass (arr : Arrival) (payload : List Byte) : Statement (.gatePass arr payload) := all _
theorem grantExpiry (elapsed : Time) (gate : Byte) : Statement (.grantExpiry elapsed gate) := all _
theorem setpoint (arr : Arrival) (payload : List Byte) : Statement (.setpoint arr payload) := all _
theorem outBoundary (elapsed : Time) : Statement (.outBoundary elapsed) := all _
theorem frameForward (elapsed : Time) (rx : List Byte) : Statement (.frameForward elapsed rx) := all _
theorem stripped (arr : Arrival) (kind : Byte) (payload : List Byte) : Statement (.stripped arr kind payload) := all _
theorem unhandled (arr : Arrival) (kind : Byte) (payload : List Byte) : Statement (.unhandled arr kind payload) := all _
theorem readStatus (arr : Arrival) (tag : Byte) (body : List Byte) : Statement (.readStatus arr tag body) := all _
theorem load (arr : Arrival) (tag : Byte) (body : List Byte) : Statement (.load arr tag body) := all _
theorem activate (arr : Arrival) (tag : Byte) (body : List Byte) : Statement (.activate arr tag body) := all _
theorem cancelActivate (arr : Arrival) (tag : Byte) (body : List Byte) : Statement (.cancelActivate arr tag body) := all _
theorem readTable (arr : Arrival) (tag : Byte) (body : List Byte) : Statement (.readTable arr tag body) := all _
theorem readTrips (arr : Arrival) (tag : Byte) (body : List Byte) : Statement (.readTrips arr tag body) := all _
theorem readCounters (arr : Arrival) (tag : Byte) (body : List Byte) : Statement (.readCounters arr tag body) := all _
theorem clearCounters (arr : Arrival) (tag : Byte) (body : List Byte) : Statement (.clearCounters arr tag body) := all _
theorem clearFlags (arr : Arrival) (tag : Byte) (body : List Byte) : Statement (.clearFlags arr tag body) := all _
theorem setDay (arr : Arrival) (tag : Byte) (body : List Byte) : Statement (.setDay arr tag body) := all _
theorem reference (arr : Arrival) (tag : Byte) (body : List Byte) : Statement (.reference arr tag body) := all _
theorem tripReset (arr : Arrival) (tag : Byte) (body : List Byte) : Statement (.tripReset arr tag body) := all _
theorem manualTrip (arr : Arrival) (tag : Byte) (body : List Byte) : Statement (.manualTrip arr tag body) := all _
theorem brakeTest (arr : Arrival) (tag : Byte) (body : List Byte) : Statement (.brakeTest arr tag body) := all _
theorem brakeTestAbort (arr : Arrival) (tag : Byte) (body : List Byte) : Statement (.brakeTestAbort arr tag body) := all _
theorem reinit (arr : Arrival) (tag : Byte) (body : List Byte) : Statement (.reinit arr tag body) := all _
theorem unknownRequest (arr : Arrival) (request tag : Byte) (body : List Byte) : Statement (.unknownRequest arr request tag body) := all _
theorem beaconExpiry (elapsed : Time) : Statement (.beaconExpiry elapsed) := all _
theorem heldInPowerOnReset : Statement (.heldInPowerOnReset) := all _

end Sys2Proof.Laws.ReceivesOwn
end

