-- ==== Sys2Proof/Laws/Step.lean ====
section
/-! SUPPORT. How a command reaches its block: what `perform` does, and what an arrival comes to. -/

namespace Sys2Proof.Machine

/-- A command of a part out of reset. -/
theorem perform_running {s : State} (h : s.inReset = false) (elapsed : Time) (act : State → State) :
    perform elapsed act s = settle (begin elapsed s) (act (begin elapsed s)) := by
  simp [perform, h]

/-- A part held in reset takes nothing. -/
theorem perform_held {s : State} (h : s.inReset = true) (elapsed : Time) (act : State → State) :
    perform elapsed act s = s := by
  simp [perform, h]

/-- The end of a step that leaves the haul state as it was. -/
theorem settle_of_same {before after : State} (h : after.hlc.state = before.hlc.state) :
    settle before after = after := by
  simp [settle, h]

/-- The end of a step with no activation pending. -/
theorem settle_of_none {before after : State} (h : after.mga.pendingMask = none) :
    settle before after = after := by
  unfold settle
  split <;> simp [h]

@[simp] theorem begin_oaByte (elapsed : Time) (s : State) : (begin elapsed s).oaByte = s.oaByte := rfl
@[simp] theorem begin_maByte (elapsed : Time) (s : State) : (begin elapsed s).maByte = s.maByte := rfl
@[simp] theorem begin_strapFault (elapsed : Time) (s : State) : (begin elapsed s).strapFault = s.strapFault := rfl
@[simp] theorem begin_roleOf (elapsed : Time) (s : State) (a : Byte) :
    (begin elapsed s).roleOf a = s.roleOf a := rfl
@[simp] theorem begin_nodeOf (elapsed : Time) (s : State) (a : Byte) :
    (begin elapsed s).nodeOf a = s.nodeOf a := rfl
@[simp] theorem begin_line (elapsed : Time) (s : State) : (begin elapsed s).line = s.line := rfl
@[simp] theorem begin_stops (elapsed : Time) (s : State) : (begin elapsed s).stops = s.stops := rfl

/-- An intact frame that finds a place is dealt with by its disposition. -/
theorem takeFrame_of_intact {s : State} {arr : Arrival} {kind : Byte} {payload : List Byte}
    (hs : s.strapFault = false) (hr : s.rif.fifoUsed < 8) (hi : intact arr kind payload = true) :
    takeFrame (frameBytes arr kind payload) s = disposeGood (frameOf arr kind payload) s := by
  simp [takeFrame, receive_frameBytes hr hi, hs]

/-- What an arrival comes to. -/
theorem performFrame_of_arrives {s : State} {arr : Arrival} {kind : Byte} {payload : List Byte}
    (h : Arrives s arr kind payload) :
    performFrame arr kind payload s =
      settle (begin arr.elapsed s) (disposeGood (frameOf arr kind payload) (begin arr.elapsed s)) := by
  rw [performFrame, perform_running h.running,
    takeFrame_of_intact (s := begin arr.elapsed s) (by simpa using h.straps) (by simpa using h.room) h.sound]

/-- A request of the manager that is taken: decided and answered. -/
theorem performRequest_of_manager {s : State} {arr : Arrival} {code tag : Byte} {body : List Byte}
    (h : ManagerArrives s arr (code :: tag :: body)) :
    performRequest arr code tag body s = settle (begin arr.elapsed s)
      (takeRequest (frameOf arr 0x60 (code :: tag :: body)) (countRing .absorbed (begin arr.elapsed s))) := by
  have h1 : ¬ (s.maByte = s.oaByte) := fun e => h.fromOther (h.manager.trans e)
  rw [performRequest, performFrame_of_arrives h.toArrives]
  simp [disposeGood, frameOf, h1, h.manager, dealKind, dealMgmtReq, dealRequest, h.toPart, takeIfRoom,
    h.replyRoom]

/-- A line command of the console that is taken. -/
theorem performLine_of_console {s : State} {arr : Arrival} {command argument tag : Byte}
    (h : ConsoleArrives s arr 0x50 [command, argument, tag]) :
    performLine arr command argument tag s = settle (begin arr.elapsed s)
      (takeLineCmd (frameOf arr 0x50 [command, argument, tag]) (countRing .absorbed (begin arr.elapsed s))) := by
  rw [performLine, performFrame_of_arrives h.toArrives]
  simp [disposeGood, frameOf, h.fromOther, dealKind, dealLineCmd, dealRequest, h.toPart, h.console,
    takeIfRoom, h.replyRoom]

/-- A door request of the console that is taken. -/
theorem performDoor_of_console {s : State} {arr : Arrival} {car side action tag : Byte}
    (h : ConsoleArrives s arr 0x40 [car, side, action, tag]) :
    performDoor arr car side action tag s = settle (begin arr.elapsed s)
      (takeDoorReq (frameOf arr 0x40 [car, side, action, tag])
        (countRing .absorbed (begin arr.elapsed s))) := by
  rw [performDoor, performFrame_of_arrives h.toArrives]
  simp [disposeGood, frameOf, h.fromOther, dealKind, dealDoorReq, dealRequest, h.toPart, h.console,
    takeIfRoom, h.replyRoom]

end Sys2Proof.Machine
end

