-- ==== Sys2Proof/WellFormed.lean ====
section
/-! DEFINITION. Which operands spell a row's own command: the checks on a command that need no state. A command
that fails one is a command of another row (its frame is then dealt with as that row's). -/

namespace Sys2Proof

/-- The five line command codes of R83. -/
def lineCommandCodes : List Byte := [0x01, 0x02, 0x03, 0x04, 0x05]

/-- The sixteen request codes of R173's table (10.3). -/
def requestCodes : List Byte :=
  [0x01, 0x02, 0x03, 0x04, 0x05, 0x06, 0x07, 0x08, 0x09, 0x0A, 0x0B, 0x0C, 0x0D, 0x0E, 0x0F, 0x10]

/-- The kinds the part absorbs and discards when they are addressed to it (R160): DOOR_CMD, LINE_REPLY,
MGMT_REPLY, REPORT, BEACON. -/
def unhandledKinds : List Byte := [0x42, 0x51, 0x61, 0x70, 0x71]

/-- Car 0 or 1, side 1 or 2 (R106). -/
def doorFieldsOk (car side : Byte) : Bool :=
  (car == 0 || car == 1) && (side == 1 || side == 2)

/-- The operands spell a command of the constructor's own row. -/
def Instr.wellFormed : Instr → Bool
  | .unknownCommand _ c _ _ => !lineCommandCodes.contains c
  | .unknownRequest _ r _ _ => !requestCodes.contains r
  | .doorReqOpen _ car side _ => doorFieldsOk car side
  | .doorReqClose _ car side _ => doorFieldsOk car side
  | .badRequest _ car side action _ => !(doorFieldsOk car side && (action == 1 || action == 2))
  | .unhandled _ kind _ => unhandledKinds.contains kind
  | _ => true

end Sys2Proof
end

