-- ==== Sys2Proof/Tests/Slice0.lean ====
section
/-! SUPPORT. Tests against the manual's own numbers and examples, the WellFormed smoke, and a witness of the
hypotheses of each statement. -/

-- One theorem after another: each kernel evaluation waits for the declarations before it.
set_option Elab.async false


namespace Sys2Proof.Tests

open Sys2Proof.Machine

/-! ### The manual's numbers -/

/-- R157: the CRC over "1" to "9". -/
theorem test_crc_check_value :
    crc16 [0x31, 0x32, 0x33, 0x34, 0x35, 0x36, 0x37, 0x38, 0x39] = 0x29B1 := by decide +kernel

/-- Chapter 2's table: the roots of 900·d. -/
theorem test_isqrt_table : isqrt 269550000 = 16417 ∧ isqrt 44550000 = 6674 ∧ isqrt 17550000 = 4189 ∧
    isqrt 450000 = 670 ∧ isqrt 0 = 0 := by decide +kernel

/-- The samples of chapter 1's worked example. -/
def sheaveHistory : List Sample :=
  [⟨500000, 1000⟩, ⟨500167, 1100⟩, ⟨500335, 1200⟩, ⟨500502, 1300⟩, ⟨500670, 1400⟩]

/-- Chapter 1's worked example: 4,191 mm/s, −4,191 with sign −1, and 4,183 after a sixth sample. -/
theorem test_estimate_example :
    estimateOf ⟨250, 1, 4⟩ sheaveHistory = some (4191, false) ∧
    estimateOf ⟨250, -1, 4⟩ sheaveHistory = some (-4191, false) ∧
    estimateOf ⟨250, 1, 4⟩ (sheaveHistory ++ [⟨500837, 1500⟩]) = some (4183, false) := by decide +kernel

/-- R9: 40,000 counts over 10 ticks saturate; R8: a tick difference across the wrap is 236. -/
theorem test_estimate_saturates : estimateOver ⟨250, 1, 4⟩ 40000 10 = (32767, true) ∧
    tickDiff ⟨0, 120⟩ ⟨0, 65420⟩ = 236 := by decide +kernel

/-- The LINE record of the manual's examples. -/
def exampleLine : Line :=
  { length := 3780000, overrun := 1000, s1 := ⟨250, 1, 4⟩, s2 := ⟨250, 1, 4⟩, ca := ⟨250, 1, 4⟩,
    cb := ⟨250, -1, 4⟩, tStaleSheave := 50, tStaleCar := 500, vStill := 50, tStill := 1000, tolSheave := 200,
    tDisagree := 500, slipTol := 500, tSlip := 500, corrMax := 300, vCreep := 500, vLand := 300,
    vLineMax := 12000, stopMargin := 500, pw := 30, ps := 80, pe := 150, cw := 50, cs := 100, ce := 200,
    vTripAbs := 14500, aMin := 800, tSup := 400, th1 := 5000, th2 := 12000, th3 := 20000,
    aRef := #v[500, 450, 400, 350], pct := #v[100, 90, 80, 70], capA := 160, capB := 160, mPass := 80,
    tGrant := 10, tPassback := 60, tDoorFresh := 500, tDoorRelease := 2000, tDoorClose := 20,
    tDriveFresh := 300, tArm := 30, aTestSvc := 1200, aTestEmg := 2000, tBeacon := 1 }

/-- Chapter 3's thresholds at E = 4,189, and at E = 0. -/
theorem test_thresholds_example :
    warnThreshold exampleLine 4189 = 4364 ∧ serviceThreshold exampleLine 4189 = 4624 ∧
    emergencyThreshold exampleLine 4189 .normal = 5017 ∧ emergencyThreshold exampleLine 4189 .frozen = 14500 ∧
    warnThreshold exampleLine 0 = 50 ∧ serviceThreshold exampleLine 0 = 100 ∧
    emergencyThreshold exampleLine 0 .normal = 200 := by decide +kernel

/-- Chapter 2's curve speeds in class 1, at and past the stop. -/
theorem test_curve_table :
    curveSpeed exampleLine 1 150 20000 = 4189 ∧ curveSpeed exampleLine 1 150 400 = 300 ∧
    curveSpeed exampleLine 1 150 (-100) = 300 ∧ curveSpeed exampleLine 1 150 (-200) = 0 := by decide +kernel

/-- Sequence 2: O = 8,960 kg is class 1. -/
theorem test_load_class : loadClassOf exampleLine 8960 = 1 ∧ loadClassOf exampleLine 0 = 0 := by decide +kernel

/-- Sequence 3: 4,500 after 4,700 is short, as is 4,300 after 4,500; 4,380 would have been sufficient. -/
theorem test_supervision_periods : periodSufficient exampleLine 4700 4500 = false ∧
    periodSufficient exampleLine 4500 4300 = false ∧ periodSufficient exampleLine 4700 4380 = true := by decide +kernel

/-- Chapter 4's decelerations. -/
theorem test_mean_deceleration : meanDecel 6000 4620 = 1298 ∧ meanDecel 6120 2550 = 2400 := by decide +kernel

/-- R130: 255 is followed by 1; a held candidate is passed over. -/
theorem test_token_order : nextToken 255 = 1 ∧
    freeToken [⟨20, .a, 7, 255, ⟨0, 0⟩⟩, ⟨23, .a, 8, 1, ⟨0, 0⟩⟩] 16 255 = 2 := by decide +kernel

/-- R46 with chapter 3's envelope: above E, against the run, out of a run, and within E. -/
theorem test_clamp_cases : clamp .running .up 4189 6000 = (4189, 1) ∧ clamp .running .up 4189 (-1) = (0, 2) ∧
    clamp .serviceStop .up 4189 300 = (0, 2) ∧ clamp .armed .down 4189 (-4189) = (-4189, 0) := by decide +kernel

/-! ### WellFormed -/

/-- An arrival with nothing in it. -/
def noArrival : Arrival := { elapsed := 0, dst := 0, src := 0, seq := 0, len := 0, crc := 0 }

/-- Each check refuses a command of another row. -/
theorem test_wellFormed_refuses :
    (Instr.unknownCommand noArrival 0x03 0 0).wellFormed = false ∧
    (Instr.unknownRequest noArrival 0x10 0 []).wellFormed = false ∧
    (Instr.doorReqOpen noArrival 2 1 0).wellFormed = false ∧
    (Instr.doorReqOpen noArrival 0 0 0).wellFormed = false ∧
    (Instr.doorReqClose noArrival 0 3 0).wellFormed = false ∧
    (Instr.badRequest noArrival 1 2 2 0).wellFormed = false ∧
    (Instr.unhandled noArrival 0x50 []).wellFormed = false := by decide +kernel

/-- Each check takes a command of its row. -/
theorem test_wellFormed_accepts :
    (Instr.unknownCommand noArrival 0x06 0 0).wellFormed = true ∧
    (Instr.unknownRequest noArrival 0x11 0 []).wellFormed = true ∧
    (Instr.doorReqOpen noArrival 1 2 0).wellFormed = true ∧
    (Instr.badRequest noArrival 1 2 3 0).wellFormed = true ∧
    (Instr.unhandled noArrival 0x70 []).wellFormed = true := by decide +kernel

/-- No row of the table has bits, so no word spells a command and the queue stands. -/
theorem test_no_word_spells_a_command : Sys2Proof.decodeTableWord 8 0x10 = none ∧
    (State.reset.withFetchWord 8 0x10).pending = [] := by decide +kernel

/-! ### States to test in -/

/-- A NODE table of the lowest 23 addresses: S1 at 10, the cars' gateways at 11 and 12, the marker reader at 13, an
ENTRY gate at 20 and an EXIT gate at 23 of car A at stop 1, the console at 21, the drive at 22. -/
def exampleNodes : List Node :=
  List.replicate 9 ⟨.unused, 0, 0, 0⟩ ++
  [⟨.sheaveS1, 0, 0, 0⟩, ⟨.carA, 0, 0, 0⟩, ⟨.carB, 0, 0, 0⟩, ⟨.markerReader, 0, 0, 0⟩] ++
  List.replicate 6 ⟨.unused, 0, 0, 0⟩ ++
  [⟨.gate, 1, 0, 1⟩, ⟨.console, 0, 0, 0⟩, ⟨.drive, 0, 0, 0⟩, ⟨.gate, 1, 0, 2⟩]

/-- Three stops, the middle one with a platform of car A on the left alone. -/
def exampleStops : List Stop :=
  [⟨0, 150, .left, .left⟩, ⟨520000, 100, .left, .none⟩, ⟨1200000, 150, .both, .right⟩]

/-- The tables in force. -/
def exampleTables : ActiveTables :=
  { node := some exampleNodes, stop := some exampleStops,
    profile := some [⟨0, 6000, 6000⟩, ⟨400000, 12000, 11000⟩], line := some exampleLine,
    marker := some [⟨7, 520000⟩], product := some [⟨1, 0xFF, true, 0, 1000⟩],
    hotlist := some [5, 9], reportLevel := powerOnLevels }

/-- A FRESH S1 at rest with two entries. -/
def restingSheave : Channel :=
  { state := .fresh, history := [⟨100, 1000⟩, ⟨100, 1400⟩], lastArrival := some 0,
    expiry := some ⟨0, 50⟩, estimate := some 0, saturated := false }

/-- The Motion Estimator at rest at stop 1, referenced. -/
def restingMoe : Moe :=
  { Moe.reset with
    s1 := restingSheave, ref1 := ⟨100, 520000⟩, source := some .s1, posA := 520000, status := .referenced,
    still := true, candidate := some 0,
    last := { v := 0, known := true, dir := .none, posA := 520000, held := false, status := .referenced,
              still := true } }

/-- The Brake Supervisor with no trip. -/
def clearBrs : Brs :=
  { Brs.reset with
    tWarn := 50, tSvc := 100, tEmg := 200
    trip := { latched := false, first := none, causes := 0, posA := 0, v := 0, time := 0 }, history := [] }

/-- PARKED at stop 1 with every table in force. -/
def parked : State :=
  { State.reset with
    rif := .reset, mga := { Mga.reset with active := exampleTables }, moe := restingMoe, brs := clearBrs,
    hlc := { Hlc.reset with state := .parked } }

/-- BOARDING at stop 1, boarding open. -/
def boarding : State :=
  { parked with hlc := { Hlc.reset with state := .boarding, berth := some 1, boardingOpen := true } }

/-- A fresh report of a car with both sides closed and locked, taken at 0. -/
def lockedReport : CarReport := { report := some ⟨⟨true, true, false⟩, ⟨true, true, false⟩, 0⟩,
                                  expiry := some ⟨0, 500⟩ }

/-- BOARDING closed, doors and drive ready for a departure. -/
def readyToDepart : State :=
  { boarding with
    hlc := { boarding.hlc with boardingOpen := false, drive := ⟨1, 0, 0, some 0, some ⟨0, 300⟩⟩ }
    dru := { Dru.reset with repA := lockedReport, repB := lockedReport } }

/-- ARMED for stop 2. -/
def armed : State :=
  { readyToDepart with
    hlc := { readyToDepart.hlc with state := .armed, target := some 2, dir := .up, origin := some .boarding,
                                    armTimer := some ⟨0, 30000⟩ }
    env := { mode := .normal, e := 4189, loadClass := 0, load := 0, target := some 2, dir := .up }
    brs := { clearBrs with tWarn := 4364, tSvc := 4624, tEmg := 5017 } }

/-- The latest update of a run at speed v. -/
def runningAt (v : Nat) : Motion :=
  { v := v, known := true, dir := .up, posA := 1180000, held := false, status := .referenced, still := false }

/-- RUNNING to stop 2 at 4,150 mm/s. -/
def running : State :=
  { armed with
    hlc := { armed.hlc with state := .running, berth := none, armTimer := none }
    moe := { restingMoe with still := false, candidate := none, posA := 1180000, last := runningAt 4150 } }

/-- A service stop in its first supervision period. -/
def stopping : State :=
  { running with
    hlc := { running.hlc with state := .serviceStop, stopCause := some .console }
    brs := { running.brs with sup := ⟨true, 4700, 0, some ⟨0, 400⟩⟩ }
    moe := { running.moe with last := runningAt 4500 } }

/-- TRIPPED at rest, the key turned. -/
def tripped : State :=
  { parked with
    hlc := { Hlc.reset with state := .tripped }
    brs := { Brs.reset with tWarn := 50, tSvc := 100, tEmg := 200, key := ⟨.closed, .closed, none⟩ } }

/-! ### Arrivals to test with -/

/-- A part at addresses 5 and 2 that takes frames and has room for a reply, the console at 21. -/
def takesFrames (s : State) : Bool :=
  !s.inReset && !s.strapFault && decide (s.rif.fifoUsed < 8) && decide (s.rif.reply.length < 4) &&
    s.oaByte == 5 && s.maByte == 2 && s.roleOf 21 == some .console

/-- A frame of the console to the part. -/
def fromConsole (kind : Byte) (payload : List Byte) : Arrival := sealed 0 5 21 1 kind payload

/-- A frame of the manager to the part. -/
def fromManager (payload : List Byte) : Arrival := sealed 0 5 2 1 0x60 payload

/-- A frame from an address on its way past. -/
def passing (src kind : Byte) (payload : List Byte) : Arrival := sealed 0 0 src 1 kind payload

/-- The three arrivals are intact at such a part. -/
theorem sealed_arrives {s : State} (h : takesFrames s = true) (dst src kind : Byte) {payload : List Byte}
    (hp : payload.length ≤ 56) : Arrives s (sealed 0 dst src 1 kind payload) kind payload := by
  simp only [takesFrames, Bool.and_eq_true, Bool.not_eq_true', decide_eq_true_eq, beq_iff_eq] at h
  exact ⟨h.1.1.1.1.1.1, h.1.1.1.1.1.2, intact_sealed 0 dst src 1 kind hp, h.1.1.1.1.2⟩

/-- The console's frame is taken. -/
theorem console_arrives {s : State} (h : takesFrames s = true) (kind : Byte) {payload : List Byte}
    (hp : payload.length ≤ 56) : ConsoleArrives s (fromConsole kind payload) kind payload := by
  have h' := h
  simp only [takesFrames, Bool.and_eq_true, Bool.not_eq_true', decide_eq_true_eq, beq_iff_eq] at h'
  refine ⟨⟨sealed_arrives h 5 21 kind hp, h'.1.1.2.symm, ?_, h'.1.1.1.2⟩, h'.2⟩
  rw [h'.1.1.2]; exact (by decide : (21 : Byte) ≠ 5)

/-- The manager's frame is taken. -/
theorem manager_arrives {s : State} (h : takesFrames s = true) {payload : List Byte}
    (hp : payload.length ≤ 56) : ManagerArrives s (fromManager payload) payload := by
  have h' := h
  simp only [takesFrames, Bool.and_eq_true, Bool.not_eq_true', decide_eq_true_eq, beq_iff_eq] at h'
  refine ⟨⟨sealed_arrives h 5 2 0x60 hp, h'.1.1.2.symm, ?_, h'.1.1.1.2⟩, h'.1.2.symm⟩
  rw [h'.1.1.2]; exact (by decide : (2 : Byte) ≠ 5)

/-- A passing frame from an address other than the part's is read on its way. -/
theorem passing_arrives {s : State} (h : takesFrames s = true) (src kind : Byte) {payload : List Byte}
    (hs : src ≠ 5) (hp : payload.length ≤ 56) : PassesBy s (passing src kind payload) kind payload := by
  have h' := h
  simp only [takesFrames, Bool.and_eq_true, Bool.not_eq_true', decide_eq_true_eq, beq_iff_eq] at h'
  refine ⟨sealed_arrives h 0 src kind hp, ?_, ?_⟩
  · rw [h'.1.1.2]; exact (by decide : (0 : Byte) ≠ 5)
  · rw [h'.1.1.2]; exact hs

/-- Every test state takes frames. -/
theorem states_take_frames : takesFrames parked = true ∧ takesFrames boarding = true ∧
    takesFrames readyToDepart = true ∧ takesFrames armed = true ∧ takesFrames running = true ∧
    takesFrames stopping = true ∧ takesFrames tripped = true := by decide +kernel

/-! ### Witnesses: the hypotheses of each statement, clause by clause -/

/-- A command waits; a queue is empty. -/
theorem witness_StepRunsTheFrontCommand :
    (parked.withPending [.outBoundary 1]).pending = .outBoundary 1 :: [] ∧ parked.pending = [] := ⟨rfl, rfl⟩

/-- A timed command of a running part reaches a next state. -/
theorem witness_CommandsKeepTheQueueAndTheTime : rowElapsed (.outBoundary 7) = some 7 ∧
    parked.inReset = false ∧ ∃ t, exec (.outBoundary 7) parked = .next t := ⟨rfl, rfl, _, rfl⟩

/-- A part held in reset, and one out of it. -/
theorem witness_OutputsFollowTheHaulStateAndTheReset : rowElapsed (.outBoundary 7) = some 7 ∧
    ({ parked with inReset := true } : State).inReset = true ∧ parked.inReset = false := by decide

/-- The chain and key of a release of reset with bad straps, an open chain and a turned key. -/
theorem witness_PowerOnResetSetsEveryBlock :
    (powerOn 63 2 .opened .closed parked).strapFault = true ∧
    (powerOn 63 2 .opened .closed parked).brs.trip.causes = 35 ∧
    (powerOn 5 2 .opened .opened parked).brs.trip.causes = 33 ∧
    (powerOn 5 2 .opened .opened parked).rif.report.length = 1 := by decide +kernel

/-- A state other than reset keeps the haul laws, and steps. -/
theorem witness_EveryStepKeepsTheHaulLaws : HaulSound parked ∧
    ∃ t, step (parked.withPending [.outBoundary 1]) = .next t :=
  ⟨{ latched := by decide +kernel, estop := by decide +kernel, doors := by decide +kernel
     boarding := by decide +kernel, berth := by decide +kernel, arm := by decide +kernel
     mode := by decide +kernel, envelope := by decide +kernel, limit := by decide +kernel
     tier := by decide +kernel
     thresholds := by
       show _ = _ ∧ _ = _ ∧ _ = _
       decide +kernel
     history := by decide +kernel }, _, rfl⟩

/-- A state with a frame in the FIFO and a reply waiting. -/
def ringing : State :=
  { parked with rif := { parked.rif with
      fifo := [⟨⟨0x20, 22, 21, 1, [0x17, 0x70, 0, 9, 0]⟩, .consoleSetpoint⟩]
      reply := [⟨0x51, 21, 5, 1, [7, 0x50, 1, 0]⟩] } }

/-- It keeps the laws of the ring and of the set-points, and steps. -/
theorem witness_EveryStepKeepsTheRingAndSetpointLaws : RingSound ringing ∧ SetpointSound ringing ∧
    ∃ t, step (ringing.withPending [.outBoundary 1]) = .next t :=
  ⟨{ fifo := by decide +kernel, door := by decide +kernel, reply := by decide +kernel
     report := by decide +kernel, count := by decide +kernel },
   { force := by intro f h; exact nomatch h
     fifo := by decide +kernel, door := by decide +kernel, reply := by decide +kernel
     report := by decide +kernel, beacon := by intro f h; exact nomatch h }, _, rfl⟩

/-- A car with a grant pending and a passenger aboard. -/
def loading : State :=
  { boarding with adu := { Adu.reset with
      token := 2, grants := [⟨20, .a, 77, 1, ⟨0, 10000⟩⟩], aboardA := 1, passback := [⟨70, 0⟩] } }

/-- It keeps the laws of admission, and steps. -/
theorem witness_EveryStepKeepsTheAdmissionLaws : AdmissionSound loading ∧
    ∃ t, step (loading.withPending [.outBoundary 1]) = .next t :=
  ⟨{ grants := by decide +kernel, gates := by decide +kernel, tokens := by decide +kernel
     tokenNonzero := by decide +kernel, counter := by decide +kernel, serials := by decide +kernel
     passback := by decide +kernel, unticketed := by decide +kernel
     capacity := by
       intro l h
       have e : l = exampleLine := by injection h with h; exact h.symm
       subst e; decide +kernel }, _, rfl⟩

/-- A state with active tables keeps the laws of the tables, and steps. -/
theorem witness_EveryStepKeepsTheTableLaws : TablesSound parked ∧
    ∃ t, step (parked.withPending [.outBoundary 1]) = .next t :=
  ⟨{ stop := by intro t h; injection h with h; subst h; unfold rising; decide +kernel
     profile := by intro t h; injection h with h; subst h; unfold rising; decide +kernel
     product := by intro t h; injection h with h; subst h; unfold rising; decide +kernel
     hotlist := by intro t h; injection h with h; subst h; unfold rising; decide +kernel
     shadows := by intro t h; exact absurd h (by cases t <;> decide +kernel)
     pending := by intro mask h; exact nomatch h }, _, rfl⟩

/-- A part with a FRESH channel at rest keeps the laws of motion and of the timed records, and steps. -/
theorem witness_EveryStepKeepsTheMotionAndTimedRecordLaws : MotionSound parked ∧ RecordSound parked ∧
    ∃ t, step (parked.withPending [.outBoundary 1]) = .next t :=
  ⟨{ fresh := by intro ch; cases ch <;> decide +kernel
     history := by intro ch; cases ch <;> decide +kernel
     idle := by intro ch; cases ch <;> decide +kernel
     timed := by intro ch; cases ch <;> decide +kernel
     estimate := by
       intro ch v h
       cases ch
       · have e : v = 0 := by injection h with h; exact h.symm
         subst e; decide
       all_goals exact nomatch h
     speed := by decide +kernel, source := by decide +kernel, still := by decide +kernel },
   { doors := by intro car side; cases car <;> cases side <;> decide +kernel
     test := by unfold Stage.live; decide +kernel
     single := by unfold Stage.live; decide +kernel
     supervision := by decide +kernel, chain := by decide +kernel }, _, rfl⟩

/-- Payloads of SAMPLE_SHEAVE: not healthy, of the newest tick, beyond plausibility, and plausible. -/
def samples : List (List Byte) :=
  [[0, 0, 0, 100, 5, 130, 0], [0, 0, 0, 100, 5, 120, 1], [0, 1, 0, 0, 5, 121, 1], [0, 0, 0, 101, 5, 130, 1]]

/-- A sheave's sample is read on its way past a part with a LINE record. -/
theorem sample_passes {s : State} (h : takesFrames s = true) (hr : s.roleOf 10 = some .sheaveS1)
    (hl : s.line = some exampleLine) {p : List Byte} (hp : p.length = 7) :
    SamplePasses s (passing 10 0x10 p) p .s1 exampleLine :=
  ⟨passing_arrives h 10 0x10 (by decide) (by omega), hp, hr, hl⟩

/-- Each check of R4 is failed by a sample of a FRESH channel; without a LINE record none is judged. -/
theorem witness_SamplesAreCheckedThenTaken_discarded : (∀ p ∈ samples, p.length = 7) ∧
    (parked.moe.channel .s1).state = .fresh ∧ (parked.moe.channel .s1).history.getLast? = some ⟨100, 1400⟩ ∧
    byteAt samples[0] 6 ≠ 1 ∧ byteAt samples[1] 6 = 1 ∧ wordAt samples[1] 4 = 1400 ∧
    wordAt samples[2] 4 ≠ 1400 ∧
    2 * exampleLine.vTripAbs < (longAt samples[2] 0 - 100).toInt.natAbs * 250 * 10 /
      (wordAt samples[2] 4 - 1400).toNat ∧
    ({ parked with mga := { parked.mga with active := { exampleTables with line := none } } } : State).line =
      none := by decide +kernel

/-- The fourth sample passes every check of a FRESH channel. -/
theorem witness_SamplesAreCheckedThenTaken :
    SamplePasses parked (passing 10 0x10 samples[3]) samples[3] .s1 exampleLine ∧
    byteAt samples[3] 6 = 1 ∧ wordAt samples[3] 4 ≠ 1400 ∧ parked.mga.pendingMask = none ∧
    (longAt samples[3] 0 - 100).toInt.natAbs * 250 * 10 / (wordAt samples[3] 4 - 1400).toNat
      ≤ 2 * exampleLine.vTripAbs :=
  ⟨sample_passes (by decide +kernel) (by decide +kernel) rfl rfl, by decide +kernel⟩

/-- A part whose S1 is STALE. -/
def staleSheave : State :=
  { parked with moe := { restingMoe with
      s1 := { Channel.reset with state := .stale }, source := none, still := false, candidate := none } }

/-- A healthy sample meets the STALE channel. -/
theorem witness_SamplesAreCheckedThenTaken_restart :
    SamplePasses staleSheave (passing 10 0x10 samples[3]) samples[3] .s1 exampleLine ∧
    byteAt samples[3] 6 = 1 ∧ staleSheave.mga.pendingMask = none ∧
    (staleSheave.moe.channel .s1).state ≠ .fresh :=
  ⟨sample_passes (by decide +kernel) (by decide +kernel) rfl rfl, by decide +kernel⟩

/-- The least window and two samples of different ticks. -/
theorem witness_EstimateFollowsTheWindow : 2 ≤ (⟨250, 1, 2⟩ : ChannelLine).window ∧
    (⟨100, 1400⟩ : Sample).tick ≠ (⟨101, 1410⟩ : Sample).tick := by decide

/-- An expiry that the clock reaches exactly, one that it does not, and a channel that is not FRESH. -/
theorem witness_ChannelExpiryMakesItStale : parked.inReset = false ∧ parked.mga.pendingMask = none ∧
    due (parked.moe.channel .s1).expiry (parked.clock + 50) = true ∧
    due (parked.moe.channel .s1).expiry (parked.clock + 49) = false ∧
    (parked.moe.channel .ca).state ≠ .fresh := by decide +kernel

/-- A FRESH car channel, whose expiry is reached exactly. -/
def freshCar : State := { parked with moe := { restingMoe with ca := restingSheave } }

/-- It meets the clause of a car channel. -/
theorem witness_ChannelExpiryMakesItStale_car : (freshCar.moe.channel .ca).state = .fresh ∧
    due (freshCar.moe.channel .ca).expiry (freshCar.clock + 50) = true ∧ freshCar.inReset = false ∧
    freshCar.mga.pendingMask = none := by decide +kernel

/-- A candidate whose timer the clock reaches exactly, or does not, the condition holding or failing. -/
def candidateAt0 : State :=
  { parked with moe := { restingMoe with still := false, stillTimer := some ⟨0, 1000⟩ } }

/-- Each clause of the still judgement. -/
theorem witness_StillIsJudgedAndTimed : candidateAt0.inReset = false ∧ candidateAt0.mga.pendingMask = none ∧
    due candidateAt0.moe.stillTimer (candidateAt0.clock + 1000) = true ∧
    due candidateAt0.moe.stillTimer (candidateAt0.clock + 999) = false ∧
    candidateAt0.moe.candidate.isSome = true ∧
    candidateAt0.stillCondition candidateAt0.moe.motion = true ∧
    staleSheave.stillCondition staleSheave.moe.motion = false ∧ candidateAt0.line = some exampleLine ∧
    ({ candidateAt0.moe with candidate := none } : Moe).candidate = none := by decide +kernel

/-- A source to be re-based, a gap mark, and neither. -/
theorem witness_SpeedAndSourceAreChosenAmongFreshChannels :
    restingMoe.choice = some .s1 ∧ ({ restingMoe with source := none } : Moe).source ≠ some .s1 ∧
    (restingMoe.channel .s1).history ≠ [] ∧ -2147483648 ≤ restingMoe.posA ∧ restingMoe.posA ≤ 2147483647 ∧
    restingMoe.gap = false ∧ ({ restingMoe with gap := true } : Moe).gap = true ∧
    staleSheave.moe.choice = none := by decide +kernel

/-- A source with an estimate, one whose estimate the other sheave supplies, and one that nobody supplies; a sheave
FRESH behind another, and alone; the manual's example of a position, in R11. -/
theorem witness_SpeedAndSourceAreChosenAmongFreshChannels_cases :
    restingMoe.source = some .s1 ∧ restingMoe.s1.estimate = some 0 ∧ Sheave.s2 ≠ Sheave.s1 ∧
    ({ restingMoe with s1 := { restingSheave with estimate := none }, s2 := restingSheave } : Moe).sheaveEstimate =
      some 0 ∧
    ({ restingMoe with s1 := { restingSheave with estimate := none } } : Moe).sheaveEstimate = none ∧
    ({ staleSheave.moe with s2 := restingSheave } : Moe).choice = some .s2 ∧ staleSheave.moe.s1.state ≠ .fresh ∧
    staleSheave.moe.s2.state ≠ .fresh ∧ staleSheave.moe.source = none ∧ staleSheave.moe.s1.history = [] ∧
    ({ restingMoe with s1 := { restingSheave with history := [⟨500670, 1⟩] }, ref1 := ⟨500000, 1178300⟩ } : Moe).position
      exampleLine .s1 = some 1178467 := by decide +kernel

/-- An update DOWN and one that is not, and an update formed at rest. -/
theorem witness_SpeedAndSourceAreChosenAmongFreshChannels_update :
    ({ runningAt 4150 with dir := .down } : Motion).dir = .down ∧ (runningAt 4150).dir ≠ .down ∧
    ({ runningAt 4150 with dir := .down } : Motion).signed = -4150 ∧ (runningAt 4150).signed = 4150 ∧
    (motionUpdate parked).moe.last.v = 0 := by decide +kernel

/-- Markers: of no car, not in the table, and known; held or not; trusted or not; at corr_max and beyond. -/
theorem witness_MarkersAndReferenceSetThePosition :
    PassesBy parked (passing 13 0x12 [7, 0]) 0x12 [7, 0] ∧ parked.roleOf 13 = some .markerReader ∧
    carOf 2 = none ∧ findMarker 8 (parked.mga.active.marker.getD []) = none ∧ carOf 0 = some .a ∧
    findMarker 7 (parked.mga.active.marker.getD []) = some ⟨7, 520000⟩ ∧ staleSheave.moe.held = true ∧
    parked.moe.held = false ∧ parked.line = some exampleLine ∧ parked.mga.pendingMask = none ∧
    parked.moe.status.trusted = true ∧
    ((520000 : Int) - 519700).natAbs ≤ exampleLine.corrMax ∧
    exampleLine.corrMax < ((520000 : Int) - 519699).natAbs :=
  ⟨passing_arrives (by decide +kernel) 13 0x12 (by decide) (by decide), by decide +kernel⟩

/-- REFERENCE: out of rest, without tables, beyond the last stop, in motion, and accepted. -/
theorem witness_MarkersAndReferenceSetThePosition_reference :
    ManagerArrives parked (fromManager [0x0B, 1, 2]) [0x0B, 1, 2] ∧
    ¬(boarding.hlc.state = .parked ∨ boarding.hlc.state = .tripped) ∧ parked.hlc.state = .parked ∧
    ({ parked with mga := Mga.reset } : State).mga.active.stop = none ∧
    parked.mga.active.stop = some exampleStops ∧ exampleStops.length ≤ (3 : Byte).toNat ∧
    exampleStops[(2 : Byte).toNat]? = some ⟨1200000, 150, .both, .right⟩ ∧ candidateAt0.moe.still = false ∧
    parked.moe.still = true ∧ parked.mga.pendingMask = none :=
  ⟨manager_arrives (by decide +kernel) (by decide), by decide +kernel⟩

/-- Two FRESH sheaves, the second placed at `pos` with the estimate `v`, and a FRESH car channel at rest. -/
def twoSheaves (pos v : Int) : State :=
  { parked with moe := { restingMoe with
      s2 := { restingSheave with estimate := some v }, ref2 := ⟨100, pos⟩, ca := restingSheave } }

/-- Positions apart by corr_max and beyond; estimates within the tolerance and beyond; a record whose limit is reached
exactly, or not, reported or not; estimates missing. -/
theorem witness_SheavesAndRopesAreCrossChecked :
    (twoSheaves 519699 0).moe.position exampleLine .s1 = some 520000 ∧
    (twoSheaves 519699 0).moe.position exampleLine .s2 = some 519699 ∧
    (twoSheaves 519699 0).moe.s2.state = .fresh ∧ (twoSheaves 519699 0).moe.status.trusted = true ∧
    exampleLine.corrMax < ((520000 : Int) - 519699).natAbs ∧ ¬ exampleLine.corrMax < ((520000 : Int) - 519700).natAbs ∧
    parked.moe.position exampleLine .s2 = none ∧ parked.moe.s2.estimate = none ∧
    (twoSheaves 520000 201).moe.s2.estimate = some 201 ∧ (twoSheaves 520000 201).moe.s1.estimate = some 0 ∧
    exampleLine.tolSheave < ((0 : Int) - 201).natAbs ∧ ¬ exampleLine.tolSheave < ((0 : Int) - 200).natAbs ∧
    exampleLine.tDisagree ≤ ((500 : Time) - 0).toNat ∧ ¬ exampleLine.tDisagree ≤ ((499 : Time) - 0).toNat ∧
    (twoSheaves 520000 201).moe.disagree.reported = false ∧
    (twoSheaves 520000 0).moe.ca.estimate = some 0 ∧ (twoSheaves 520000 0).moe.sheaveEstimate = some 0 ∧
    exampleLine.slipTol < ((501 : Int) - 0).natAbs ∧ parked.moe.ca.estimate = none := by decide +kernel

/-- The greatest number below 2⁶⁴ has a root. -/
theorem witness_RootSegmentAndCurveBoundTheApproach_root : 2 ^ 64 - 1 < 2 ^ 64 ∧ isqrt (2 ^ 64 - 1) = 4294967295 := by decide +kernel

/-- A rising table with positions below, at and above its starts; distances at the stop and at the window. -/
theorem witness_RootSegmentAndCurveBoundTheApproach :
    rising (([⟨0, 6000, 6000⟩, ⟨400000, 12000, 11000⟩] : List Segment).map (·.start)) ∧
    (segmentFrom 399999 ⟨0, 6000, 6000⟩ [⟨400000, 12000, 11000⟩]).up = 6000 ∧
    (segmentFrom 400000 ⟨0, 6000, 6000⟩ [⟨400000, 12000, 11000⟩]).up = 12000 ∧
    (0 : Int) < 2 ^ 32 ∧ exampleLine.aRef[0] < 2 ^ 16 ∧ ((-150 : Int) < 0 ∧ -(-150 : Int) ≤ (150 : Nat)) ∧
    ((-151 : Int) < 0 ∧ ((150 : Nat) : Int) < -(-151 : Int)) := by
  unfold rising
  decide +kernel

/-- Rest, a run in each mode, and a run whose mode is OFF. -/
theorem witness_EnvelopeFollowsTheModeAndTheLoad : parked.hlc.state = .parked ∧ running.hlc.state = .running ∧
    running.line = some exampleLine ∧ running.env.target = some 2 ∧
    running.stops[2]? = some ⟨1200000, 150, .both, .right⟩ ∧
    running.mga.active.profile = some [⟨0, 6000, 6000⟩, ⟨400000, 12000, 11000⟩] ∧ running.env.mode = .normal ∧
    (envEvaluate running).env.e = 4415 ∧
    ({ running with env := { running.env with mode := .creep } } : State).env.mode = .creep ∧
    ({ running with env := { running.env with mode := .off } } : State).env.mode = .off ∧
    (envEvaluate { running with env := { running.env with e := 0 } }).env ≠ { running.env with e := 0 } := by
  decide +kernel

/-- A SUSPECT update in NORMAL, in each of the three states of a run. -/
theorem witness_EnvelopeFollowsTheModeAndTheLoad_suspect : running.line = some exampleLine ∧ running.env.mode = .normal ∧
    ({ running with moe := { running.moe with last := { runningAt 4150 with status := .suspect } } } : State).moe.last.status
      = .suspect ∧ running.hlc.state = .running ∧ armed.hlc.state = .armed ∧
    armed.hlc.origin = some .boarding ∧ stopping.hlc.state = .serviceStop := by decide +kernel

/-- The thresholds of the load classes rise; the loads at and beyond th1. -/
theorem witness_EnvelopeFollowsTheModeAndTheLoad_load : parked.line = some exampleLine ∧ exampleLine.th1 < exampleLine.th2 ∧
    exampleLine.th2 < exampleLine.th3 ∧ loadClassOf exampleLine 5000 = 0 ∧ loadClassOf exampleLine 5001 = 1 := by
  decide +kernel

/-- Chapter 3's run at each case of R44, at its bounds. -/
theorem witness_TierJudgementTakesTheFirstCase : running.line = some exampleLine ∧
    running.brs.trip.latched = false ∧ running.hlc.state = .running ∧ running.brs.aboveService = false ∧
    running.brs.tEmg < 5018 ∧ (5017 ≤ running.brs.tEmg ∧ running.brs.tSvc < 5017) ∧
    (4624 ≤ running.brs.tSvc ∧ running.brs.tWarn < 4624) ∧ (4364 ≤ running.brs.tWarn ∧ running.env.e < 4364) ∧
    4189 ≤ running.env.e ∧ armed.hlc.state = .armed ∧ armed.hlc.origin = some .boarding ∧
    armed.brs.trip.latched = false ∧ armed.brs.aboveService = false ∧ armed.brs.tSvc < 4625 ∧
    stopping.hlc.state = .serviceStop ∧ parked.hlc.state = .parked := by decide +kernel

/-- A service stop whose period is reached exactly, or not, sufficient or short, first or second; a loss timer. -/
theorem witness_SupervisionAndLossTimersTrip : stopping.inReset = false ∧ stopping.line = some exampleLine ∧
    stopping.brs.sup.expiry = some ⟨0, 400⟩ ∧ stopping.brs.sup.active = true ∧ running.brs.sup.active = false ∧
    (⟨0, 400⟩ : Timer).reached (stopping.clock + 400) = true ∧
    (⟨0, 400⟩ : Timer).reached (stopping.clock + 399) = false ∧
    periodSufficient exampleLine 4700 4500 = false ∧ periodSufficient exampleLine 4700 4380 = true ∧
    stopping.brs.sup.short = 0 ∧ ({ stopping.brs.sup with short := 1 } : Supervision).short ≠ 0 ∧
    stopping.brs.trip.latched = false ∧ stopping.mga.pendingMask = none ∧
    due (some ⟨0, 100⟩) (stopping.clock + 100) = true ∧ due (some ⟨0, 100⟩) (stopping.clock + 99) = false := by
  decide +kernel

/-- The run of `running` with its update at a position and a speed. -/
def runningTo (pos : Int) (v : Nat) : State :=
  { running with moe := { running.moe with last := { runningAt v with posA := pos } } }

/-- A run at the overrun of its last stop and beyond it, at the emergency threshold and above; a state without tables;
a run whose sheave speed is lost, with the flag clear and set, with a FRESH sheave and without. -/
theorem witness_OverrunAndSpeedLossAreJudged :
    running.line = some exampleLine ∧ running.stops.head? = some ⟨0, 150, .left, .left⟩ ∧
    running.stops.getLast? = some ⟨1200000, 150, .both, .right⟩ ∧ running.hlc.state ≠ .tripped ∧
    running.brs.trip.latched = false ∧ (runningTo 1201001 5017).moe.last.status.trusted = true ∧
    (1200000 : Int) + exampleLine.overrun < 1201001 ∧ ¬ (1200000 : Int) + exampleLine.overrun < 1201000 ∧
    (runningTo 1201001 5017).moe.last.v ≤ running.brs.tEmg ∧ running.brs.tEmg < (runningTo 1201001 5018).moe.last.v ∧
    (runningTo 1201001 5017).hlc.state.atRest = false ∧ parked.hlc.state.atRest = true ∧
    running.brs.trip.causes.getLsbD 6 = false ∧ ({ parked with mga := Mga.reset } : State).line = none ∧
    running.hlc.state = .running ∧ stopping.hlc.state = .serviceStop ∧ running.brs.lossFlag = false ∧
    running.moe.s1.state = .fresh ∧ ¬ (staleSheave.moe.s1.state = .fresh ∨ staleSheave.moe.s2.state = .fresh) ∧
    ({ runningAt 0 with known := false } : Motion).known = false ∧
    ({ running.brs with lossFlag := true } : Brs).lossFlag = true := by decide +kernel

/-- A run with no trip, its SERVICE stage idle or braking. -/
theorem witness_CausesLatchOrJoinTheTrip : running.brs.trip.latched = false ∧
    running.test.svc.status ≠ .braking ∧ running.test.failureMark = false ∧
    ({ running.test.svc with status := .braking } : Stage).status = .braking := by decide +kernel

/-- A latched trip with its history. -/
theorem witness_CausesLatchOrJoinTheTrip_further : tripped.brs.trip.latched = true ∧
    tripped.test.svc.status ≠ .braking ∧
    ({ tripped.test with failureMark := true } : BrakeTest).failureMark = true ∧ tripped.brs.history =
      [] ++ [{ first := some .powerUp, causes := 1, posA := 0, v := 0, time := 0, cleared := false }] := by
  decide +kernel

/-- A latched trip while the SERVICE stage brakes, with and without the failure mark, and a cause of each kind. -/
theorem witness_CausesLatchOrJoinTheTrip_stage :
    let braking := fun mark : Bool => ({ tripped with test := { tripped.test with
      failureMark := mark, svc := { tripped.test.svc with status := .braking } } } : State)
    (∀ mark, (braking mark).brs.trip.latched = true ∧ (braking mark).test.svc.status = .braking ∧
      (braking mark).test.failureMark = mark ∧
      (braking mark).brs.history = [] ++ [⟨some .powerUp, 1, 0, 0, 0, false⟩]) ∧
    TripCause.manual ≠ .sbIneffective := by decide +kernel

/-- MANUAL_TRIP with and without a latched trip. -/
theorem witness_ManualTripIsAcceptedInEveryState :
    ManagerArrives running (fromManager [0x0D, 1]) [0x0D, 1] ∧
    ManagerArrives tripped (fromManager [0x0D, 1]) [0x0D, 1] ∧
    running.mga.pendingMask = none ∧ running.brs.trip.latched = false ∧ tripped.brs.trip.latched = true :=
  ⟨manager_arrives (by decide +kernel) (by decide), manager_arrives (by decide +kernel) (by decide),
   by decide +kernel⟩

/-- A raw level that changes or not; a debounce that is reached exactly or not, with and without a change. -/
theorem witness_HardwiredInputsAreDebounced : running.inReset = false ∧ running.mga.pendingMask = none ∧
    (running.brs.pin .stopChain).raw = .closed ∧ (running.brs.pin .resetKey).raw ≠ .closed ∧
    due (some ⟨0, 4⟩) (running.clock + 4) = true ∧ due (some ⟨0, 4⟩) (running.clock + 3) = false ∧
    ({ raw := .opened, level := .closed, timer := some ⟨0, 4⟩ } : InputPin).raw = .opened := by decide +kernel

/-- TRIP_RESET: no trip, no key, in motion, an open chain, no tables, and accepted. -/
theorem witness_TripResetNeedsKeyAndRest :
    ManagerArrives tripped (fromManager [0x0C, 1]) [0x0C, 1] ∧
    parked.brs.trip.latched = false ∧ tripped.brs.trip.latched = true ∧ tripped.brs.key.level = .closed ∧
    Brs.reset.key.level = .opened ∧ tripped.moe.still = true ∧ staleSheave.moe.still = false ∧
    tripped.brs.chain.level = .closed ∧ tripped.line = some exampleLine ∧
    tripped.mga.active.node = some exampleNodes ∧ tripped.mga.active.stop = some exampleStops ∧
    tripped.mga.active.profile ≠ none ∧ Mga.reset.active.node = none ∧ tripped.mga.pendingMask = none :=
  ⟨manager_arrives (by decide +kernel) (by decide), by decide +kernel⟩

/-- The manager's BRAKE_TEST in PARKED at the bounds of its speed and mask, and BRAKE_TEST_ABORT of each stage. -/
theorem witness_BrakeTestStartsAndAborts :
    ManagerArrives parked (fromManager [0x0E, 1, 3, 1, 0xF4]) [0x0E, 1, 3, 1, 0xF4] ∧
    ManagerArrives parked (fromManager [0x0F, 1]) [0x0F, 1] ∧ parked.line = some exampleLine ∧
    ¬(running.hlc.state = .parked ∨ running.hlc.state = .boarding) ∧ parked.hlc.state = .parked ∧
    parked.test.state ≠ .active ∧ (parked.test.started true true 500).state = .active ∧
    ((1 : Byte) ++ (0xF4 : Byte)).toNat = 500 ∧ ((1 : Byte) ++ (0xF3 : Byte)).toNat < 500 ∧
    500 ≤ exampleLine.vLineMax ∧ (parked.test.started true true 500).svc.status = .waiting ∧
    (parked.test.started false true 500).emg.status = .waiting ∧
    ¬ (parked.test.started false true 500).svc.live :=
  ⟨manager_arrives (by decide +kernel) (by decide), manager_arrives (by decide +kernel) (by decide), by
    unfold Stage.live
    decide +kernel⟩

/-- A test whose stage brakes from 6,000 mm/s since 0, and the update of its stop. -/
def braking (svc : Bool) : State :=
  let x : Stage := { status := .braking, trigger := 0, vApply := 6000, pApply := 1160000, tStop := 0, dStop := 0, decel := 0 }
  { stopping with
    clock := 4620
    moe := { stopping.moe with last := runningAt 50 }
    test := if svc then { parked.test.started true true 4150 with svc := x }
      else { parked.test.started false true 4150 with emg := x } }

/-- A run with a stage that waits, at and below v_test; a measured stop of either stage at v_still and above; an
abort-pending test, with the failure mark and without. -/
theorem witness_BrakeTestStagesTriggerAndMeasure : running.brs.trip.latched = false ∧ running.inReset = false ∧
    running.hlc.state = .running ∧ (parked.test.started true true 4150).vTest ≤ running.moe.last.v ∧
    running.moe.last.v < (parked.test.started true true 4151).vTest ∧
    (parked.test.started true true 4150).svc.status = .waiting ∧
    (parked.test.started false true 4150).emg.status = .waiting ∧
    ¬ (parked.test.started false true 4150).svc.live ∧ parked.hlc.state ≠ .running ∧
    stopping.line = some exampleLine ∧ ((braking true).test.stage .service).status = .braking ∧
    ((braking false).test.stage .emergency).status = .braking ∧ ¬ (braking false).test.svc.live ∧
    (braking true).moe.last.known = true ∧ (braking true).moe.last.v ≤ exampleLine.vStill ∧
    ¬ (runningAt 51).v ≤ exampleLine.vStill ∧ (braking true).test.abortPending = false ∧
    ({ (braking true).test with abortPending := true } : BrakeTest).failureMark = false ∧
    ({ (braking true).test with abortPending := true, failureMark := true } : BrakeTest).failureMark = true := by
  unfold Stage.live
  decide +kernel

/-- A demand finds each kind of state. -/
theorem witness_DemandActsByHaulState : parked.hlc.state = .parked ∧ boarding.hlc.state = .boarding ∧
    tripped.hlc.state = .tripped ∧ armed.hlc.state = .armed ∧ armed.hlc.origin = some .boarding ∧
    running.hlc.state = .running ∧ stopping.hlc.state = .serviceStop := by decide +kernel

/-- An arm expiry reached exactly, or not. -/
theorem witness_ArmExpiryReturnsTheHaulToItsOrigin : armed.inReset = false ∧ armed.hlc.state = .armed ∧
    due armed.hlc.armTimer (armed.clock + 30000) = true ∧ due armed.hlc.armTimer (armed.clock + 29999) = false ∧
    armed.mga.pendingMask = none ∧ armed.hlc.origin = some .boarding ∧ armed.line = some exampleLine := by
  decide +kernel

/-- DRIVE_STATUS passes in each state; a drive expiry reached exactly, or not. -/
theorem witness_DriveReadinessIsJudged :
    PassesBy running (passing 22 0x21 [0, 3, 0, 0]) 0x21 [0, 3, 0, 0] ∧
    PassesBy armed (passing 22 0x21 [0, 3, 0, 0]) 0x21 [0, 3, 0, 0] ∧
    PassesBy stopping (passing 22 0x21 [0, 3, 0, 0]) 0x21 [0, 3, 0, 0] ∧
    running.roleOf 22 = some .drive ∧ armed.hlc.origin = some .boarding ∧ armed.mga.pendingMask = none ∧
    due running.hlc.drive.expiry (running.clock + 300) = true ∧
    due running.hlc.drive.expiry (running.clock + 299) = false ∧
    due armed.hlc.drive.expiry (armed.clock + 300) = true ∧ due stopping.hlc.drive.expiry (stopping.clock + 300) = true :=
  ⟨passing_arrives (by decide +kernel) 22 0x21 (by decide) (by decide),
   passing_arrives (by decide +kernel) 22 0x21 (by decide) (by decide),
   passing_arrives (by decide +kernel) 22 0x21 (by decide) (by decide), by decide +kernel⟩

/-- OPEN in each state, at and beyond the window of stop 1. -/
theorem witness_OpenBerthsTheHaul :
    ConsoleArrives parked (fromConsole 0x50 [1, 0, 7]) 0x50 [1, 0, 7] ∧
    ConsoleArrives boarding (fromConsole 0x50 [1, 0, 7]) 0x50 [1, 0, 7] ∧
    ConsoleArrives armed (fromConsole 0x50 [1, 0, 7]) 0x50 [1, 0, 7] ∧
    parked.moe.still = true ∧ parked.moe.status.trusted = true ∧ parked.berthing 520100 = some 1 ∧
    parked.berthing 520101 = none ∧ parked.test.svcFailed = false ∧ parked.test.emgFailed = false ∧
    boarding.hlc.boardingOpen = true ∧ readyToDepart.hlc.boardingOpen = false :=
  ⟨console_arrives (by decide +kernel) 0x50 (by decide), console_arrives (by decide +kernel) 0x50 (by decide),
   console_arrives (by decide +kernel) 0x50 (by decide), by decide +kernel⟩

/-- CLOSE_BOARDING with boarding open, and in PARKED. -/
theorem witness_CloseBoardingEndsAdmission :
    ConsoleArrives boarding (fromConsole 0x50 [2, 0, 7]) 0x50 [2, 0, 7] ∧
    ConsoleArrives parked (fromConsole 0x50 [2, 0, 7]) 0x50 [2, 0, 7] ∧
    (boarding.hlc.state = .boarding ∧ boarding.hlc.boardingOpen = true) ∧
    ¬(parked.hlc.state = .boarding ∧ parked.hlc.boardingOpen = true) :=
  ⟨console_arrives (by decide +kernel) 0x50 (by decide), console_arrives (by decide +kernel) 0x50 (by decide),
   by decide +kernel⟩

/-- DEPART at each check, and ready: reports and drive fresh in the last ms before their expiries. -/
theorem witness_DepartArmsTheHaul :
    ConsoleArrives readyToDepart (fromConsole 0x50 [3, 2, 7]) 0x50 [3, 2, 7] ∧
    (¬(armed.hlc.state = .boarding ∨ armed.hlc.state = .parked)) ∧ readyToDepart.hlc.state = .boarding ∧
    readyToDepart.stops[(3 : Byte).toNat]? = none ∧ readyToDepart.hlc.berth = some (1 : Byte).toNat ∧
    readyToDepart.stops[(2 : Byte).toNat]? = some ⟨1200000, 150, .both, .right⟩ ∧
    boarding.hlc.boardingOpen = true ∧ readyToDepart.hlc.boardingOpen = false ∧ loading.adu.grants ≠ [] ∧
    readyToDepart.adu.grants = [] ∧ boarding.dru.reports .a = ⟨none, none⟩ ∧
    (readyToDepart.dru.door .a .left).state = .locked ∧ (readyToDepart.dru.door .a .right).state = .locked ∧
    (readyToDepart.dru.door .b .left).state = .locked ∧ (readyToDepart.dru.door .b .right).state = .locked ∧
    Machine.running (some ⟨0, 500⟩) 499 = true ∧ Machine.running (some ⟨0, 500⟩) 500 = false ∧
    Machine.running readyToDepart.hlc.drive.expiry 299 = true ∧ readyToDepart.hlc.drive.ready = 1 ∧
    boarding.hlc.drive.ready ≠ 1 ∧ readyToDepart.line = some exampleLine :=
  ⟨console_arrives (by decide +kernel) 0x50 (by decide), by decide +kernel⟩

/-- A departure in NORMAL and one in CREEP, UP with the lighter car ascending and DOWN, the mode changed by it. -/
theorem witness_DepartArmsTheHaul_envelope :
    readyToDepart.moe.last.status.trusted = true ∧
    ({ restingMoe.last with status := .suspect } : Motion).status.trusted = false ∧
    readyToDepart.mga.active.profile = some [⟨0, 6000, 6000⟩, ⟨400000, 12000, 11000⟩] ∧
    readyToDepart.moe.last.posA < 1200000 ∧ ¬ readyToDepart.moe.last.posA < 0 ∧ readyToDepart.env.mode = .off ∧
    (envArm { readyToDepart with hlc := armed.hlc }).env ≠ { readyToDepart.env with target := some 2, dir := .up } ∧
    (envArm { readyToDepart with hlc := armed.hlc }).env.mode = .normal := by decide +kernel

/-- STOP, PARK and an unlisted code at each clause. -/
theorem witness_StopAndParkEndTheRunAndTheBoarding :
    ConsoleArrives running (fromConsole 0x50 [4, 0, 7]) 0x50 [4, 0, 7] ∧
    ConsoleArrives armed (fromConsole 0x50 [4, 0, 7]) 0x50 [4, 0, 7] ∧
    ConsoleArrives stopping (fromConsole 0x50 [4, 0, 7]) 0x50 [4, 0, 7] ∧
    ConsoleArrives loading (fromConsole 0x50 [5, 0, 7]) 0x50 [5, 0, 7] ∧
    ConsoleArrives parked (fromConsole 0x50 [6, 0, 7]) 0x50 [6, 0, 7] ∧
    armed.mga.pendingMask = none ∧ armed.hlc.origin = some .boarding ∧ parked.hlc.state ≠ .boarding ∧
    loading.hlc.state = .boarding ∧ loading.dru.allLocked = true ∧ loading.adu.grants.length = 1 ∧
    ({ loading.dru with aLeft := { state := .released, timer := none } } : Dru).allLocked = false ∧
    5 < (6 : Byte).toNat :=
  ⟨console_arrives (by decide +kernel) 0x50 (by decide), console_arrives (by decide +kernel) 0x50 (by decide),
   console_arrives (by decide +kernel) 0x50 (by decide), console_arrives (by decide +kernel) 0x50 (by decide),
   console_arrives (by decide +kernel) 0x50 (by decide), by decide +kernel⟩

/-- BOARDING with a record in each state that a withdrawal knows, the sheave speed UNKNOWN. -/
def unlockedUnknown : State :=
  { boarding with
    dru := { boarding.dru with aLeft := ⟨.released, none⟩, bLeft := ⟨.releasing, some ⟨0, 2000⟩⟩ }
    moe := { restingMoe with last := { restingMoe.last with known := false } } }

/-- Two records withdrawn and two kept; a run at rest in its target's window and one mm beyond; a service stop at rest
at a stop and between stops. -/
theorem witness_UpdatesWithdrawDoorsAndEndRuns :
    unlockedUnknown.line = some exampleLine ∧ unlockedUnknown.hlc.state = .boarding ∧
    unlockedUnknown.moe.last.known = false ∧ boarding.moe.last.known = true ∧
    (unlockedUnknown.dru.door .a .left).state = .released ∧ (unlockedUnknown.dru.door .b .left).state = .releasing ∧
    (unlockedUnknown.dru.door .a .right).state = .locked ∧
    (judgeWithdrawal unlockedUnknown).rif.door.map (·.frame.payload) = [[1, 2], [1, 2]] ∧
    restingMoe.last.still = true ∧ running.moe.last.still = false ∧ stopping.hlc.state = .serviceStop ∧
    stopping.berthing 520100 = some 1 ∧ stopping.berthing 520101 = none ∧
    stopping.stops[1]? = some ⟨520000, 100, .left, .none⟩ ∧ running.hlc.state = .running ∧
    running.hlc.target = some 2 ∧ running.stops[2]? = some ⟨1200000, 150, .both, .right⟩ ∧
    ((1200150 : Int) - 1200000).natAbs ≤ 150 ∧ 150 < ((1200151 : Int) - 1200000).natAbs ∧
    parked.hlc.state ≠ .running ∧ parked.hlc.state ≠ .serviceStop := by decide +kernel

/-- An update of a NORMAL run that turns SUSPECT, one that does not, and updates beyond the last stop and at its bound. -/
theorem witness_UpdatesWithdrawDoorsAndEndRuns_order : running.env.mode = .normal ∧
    ({ runningAt 4150 with status := .suspect } : Motion).status = .suspect ∧ running.moe.last.status ≠ .suspect ∧
    running.hlc.state ≠ .tripped ∧ tripped.hlc.state = .tripped ∧ running.moe.last.status.trusted = true ∧
    running.line = some exampleLine ∧ running.stops.head? = some ⟨0, 150, .left, .left⟩ ∧
    running.stops.getLast? = some ⟨1200000, 150, .both, .right⟩ ∧
    (1200000 : Int) + exampleLine.overrun < (runningTo 1201001 4150).moe.last.posA ∧
    ¬ (1200000 : Int) + exampleLine.overrun < running.moe.last.posA := by decide +kernel

/-- DOOR_STATE at rest, armed and on a run, a LOCKED side reported not locked; V at v_still and above. -/
theorem witness_DoorReportsMoveTheRecordsAndTrip :
    PassesBy boarding (passing 11 0x41 [1, 3]) 0x41 [1, 3] ∧
    PassesBy armed (passing 11 0x41 [1, 3]) 0x41 [1, 3] ∧
    PassesBy { running with moe := restingMoe } (passing 11 0x41 [1, 3]) 0x41 [1, 3] ∧
    boarding.roleOf 11 = some (carRole .a) ∧ boarding.line = some exampleLine ∧
    boarding.moe.last.v ≤ exampleLine.vStill ∧ armed.moe.last.v ≤ exampleLine.vStill ∧
    (sideStatusOf 1).secure = false ∧ (sideStatusOf 3).secure = true ∧
    (armed.dru.door .a .left).state = .locked ∧ armed.hlc.origin = some .boarding ∧
    armed.mga.pendingMask = none ∧ running.brs.trip.latched = false ∧ (runningAt 50).v ≤ exampleLine.vStill ∧
    exampleLine.vStill < (runningAt 51).v ∧ boarding.dru.movingOpen = false ∧
    exampleLine.vStill < running.moe.last.v ∧ running.roleOf 11 = some (carRole .a) ∧
    running.dru.allLocked = true ∧ (sideStatusOf 4).obstructed = true ∧
    boarding.brs.trip.latched = false ∧ tripped.brs.trip.latched = true :=
  ⟨passing_arrives (by decide +kernel) 11 0x41 (by decide) (by decide),
   passing_arrives (by decide +kernel) 11 0x41 (by decide) (by decide),
   passing_arrives (by decide +kernel) 11 0x41 (by decide) (by decide), by decide +kernel⟩

/-- A record in each state with its timer reached exactly, or not; a report's freshness likewise. -/
theorem witness_DoorTimersFaultOrLapse : running.inReset = false ∧
    ((boarding.dru.setDoor .a .left ⟨.releasing, some ⟨0, 2000⟩⟩).door .a .left).state = .releasing ∧
    ((boarding.dru.setDoor .b .right ⟨.closing, some ⟨0, 20000⟩⟩).door .b .right).state = .closing ∧
    due (some ⟨0, 2000⟩) (0 + 2000) = true ∧ due (some ⟨0, 2000⟩) (0 + 1999) = false ∧
    (boarding.dru.door .a .left).state ≠ .releasing ∧ (boarding.dru.door .a .left).state ≠ .closing ∧
    due (readyToDepart.dru.reports .a).expiry (readyToDepart.clock + 500) = true ∧
    due (running.dru.reports .a).expiry (running.clock + 499) = false ∧
    due (stopping.dru.reports .b).expiry (stopping.clock + 500) = true ∧
    due (armed.dru.reports .a).expiry (armed.clock + 500) = true ∧ armed.hlc.origin = some .boarding ∧
    armed.mga.pendingMask = none := by decide +kernel

/-- A door request of the console in each state of its checks, and a bad one. -/
theorem witness_DoorRequestsReleaseAndWithdraw :
    ConsoleArrives boarding (fromConsole 0x40 [0, 1, 1, 7]) 0x40 [0, 1, 1, 7] ∧
    ConsoleArrives parked (fromConsole 0x40 [0, 1, 1, 7]) 0x40 [0, 1, 1, 7] ∧
    ConsoleArrives boarding (fromConsole 0x40 [1, 2, 2, 7]) 0x40 [1, 2, 2, 7] ∧
    ConsoleArrives boarding (fromConsole 0x40 [2, 1, 1, 7]) 0x40 [2, 1, 1, 7] ∧
    carOf 0 = some .a ∧ sideOf 1 = some .left ∧ carOf 1 = some .b ∧ sideOf 2 = some .right ∧
    boarding.line = some exampleLine ∧ boarding.hlc.state = .boarding ∧ parked.hlc.state ≠ .boarding ∧
    boarding.moe.still = true ∧ staleSheave.moe.still = false ∧ boarding.moe.status.trusted = true ∧
    PositionStatus.suspect.trusted = false ∧ boarding.hlc.berth = some 1 ∧
    boarding.stops[1]? = some ⟨520000, 100, .left, .none⟩ ∧ boarding.platformAt .a .left = true ∧
    boarding.platformAt .a .right = false ∧ (boarding.dru.door .a .left).state = .locked ∧
    ((boarding.dru.setDoor .a .left ⟨.closing, some ⟨0, 20000⟩⟩).door .a .left).state = .closing ∧
    boarding.moe.last.v ≤ exampleLine.vStill :=
  ⟨console_arrives (by decide +kernel) 0x40 (by decide), console_arrives (by decide +kernel) 0x40 (by decide),
   console_arrives (by decide +kernel) 0x40 (by decide), console_arrives (by decide +kernel) 0x40 (by decide),
   by decide +kernel⟩

/-- A query of a ticket with this serial, product, expiry day and balance. -/
def query (serial product day balance : Byte) : List Byte := [0, 0, 0, serial, product, 0, day, balance, 0, 0, 0]

/-- A query of the gate at 20, and a state and ticket for each of its checks. -/
theorem witness_TicketsAreAnsweredByTheFirstFailingCheck :
    Arrives boarding (sealed 0 5 20 1 0x30 (query 77 1 9 3)) 0x30 (query 77 1 9 3) ∧
    boarding.nodeOf 20 = some ⟨.gate, 1, 0, 1⟩ ∧ boarding.nodeOf 23 = some ⟨.gate, 1, 0, 2⟩ ∧
    boarding.line = some exampleLine ∧ rising (([5, 9] : List (BitVec 32)).map fun x => (x.toNat : Int)) ∧
    (query 77 1 9 3).length = 11 ∧ byteAt (query 77 1 9 3) 8 = 0 ∧
    (boarding.hlc.state = .boarding ∧ boarding.hlc.boardingOpen = true ∧ boarding.hlc.berth = some 1) ∧
    boarding.hasPlatform 1 .a = true ∧ readyToDepart.hlc.boardingOpen = false ∧
    (77 : BitVec 32) ∉ ([5, 9] : List (BitVec 32)) ∧ (9 : BitVec 32) ∈ ([5, 9] : List (BitVec 32)) ∧
    findProduct 1 (boarding.mga.active.product.getD []) = some ⟨1, 0xFF, true, 0, 1000⟩ ∧
    findProduct 2 (boarding.mga.active.product.getD []) = none ∧
    (boarding.verdict 20 (ticketOf (query 77 1 9 3)) = .accept) ∧
    (boarding.verdict 20 (ticketOf (query 77 1 9 0)) = .balance) ∧
    (loading.verdict 20 (ticketOf (query 77 1 9 3)) = .passback) ∧
    (loading.verdict 20 (ticketOf (query 70 1 9 3)) = .passback) ∧
    (loading.verdict 20 (ticketOf (query 78 1 9 3)) = .gateBusy) ∧
    ({ boarding with adu := { Adu.reset with aboardA := 160 } } : State).verdict 20
      (ticketOf (query 77 1 9 3)) = .full ∧
    ({ boarding with adu := { Adu.reset with aboardA := 159 } } : State).verdict 20
      (ticketOf (query 77 1 9 3)) = .accept ∧
    ({ boarding with mga := { boarding.mga with day := 10 } } : State).verdict 20
      (ticketOf (query 77 1 9 3)) = .expired ∧
    ({ boarding with adu := { Adu.reset with grants := List.replicate 16 ⟨60, .b, 1, 1, ⟨0, 0⟩⟩ } } : State).verdict
      20 (ticketOf (query 77 1 9 3)) = .queueFull ∧
    ({ boarding with mga := { boarding.mga with active := { exampleTables with
      product := some [⟨1, 0xFD, true, 0, 1000⟩] } } } : State).verdict 20 (ticketOf (query 77 1 9 3)) = .stop := by
  refine ⟨sealed_arrives (by decide +kernel) 5 20 0x30 (by decide), ?_⟩
  unfold rising
  decide +kernel

/-- A token counter at 255 whose candidate is held, and the next one after it free. -/
theorem witness_TicketsAreAnsweredByTheFirstFailingCheck_token :
    ({ Adu.reset with token := 255, grants := [⟨40, .b, 9, 255, ⟨0, 1⟩⟩] } : Adu).allocate = 1 ∧
    BitVec.ofNat 8 (((255 : Byte).toNat - 1 + 1) % 255 + 1) = 1 ∧ (255 : Byte) ≠ 0 ∧
    byteAt (query 77 1 9 3) 4 = 1 ∧ boarding.adu.token ≠ 0 := by decide +kernel

/-- Passes of the ENTRY gate with and without its grant, of the EXIT gate full, unticketed, empty and elsewhere; a
grant reached exactly, or not. -/
theorem witness_PassesMoveTheCounts :
    Arrives loading (sealed 0 5 20 1 0x31 [1]) 0x31 [1] ∧ Arrives loading (sealed 0 5 23 1 0x31 [0]) 0x31 [0] ∧
    loading.nodeOf 20 = some ⟨.gate, 1, 0, 1⟩ ∧ loading.nodeOf 23 = some ⟨.gate, 1, 0, 2⟩ ∧
    loading.line = some exampleLine ∧
    loading.adu.grants.find? (fun x => x.gate == 20 && x.token == 1) = some ⟨20, .a, 77, 1, ⟨0, 10000⟩⟩ ∧
    loading.adu.grants.find? (fun x => x.gate == 20 && x.token == 2) = none ∧
    (loading.hlc.state = .boarding ∧ loading.hlc.berth = some (1 : Byte).toNat) ∧ 0 < loading.adu.aboard .a ∧
    boarding.adu.aboard .a = 0 ∧ boarding.adu.unticketed .a = 0 ∧
    0 < ({ boarding.adu with unticketedA := 1 } : Adu).unticketed .a ∧ parked.hlc.state ≠ .boarding ∧
    loading.inReset = false ∧ loading.adu.grants = [] ++ ⟨20, .a, 77, 1, ⟨0, 10000⟩⟩ :: [] ∧
    (⟨0, 10000⟩ : Timer).reached (loading.clock + 10000) = true ∧
    (⟨0, 10000⟩ : Timer).reached (loading.clock + 9999) = false :=
  ⟨sealed_arrives (by decide +kernel) 5 20 0x31 (by decide), sealed_arrives (by decide +kernel) 5 23 0x31 (by decide),
   by decide +kernel⟩

/-- A BEACON of another node as a frame. -/
def otherFrame : Frame := { kind := 0x7E, dst := 9, src := 8, seq := 1, payload := [1, 2] }

/-- Runs of bytes at the bounds of the receive checks, a FIFO with its last place free and full, and the frames no
block takes. -/
theorem witness_ReceivedFramesAreDisposed : parked.inReset = false ∧ parked.strapFault = false ∧
    (List.replicate 6 (0 : Byte)).length < 7 ∧ 63 < (List.replicate 64 (0 : Byte)).length ∧
    crc16 ((List.replicate 7 (0 : Byte)).take 5) ≠ wordAt (List.replicate 7 (0 : Byte)) 5 ∧
    otherFrame.wire.length = 9 ∧ otherFrame.payload.length ≤ 56 ∧ otherFrame.src ≠ parked.oaByte ∧
    FrameKind.ofCode otherFrame.kind = .other ∧
    ({ parked.rif with fifo := List.replicate 8 ⟨otherFrame, .plain⟩ } : Rif).fifoUsed = 8 ∧
    Arrives parked (sealed 0 9 5 1 0x70 [1]) 0x70 [1] ∧ Arrives parked (sealed 0 5 9 1 0x70 [1]) 0x70 [1] ∧
    Arrives parked (sealed 0 22 21 1 0x20 [0, 1, 0, 9, 0]) 0x20 [0, 1, 0, 9, 0] ∧
    Arrives parked (sealed 0 22 20 1 0x20 [0, 1, 0, 9, 0]) 0x20 [0, 1, 0, 9, 0] ∧
    Arrives parked (sealed 0 22 21 1 0x20 [0]) 0x20 [0] ∧
    parked.roleOf 21 = some .console ∧ parked.roleOf 20 ≠ some .console :=
  ⟨rfl, by decide, by decide, by decide, by decide +kernel, by decide +kernel, by decide, by decide +kernel,
   by decide, by decide +kernel, sealed_arrives (by decide +kernel) 9 5 0x70 (by decide),
   sealed_arrives (by decide +kernel) 5 9 0x70 (by decide), sealed_arrives (by decide +kernel) 22 21 0x20 (by decide),
   sealed_arrives (by decide +kernel) 22 20 0x20 (by decide), sealed_arrives (by decide +kernel) 22 21 0x20 (by decide),
   by decide +kernel, by decide +kernel⟩

/-- Read frames to OA, of a wrong length and from a wrong role; a query to another node, judged before, too short, and
of no gate; passes to another node, of no gate and of a wrong length. -/
theorem witness_ReadFramesTicketsAndPassesAreDisposed :
    rowFrame (.marker (sealed 0 5 13 1 0x12 [7, 0]) [7, 0]) = some (sealed 0 5 13 1 0x12 [7, 0], 0x12, [7, 0]) ∧
    Arrives parked (sealed 0 5 13 1 0x12 [7, 0]) 0x12 [7, 0] ∧ Arrives parked (sealed 0 5 13 1 0x12 [7]) 0x12 [7] ∧
    Arrives parked (sealed 0 9 10 1 0x12 [7, 0]) 0x12 [7, 0] ∧
    Arrives parked (sealed 0 5 10 1 0x10 samples[3]) 0x10 samples[3] ∧
    Arrives parked (sealed 0 5 22 1 0x21 [1, 0, 0, 0]) 0x21 [1, 0, 0, 0] ∧
    Arrives parked (sealed 0 5 11 1 0x41 [1, 3]) 0x41 [1, 3] ∧
    Arrives parked (sealed 0 9 20 1 0x30 (query 77 1 9 3)) 0x30 (query 77 1 9 3) ∧
    Arrives parked (sealed 0 5 20 1 0x30 [1]) 0x30 [1] ∧
    Arrives parked (sealed 0 5 21 1 0x30 (query 77 1 9 3)) 0x30 (query 77 1 9 3) ∧
    Arrives parked (sealed 0 9 20 1 0x31 [1]) 0x31 [1] ∧ Arrives parked (sealed 0 5 21 1 0x31 [1]) 0x31 [1] ∧
    Arrives parked (sealed 0 5 20 1 0x31 [1, 2]) 0x31 [1, 2] ∧ parked.oaByte = 5 ∧
    parked.roleOf 13 = some .markerReader ∧ parked.roleOf 10 = some .sheaveS1 ∧ parked.roleOf 22 = some .drive ∧
    parked.roleOf 11 = some (carRole .a) ∧ parked.roleOf 20 = some .gate ∧ parked.roleOf 21 = some .console ∧
    (query 77 1 9 3).length = 11 ∧ byteAt (query 77 1 9 3) 8 = 0 ∧ parked.line = some exampleLine := by
  have h : takesFrames parked = true := by decide +kernel
  refine ⟨rfl, ?_, ?_, ?_, ?_, ?_, ?_, ?_, ?_, ?_, ?_, ?_, ?_, by decide +kernel⟩ <;>
    exact sealed_arrives h _ _ _ (by decide)

/-- Requests to another node, of the wrong sender, and of the right one with REPLY full. -/
theorem witness_RequestsNeedTheirSenderAndRoomForTheReply :
    rowFrame (.lineStop (sealed 0 9 21 1 0x50 [4, 0, 7]) 0 7) =
      some (sealed 0 9 21 1 0x50 [4, 0, 7], 0x50, [4, 0, 7]) ∧
    Arrives parked (sealed 0 9 21 1 0x50 [4, 0, 7]) 0x50 [4, 0, 7] ∧
    rowFrame (.cancelActivate (sealed 0 5 21 1 0x60 [4, 7]) 7 []) =
      some (sealed 0 5 21 1 0x60 [4, 7], 0x60, [4, 7]) ∧
    Arrives parked (sealed 0 5 21 1 0x60 [4, 7]) 0x60 [4, 7] ∧ (21 : Byte) ≠ parked.maByte ∧
    4 ≤ ({ parked.rif with reply := List.replicate 4 otherFrame } : Rif).reply.length ∧
    parked.roleOf 21 = some .console :=
  ⟨rfl, sealed_arrives (by decide +kernel) 9 21 0x50 (by decide), rfl,
   sealed_arrives (by decide +kernel) 5 21 0x60 (by decide), by decide +kernel⟩

/-- Requests of a wrong length, to OA and past it; addresses with an entry, without one and beyond the table; roles that
a node holds and that none does. -/
theorem witness_RequestsNeedTheirSenderAndRoomForTheReply_lengths :
    parked.inReset = false ∧ parked.strapFault = false ∧ parked.rif.fifoUsed < 8 ∧
    (⟨0x50, 5, 21, 1, [4, 0]⟩ : Frame).payload.length ≠ 3 ∧ (⟨0x40, 9, 21, 1, [0, 1, 1]⟩ : Frame).payload.length ≠ 4 ∧
    (⟨0x60, 5, 2, 1, [1]⟩ : Frame).payload.length < 2 ∧ (21 : Byte) ≠ parked.oaByte ∧
    parked.nodeOf 20 = some ⟨.gate, 1, 0, 1⟩ ∧ parked.nodeOf 0 = none ∧ parked.nodeOf 63 = none ∧
    parked.nodeOf 24 = none ∧ parked.addressOf .drive = 22 ∧ parked.addressOf .gate = 20 ∧
    parked.addressOf .sheaveS2 = 63 := by decide +kernel

/-- Each class with a frame first in line, at the turn of the insertions and one short of it. -/
theorem witness_BoundariesTakeTheClassesInOrder : parked.inReset = false ∧ parked.strapFault = false ∧
    State.reset.rif.force ≠ none ∧ ringing.rif.force = none ∧ ringing.rif.reply ≠ [] ∧ ringing.rif.door = [] ∧
    ({ ringing.rif with backToBack := 4 } : Rif).backToBack = 4 ∧
    ({ ringing.rif with backToBack := 3 } : Rif).backToBack ≠ 4 ∧
    ({ parked.rif with fifo := [⟨otherFrame, .plain⟩] } : Rif).fifo ≠ [] ∧ parked.rif.fifo = [] ∧
    ({ parked.rif with report := [⟨otherFrame, false⟩] } : Rif).report ≠ [] ∧
    ({ parked.rif with beacon := some otherFrame } : Rif).beacon = some otherFrame := by decide +kernel

/-- A console set-point first in the FIFO of an armed and a running haul; E at and above its magnitude. -/
theorem witness_SetpointsAreClampedAsTheyLeave :
    ({ armed with rif := ringing.rif } : State).rif.fifo =
      ⟨⟨0x20, 22, 21, 1, [0x17, 0x70, 0, 9, 0]⟩, .consoleSetpoint⟩ :: [] ∧
    ringing.rif.force = none ∧ ¬(ringing.rif.backToBack = 4 ∧ ringing.rif.insertWaits = true) ∧
    armed.inReset = false ∧ armed.strapFault = false ∧ armed.hlc.state = .armed ∧ armed.moe.last.known = true ∧
    armed.brs.lossFlag = false ∧ clamp .armed .up 4189 6000 = (4189, 1) ∧ clamp .armed .up 6000 6000 = (6000, 0) ∧
    clamp .armed .up 4189 0 = (0, 0) ∧ running.hlc.state ≠ .armed := by decide +kernel

/-- A part with a console set-point that leaves: its laws stand by witness_EveryStepKeepsTheRingAndSetpointLaws. -/
theorem witness_NoSetpointLeavesAboveTheEnvelope : ringing.inReset = false ∧ ringing.env.e ≤ 32767 ∧
    ∃ t x, exec (.outBoundary 1) ringing = .next t ∧ t.rif.sending = some x ∧ x.frame.kind = 0x20 :=
  ⟨rfl, by decide +kernel, _, _, rfl, rfl, by decide +kernel⟩

/-- A part with both addresses alike, a set-point to zero, another frame behind it and a reply that waits. -/
def strapped : State :=
  { ringing with
    ma := ringing.oa
    rif := { ringing.rif with
      fifo := [⟨⟨0x20, 22, 21, 1, [0x17, 0x70, 0, 9, 0]⟩, .zeroedSetpoint⟩, ⟨otherFrame, .plain⟩] } }

/-- Frames of whatever kind in a strap fault; runs of bytes at the bounds of the receive checks; a set-point and
another frame first in the FIFO, an empty FIFO, a full one. -/
theorem witness_StrapFaultForwardsAlone : strapped.strapFault = true ∧ strapped.inReset = false ∧
    rowFrame (.gatePass (sealed 0 5 20 1 0x31 [1]) [1]) = some (sealed 0 5 20 1 0x31 [1], 0x31, [1]) ∧
    intact (sealed 0 5 20 1 0x31 [1]) 0x31 [1] = true ∧
    intact (sealed 0 22 21 1 0x20 [0, 1, 0, 9, 0]) 0x20 [0, 1, 0, 9, 0] = true ∧
    intact (sealed 0 22 21 1 0x20 [0]) 0x20 [0] = true ∧ strapped.rif.fifoUsed < 8 ∧
    (List.replicate 6 (0 : Byte)).length < 7 ∧ 63 < (List.replicate 64 (0 : Byte)).length ∧
    crc16 ((List.replicate 7 (0 : Byte)).take 5) ≠ wordAt (List.replicate 7 (0 : Byte)) 5 ∧
    otherFrame.payload.length ≤ 56 ∧ otherFrame.kind ≠ 0x20 ∧
    ({ strapped.rif with fifo := List.replicate 8 ⟨otherFrame, .plain⟩ } : Rif).fifoUsed = 8 ∧
    (strapped.rif.fifo.head?.map (·.note)) = some .zeroedSetpoint ∧
    ((strapped.rif.fifo.drop 1).head?.map (·.note)) = some .plain ∧ strapped.rif.fifo.drop 2 = [] ∧
    strapped.rif.reply ≠ [] := by
  refine ⟨by decide +kernel, by decide +kernel, rfl, intact_sealed 0 5 20 1 0x31 (by decide),
    intact_sealed 0 22 21 1 0x20 (by decide), intact_sealed 0 22 21 1 0x20 (by decide), ?_⟩
  decide +kernel

/-- The reads and clears of the manager, at the bounds of page, copy and group. -/
theorem witness_ReadsChangeNothingAndClearsOnlyTheirOwn :
    ManagerArrives parked (fromManager [1, 1, 9]) [1, 1, 9] ∧ ManagerArrives parked (fromManager [1, 1, 10]) [1, 1, 10] ∧
    ManagerArrives parked (fromManager [5, 1, 2, 1, 0, 0, 6]) [5, 1, 2, 1, 0, 0, 6] ∧
    ManagerArrives parked (fromManager [6, 1, 0]) [6, 1, 0] ∧ ManagerArrives parked (fromManager [7, 1, 4, 0]) [7, 1, 4, 0] ∧
    ManagerArrives parked (fromManager [8, 1, 3]) [8, 1, 3] ∧ ManagerArrives parked (fromManager [9, 1]) [9, 1] ∧
    ManagerArrives parked (fromManager [10, 1, 0, 9]) [10, 1, 0, 9] ∧
    ManagerArrives parked (fromManager [17, 1]) [17, 1] ∧ ManagerArrives parked (fromManager [9, 1, 1]) [9, 1, 1] ∧
    (parked.page 9).isSome = true ∧ parked.page 10 = none ∧ tableOf 2 = some .stop ∧ tableOf 9 = none ∧
    (parked.counterGroup 4).isSome = true ∧ parked.counterGroup 5 = none ∧ requestOf 17 = none ∧
    requestOf 9 = some .clearFlags ∧ Request.clearFlags.lengthHolds 1 = false := by
  have h : takesFrames parked = true := by decide +kernel
  refine ⟨?_, ?_, ?_, ?_, ?_, ?_, ?_, ?_, ?_, ?_, by decide +kernel⟩ <;>
    exact manager_arrives h (by decide)

/-- Groups at both ends of those refused, an EMPTY copy, and entries that validation passes. -/
theorem witness_ReadsChangeNothingAndClearsOnlyTheirOwn_parts :
    ((0 : Byte) = 0 ∨ 4 < (0 : Byte).toNat) ∧ ((5 : Byte) = 0 ∨ 4 < (5 : Byte).toNat) ∧
    Mga.reset.active.isActive .stop = false ∧ TableId.stop ≠ .reportLevel ∧
    validate 5 .stop (exampleStops.map Stop.bytes) = none ∧
    ((exampleStops.map Stop.bytes).map List.length) = [8, 8, 8] ∧ TableId.stop.entrySize 0 = 8 := by decide +kernel

/-- Each page of a running part has a content; page 10 has none. -/
theorem witness_StatusPagesShowTheState : (∀ n : Fin 10, (parked.page n).isSome = true) ∧ parked.page 10 = none ∧
    (parked.mga.shadow .stop).state ≠ .invalid ∧ running.hlc.stopCause = none ∧
    stopping.hlc.stopCause = some .console ∧ parked.dru.repA.report = none ∧ readyToDepart.dru.repA = lockedReport ∧
    parked.adu.grants = [] ∧ loading.adu.grants = [⟨20, .a, 77, 1, ⟨0, 10000⟩⟩] := by decide +kernel

/-- LOAD of one STOP entry at index 0, and shadows and sizes for each refusal. -/
theorem witness_LoadWritesTheShadowAlone :
    ManagerArrives parked (fromManager [2, 1, 2, 0, 0, 1, 0, 0, 0, 0, 0, 0, 150, 1, 1])
      [2, 1, 2, 0, 0, 1, 0, 0, 0, 0, 0, 0, 150, 1, 1] ∧
    tableOf 0 = none ∧ tableOf 2 = some .stop ∧ parked.mga.pendingMask = none ∧ names 2 .stop = true ∧
    0 + 8 ≤ TableId.stop.capacity ∧ TableId.stop.capacity < 1 + 8 ∧ TableId.stop.entrySize 0 = 8 ∧
    (parked.mga.shadow .stop).state ≠ .filling :=
  ⟨manager_arrives (by decide +kernel) (by decide), by decide +kernel⟩

/-- The STOP entries of the test line pass validation and have the size of their table. -/
theorem witness_TablesInForceReadBackAsLoaded : validate 5 .stop (exampleStops.map Stop.bytes) = none ∧
    (∀ e ∈ exampleStops.map Stop.bytes, e.length = 8) ∧ validate 5 .line exampleLine.sections = none ∧
    exampleLine.sections.map List.length = [40, 46, 25] := by decide +kernel

/-- Entries of the right sizes at each outcome: a count of 1 and of 9, an entry out of its range at a bound and beyond,
an order that does not rise, a second holder of a role and the part's own address, the LINE relations, and none. -/
theorem witness_ValidationReportsTheFirstFailure :
    (∀ e ∈ exampleStops.map Stop.bytes, e.length = 8) ∧ exampleLine.sections.map List.length = [40, 46, 25] ∧
    TableId.line.entrySize 0 = 40 ∧ TableId.line.entrySize 1 = 46 ∧ TableId.line.entrySize 2 = 25 ∧
    validate 5 .stop [Stop.bytes ⟨0, 150, .left, .left⟩] = some (1, .count) ∧
    validate 5 .stop ([⟨0, 20, .none, .both⟩, ⟨4000000, 500, .left, .left⟩].map Stop.bytes) = none ∧
    validate 5 .stop ([⟨0, 20, .none, .both⟩, ⟨4000001, 500, .left, .left⟩].map Stop.bytes) = some (1, .range) ∧
    validate 5 .stop ([⟨0, 20, .none, .both⟩, ⟨0, 500, .left, .left⟩].map Stop.bytes) = some (1, .order) ∧
    validate 5 .profile [Segment.bytes ⟨1, 14000, 14000⟩] = some (0, .order) ∧
    validate 5 .node (List.replicate 4 [0, 0, 0, 0] ++ [1, 0, 0, 0] :: List.replicate 57 [0, 0, 0, 0]) =
      some (4, .role) ∧
    validate 9 .node (List.replicate 4 [0, 0, 0, 0] ++ [1, 0, 0, 0] :: [1, 0, 0, 0] :: List.replicate 56 [0, 0, 0, 0]) =
      some (5, .role) ∧
    validate 5 .reportLevel (List.replicate 28 [3] ++ [[27], [27]]) = some (29, .order) ∧
    validate 5 .reportLevel (List.replicate 28 [3] ++ [[28], [27]]) = some (28, .range) ∧
    validate 5 .line exampleLine.sections = none ∧
    validate 5 .line ({ exampleLine with ps := 30 } : Line).sections = some (1, .order) ∧
    validate 5 .line ({ exampleLine with pct := #v[100, 90, 91, 70] } : Line).sections = some (2, .order) ∧
    validate 5 .line ({ exampleLine with vLineMax := 1000, vCreep := 1001 } : Line).sections = some (1, .order) := by
  decide +kernel

/-- A Management Agent whose MARKER and PRODUCT shadows are VALID. -/
def validShadows : Mga :=
  { parked.mga with shadows := (parked.mga.shadows.set 4 ⟨.valid, [[7, 0, 7, 239, 64]], none⟩).set 5 ⟨.valid, [], none⟩ }

/-- ACTIVATE of a bad mask, with one pending, of a shadow that is not VALID, at once, waiting and failing. -/
theorem witness_ActivationTakesEffectAtRest :
    ManagerArrives { parked with mga := validShadows } (fromManager [3, 1, 16]) [3, 1, 16] ∧
    ManagerArrives { boarding with mga := validShadows } (fromManager [3, 1, 32]) [3, 1, 32] ∧
    ((0x21 : Byte) &&& 0x1F ≠ 0 ∧ (0x21 : Byte) &&& 0xE0 ≠ 0) ∧ validShadows.notValid 1 = some .node ∧
    validShadows.notValid 16 = none ∧ validShadows.notValid 32 = none ∧ (32 : Byte) &&& 0xE0 ≠ 0 ∧
    (16 : Byte) &&& 0xE0 = 0 ∧ crossChecks (validShadows.after 16) parked.adu = none ∧
    (crossChecks (validShadows.after 16) { parked.adu with aboardA := 161 }).isSome = true ∧
    validShadows.pendingMask = none ∧ parked.hlc.state = .parked ∧
    ¬(boarding.hlc.state = .parked ∨ boarding.hlc.state = .tripped) ∧ parked.hlc.state ≠ boarding.hlc.state ∧
    (8 : Byte).getLsbD 3 = true ∧ (16 : Byte).getLsbD 3 = false ∧ exampleLine.sections.length = 3 :=
  ⟨manager_arrives (by decide +kernel) (by decide), manager_arrives (by decide +kernel) (by decide), by decide +kernel⟩

/-- ARMED out of an origin with the MARKER table pending and some passengers aboard car A. -/
def armedPending (origin : Origin) (aboard : Nat) : State :=
  { armed with hlc := { armed.hlc with origin := some origin }
               mga := { validShadows with pendingMask := some 16 }
               adu := { armed.adu with aboardA := aboard } }

/-- An arm expiry that parks the haul with an activation pending that passes its cross-checks, and fails them, and one
that brings it to BOARDING. -/
theorem witness_ActivationTakesEffectAtRest_step :
    let c : Instr := .armExpiry 30000
    rowElapsed c = some 30000 ∧ (armedPending .parked 160).mga.pendingMask = some 16 ∧
    (armedPending .parked 160).hlc.state = .armed ∧ (armedPending .parked 160).inReset = false ∧
    (∃ t, exec c (armedPending .parked 160) = .next t ∧ t.hlc.state = .parked ∧
      crossChecks (validShadows.after 16) t.adu = none) ∧
    (∃ t, exec c (armedPending .parked 161) = .next t ∧ t.hlc.state = .parked ∧
      crossChecks (validShadows.after 16) t.adu = some (6, 161)) ∧
    (∃ t, exec c (armedPending .boarding 160) = .next t ∧ t.hlc.state = .boarding) ∧
    parked.mga.pendingMask = none :=
  ⟨rfl, rfl, rfl, rfl, ⟨_, rfl, by decide +kernel⟩, ⟨_, rfl, by decide +kernel⟩, ⟨_, rfl, by decide +kernel⟩, rfl⟩

/-- The tables of the test line with another LINE record and other STOP and PROFILE entries. -/
def tablesWith (l : Line) (stops : List Stop) (profile : List Segment) : ActiveTables :=
  { exampleTables with line := some l, stop := some stops, profile := some profile }

/-- Each check of R179 failed alone at the first value beyond its bound, and passed at the bound. -/
theorem witness_CrossChecksReportTheFirstFailure :
    crossChecks exampleTables Adu.reset = none ∧
    crossChecks { exampleTables with line := some { exampleLine with length := 1200000 } } Adu.reset = none ∧
    crossChecks { exampleTables with line := some { exampleLine with length := 1199999 } } Adu.reset = some (1, 2) ∧
    crossChecks (tablesWith exampleLine exampleStops [⟨0, 1, 1⟩, ⟨3780001, 1, 1⟩]) Adu.reset = some (2, 1) ∧
    crossChecks { exampleTables with line := some { exampleLine with vLineMax := 11999 } } Adu.reset = some (3, 1) ∧
    crossChecks (tablesWith exampleLine [⟨0, 150, .left, .left⟩] []) Adu.reset = some (4, 20) ∧
    crossChecks (tablesWith exampleLine [⟨0, 150, .left, .left⟩, ⟨520000, 100, .none, .left⟩] []) Adu.reset =
      some (5, 20) ∧
    crossChecks exampleTables { Adu.reset with aboardA := 160 } = none ∧
    crossChecks exampleTables { Adu.reset with aboardA := 160, grants := [⟨20, .a, 77, 1, ⟨0, 10000⟩⟩] } =
      some (6, 161) ∧
    crossChecks exampleTables { Adu.reset with aboardB := 161 } = some (7, 161) ∧
    parked.hlc.state = .parked ∧ boarding.hlc.state ≠ parked.hlc.state := by decide +kernel

/-- Laws of admission that hold, a mask with and without LINE, and an EMPTY STOP table under a GATE. -/
theorem witness_CrossChecksReportTheFirstFailure_reading : AdmissionSound loading ∧
    names 16 .line = false ∧ names 8 .line = true ∧
    crossChecks { exampleTables with stop := none } Adu.reset = some (4, 20) ∧
    crossChecks { exampleTables with stop := none, node := none } Adu.reset = none :=
  ⟨witness_EveryStepKeepsTheAdmissionLaws.1, by decide +kernel⟩

/-- The test line with a t_stale of 20 for the sheaves. -/
def shorterLine : Line := { exampleLine with tStaleSheave := 20 }

/-- A Management Agent whose LINE and REPORTLEVEL shadows are VALID. -/
def relinedShadows : Mga :=
  (parked.mga.setShadow .line ⟨.valid, shorterLine.sections, none⟩).setShadow .reportLevel
    ⟨.valid, List.replicate 28 [0] ++ [[255], [255]], none⟩

/-- A part at rest whose LINE and REPORTLEVEL shadows are VALID, its new record with a t_stale of 20 for the sheaves. -/
def relining : State :=
  { parked with
    clock := 20
    mga := relinedShadows
    hlc := { parked.hlc with drive := ⟨1, 0, 0, some 0, some ⟨0, 300⟩⟩ }
    dru := { parked.dru with repA := lockedReport } }

/-- A mask that names LINE, a haul mask that does not, REPORTLEVEL with and without; a channel whose new expiry is
reached exactly, or not, and one that is not FRESH; a drive and a car with a report, a car without one. -/
theorem witness_NewTablesAreAppliedAtTheTakeEffect :
    names 8 .line = true ∧ haulMask 8 = true ∧ names 16 .line = false ∧ haulMask 16 = true ∧
    (0x80 : Byte) &&& 0x1F = 0 ∧ (0x80 : Byte) &&& 0xE0 ≠ 0 ∧ names 0x80 .reportLevel = true ∧
    names 0x60 .reportLevel = false ∧ (0x60 : Byte) &&& 0x1F = 0 ∧ (0x60 : Byte) &&& 0xE0 ≠ 0 ∧
    (relining.mga.after 8).line = some shorterLine ∧ relining.hlc.state = .parked ∧
    relining.env.mode = .off ∧ relining.moe = parked.moe ∧
    20 ≤ (relining.clock - 0).toNat ∧ ¬ 21 ≤ (relining.clock - 0).toNat ∧ (relining.moe.channel .s1).state = .fresh ∧
    (relining.moe.channel .s1).lastArrival = some 0 ∧ (relining.moe.channel .ca).state ≠ .fresh ∧
    relining.moe.gap = false ∧ relining.moe.candidate = some 0 ∧ staleSheave.moe.candidate = none ∧
    relining.hlc.drive.arrival = some 0 ∧ parked.hlc.drive.arrival = none ∧
    (relining.dru.reports .b).report = none ∧ relining.dru.reports .a = lockedReport ∧
    byteAt (relining.mga.after 0x80).reportLevel 5 = 0 ∧ byteAt relining.mga.active.reportLevel 5 ≠ 0 := by
  decide +kernel

/-- The laws of motion hold in it, as in `parked`. -/
theorem witness_NewTablesAreAppliedAtTheTakeEffect_laws : MotionSound relining :=
  have h := witness_EveryStepKeepsTheMotionAndTimedRecordLaws.1
  ⟨h.fresh, h.history, h.idle, h.timed, h.estimate, h.speed, h.source, h.still⟩

/-- CANCEL_ACTIVATE with an activation pending, and without. -/
theorem witness_CancelEndsThePendingActivation :
    ManagerArrives { boarding with mga := { boarding.mga with pendingMask := some 16 } } (fromManager [4, 1]) [4, 1] ∧
    ManagerArrives boarding (fromManager [4, 1]) [4, 1] ∧ boarding.mga.pendingMask = none :=
  ⟨manager_arrives (by decide +kernel) (by decide), manager_arrives (by decide +kernel) (by decide), by decide +kernel⟩

/-- REINIT in PARKED, in TRIPPED and in BOARDING. -/
theorem witness_ReinitClearsTheRunAndTheCounts :
    ManagerArrives parked (fromManager [16, 1]) [16, 1] ∧ ManagerArrives tripped (fromManager [16, 1]) [16, 1] ∧
    ManagerArrives boarding (fromManager [16, 1]) [16, 1] ∧ parked.hlc.state = .parked ∧
    tripped.hlc.state = .tripped ∧ boarding.hlc.state = .boarding ∧ parked.env.mode = .off ∧ tripped.env.mode = .off :=
  ⟨manager_arrives (by decide +kernel) (by decide), manager_arrives (by decide +kernel) (by decide),
   manager_arrives (by decide +kernel) (by decide), by decide +kernel⟩

/-- A haul PARKED at the bound of its last stop and one mm beyond it. -/
theorem witness_ReinitClearsTheRunAndTheCounts_overrun : parked.hlc.state = .parked ∧
    parked.moe.status.trusted = true ∧ parked.line = some exampleLine ∧
    parked.stops.head? = some ⟨0, 150, .left, .left⟩ ∧
    parked.stops.getLast? = some ⟨1200000, 150, .both, .right⟩ ∧
    (1200000 : Int) + exampleLine.overrun < ({ parked.moe with posA := 1201001 } : Moe).posA ∧
    ¬ (1200000 : Int) + exampleLine.overrun < ({ parked.moe with posA := 1201000 } : Moe).posA ∧
    parked.brs.trip.latched = false := by decide +kernel

/-- A state with a kind pending, and a level of 0 and above. -/
theorem witness_EventsAreCountedAndCoalesced : parked.level EventKind.trip.code = 2 ∧
    parked.rpu.slots[EventKind.trip.code].entry = none ∧
    ({ count := 1, entry := some ⟨255, 0, 0⟩ } : EventSlot).entry = some ⟨255, 0, 0⟩ ∧
    ({ parked with mga := { parked.mga with active := { exampleTables with
      reportLevel := List.replicate 28 0 ++ [255, 255] } } } : State).level EventKind.trip.code = 0 := by decide +kernel

/-- A state with an express kind and another one pending. -/
def reporting : State :=
  { parked with rpu := { Rpu.reset with
      slots := (Rpu.reset.slots.set 1 ⟨1, some ⟨1, 0, 0⟩⟩).set 5 ⟨1, some ⟨1, 0, 0⟩⟩ } }

/-- Its express kind is taken first; a beacon completes. -/
theorem witness_ReportsAndBeaconsAreBuiltAndPlaced : reporting.nextKind = some 1 ∧
    reporting.strapFault = false ∧ ∃ t, exec (.beaconExpiry 1) reporting = .next t :=
  ⟨by decide +kernel, by decide +kernel, _, rfl⟩

/-- A beacon timer reached exactly, or not. -/
theorem witness_ReportsAndBeaconsAreBuiltAndPlaced_beacon : parked.inReset = false ∧ parked.line = some exampleLine ∧
    ({ Rpu.reset with beacon := some ⟨0, 1000⟩ } : Rpu).beacon = some ⟨0, 1000⟩ ∧
    (⟨0, 1000⟩ : Timer).reached (parked.clock + 1000) = true ∧
    due (some ⟨0, 1000⟩) (parked.clock + 999) = false := by decide +kernel

/-! ### Single steps of the manual's sequences -/

/-- The state a command leads to. -/
def after (c : Instr) (s : State) : State :=
  match exec c s with
  | .next t => t
  | _ => s

/-- Sequence 3 at 160,000: V = 4,700 demands a service stop with cause OVERSPEED and raises (4,700, 4,364). -/
theorem test_overspeed_demand :
    let t := judgeTier { running with moe := { running.moe with last := runningAt 4700 } }
    t.hlc.state = .serviceStop ∧ t.hlc.stopCause = some .overspeed ∧ t.brs.aboveService = true ∧
    t.brs.sup = ⟨true, 4700, 0, some ⟨0, 400⟩⟩ ∧ t.rif.force.isSome = true := by decide +kernel

/-- Sequence 3 at 160,400: the period at 4,500 is short, and the next begins there. -/
theorem test_first_short_period :
    (after (.supervisionPeriodExpiry 400) stopping).brs.sup = ⟨true, 4500, 1, some ⟨400, 400⟩⟩ := by decide +kernel

/-- Sequence 3 at 160,800: the second short period trips with SB_INEFFECTIVE. -/
theorem test_second_short_period :
    let t := after (.supervisionPeriodExpiry 400)
      { stopping with brs := { stopping.brs with sup := ⟨true, 4500, 1, some ⟨0, 400⟩⟩ }
                      moe := { stopping.moe with last := runningAt 4300 } }
    t.hlc.state = .tripped ∧ t.brs.trip.first = some .sbIneffective ∧ t.brs.trip.v = 4300 ∧
    t.brs.sup.active = false ∧ t.ebHold = false := by decide +kernel

/-- R88: the first set-point with a speed starts the run; it leaves clamped to E = 4,189 with its accel limit. -/
theorem test_run_starts_at_the_setpoint :
    let t := after (.outBoundary 1) { armed with rif := ringing.rif }
    t.hlc.state = .running ∧ t.hlc.berth = none ∧
    t.rif.sending.map (·.frame.payload) = some [0x10, 0x5D, 0, 9, 1] := by decide +kernel

/-- R87: an accepted DEPART arms for 30 s toward the higher stop. -/
theorem test_depart_arms :
    let t := after (.depart (fromConsole 0x50 [3, 2, 7]) 2 7) readyToDepart
    t.hlc.state = .armed ∧ t.hlc.dir = .up ∧ t.hlc.armTimer = some ⟨0, 30000⟩ ∧
    t.rif.reply.map (·.payload) = [[7, 0x50, 3, 0]] := by decide +kernel

/-- R129: an accepted query is answered in its place with token 1 and one less ride. -/
theorem test_ticket_accepted :
    let t := after (.ticket (sealed 0 5 20 1 0x30 (query 77 1 9 3)) (query 77 1 9 3)) boarding
    t.rif.fifo.map (·.frame.payload) = [[0, 0, 0, 77, 1, 0, 9, 3, 0x01, 2, 1]] ∧
    t.adu.grants.map (·.serial) = [77] ∧ t.adu.token = 2 := by decide +kernel

/-- R170: READ_TRIPS after reset carries the POWER_UP entry. -/
theorem test_read_trips_after_reset :
    (after (.readTrips (fromManager [6, 1, 0]) 1 [0]) State.reset).rif.reply.map (·.payload) =
      [[6, 1, 0, 1, 1, 0, 1, 0, 0, 0, 0, 0, 0, 0, 0, 0, 0, 0]] := by decide +kernel

end Sys2Proof.Tests
end

/-! ## Every command is a reset or a timed act (R1)

`exec` has 53 arms and two shapes: the two resets, and `perform` of the row's own act at the row's own time. `rowAct`
names the act of each timed row, and `exec_of_rowElapsed` ties it to the model; what every act leaves alone then
follows from the frame laws of the operations. -/

section

namespace Sys2Proof.Machine

/-- What a timed row that is no frame of its own kind and payload does: a level changes, a timer is reached, OUT comes to
a boundary, or a run of bytes stands on IN. -/
def edgeAct : Instr → State → State
  | .rawLevelChange _ pin level => rawChange pin level
  | .debounceExpiry _ pin => debounceExpiry pin
  | .channelExpiry _ ch => channelExpiry ch
  | .stillTimerExpiry _ => stillTimerExpiry
  | .lossTimerExpiry _ => lossExpiry
  | .supervisionPeriodExpiry _ => supervisionExpiry
  | .armExpiry _ => armExpiry
  | .driveExpiry _ => driveExpiry
  | .doorStateLost _ car => freshnessExpiry car
  | .releaseExpiry _ car side => releaseExpiry car side
  | .closeExpiry _ car side => closeExpiry car side
  | .grantExpiry _ gate => grantExpiry gate
  | .outBoundary _ => boundary
  | .frameForward _ rx => takeFrame rx
  | .beaconExpiry _ => beaconExpiry
  | _ => id

/-- What a timed row does between the moving on of the line clock and the end of its step: a frame row takes its frame
on IN. The two resets have no act. -/
def rowAct (c : Instr) (s : State) : State :=
  match rowFrame c with
  | some (arr, kind, payload) => takeFrame (frameBytes arr kind payload) s
  | none => edgeAct c s

/-! ### The two shapes of `exec` -/

/-- A timed command performs its row's act at its own time. -/
theorem exec_of_rowElapsed {c : Instr} {elapsed : Time} (h : rowElapsed c = some elapsed) (s : State) :
    exec c s = .next (perform elapsed (rowAct c) s) := by
  cases c <;> cases h <;> rfl

/-- Only the two resets bring no time with them. -/
theorem rowElapsed_eq_none_iff {c : Instr} :
    rowElapsed c = none ↔
      (∃ oa ma chain key, c = .powerOnReset oa ma chain key) ∨ c = .heldInPowerOnReset := by
  cases c <;> simp [rowElapsed]

/-- Everything a command can be and what it comes to: the release of reset, the holding in it, or a timed act. -/
theorem exec_cases (c : Instr) (s : State) :
    (∃ oa ma chain key, c = .powerOnReset oa ma chain key ∧ exec c s = .next (powerOn oa ma chain key s)) ∨
    (c = .heldInPowerOnReset ∧ exec c s = .next (holdInReset s)) ∨
    ∃ elapsed, rowElapsed c = some elapsed ∧ exec c s = .next (perform elapsed (rowAct c) s) := by
  cases h : rowElapsed c with
  | some elapsed => exact .inr (.inr ⟨elapsed, rfl, exec_of_rowElapsed h s⟩)
  | none =>
    obtain ⟨oa, ma, chain, key, rfl⟩ | rfl := rowElapsed_eq_none_iff.mp h
    · exact .inl ⟨oa, ma, chain, key, rfl, rfl⟩
    · exact .inr (.inl ⟨rfl, rfl⟩)

/-! ### What they leave alone -/

@[simp] theorem edgeAct_frame (c : Instr) (s : State) :
    (edgeAct c s).pending = s.pending ∧ (edgeAct c s).steps = s.steps ∧ (edgeAct c s).inReset = s.inReset ∧
    (edgeAct c s).clock = s.clock ∧ (edgeAct c s).oa = s.oa ∧ (edgeAct c s).ma = s.ma := by
  unfold edgeAct
  split <;> simp

/-- No row's act touches the queue, the count of commands, the reset, the clock or the straps: the clock has moved on
before the act. -/
@[simp] theorem rowAct_frame (c : Instr) (s : State) :
    (rowAct c s).pending = s.pending ∧ (rowAct c s).steps = s.steps ∧ (rowAct c s).inReset = s.inReset ∧
    (rowAct c s).clock = s.clock ∧ (rowAct c s).oa = s.oa ∧ (rowAct c s).ma = s.ma := by
  unfold rowAct
  split <;> simp

@[simp] theorem powerOn_pending (oa ma : BitVec 6) (chain key : Level) (s : State) :
    (powerOn oa ma chain key s).pending = s.pending := by
  simp only [powerOn]
  (repeat' split) <;> simp

@[simp] theorem holdInReset_pending (s : State) : (holdInReset s).pending = s.pending := rfl

/-- A running part's timed command moves the clock on by its own time and leaves queue, straps and reset. -/
theorem timed_perform_rowAct {s : State} (h : s.inReset = false) (elapsed : Time) (c : Instr) :
    Timed elapsed s (perform elapsed (rowAct c) s) := by
  rw [perform_running h]
  constructor <;> simp

/-- A timed command leaves the queue alone, held in reset or not. -/
@[simp] theorem perform_rowAct_pending (elapsed : Time) (c : Instr) (s : State) :
    (perform elapsed (rowAct c) s).pending = s.pending := by
  cases h : s.inReset with
  | true => rw [perform_held h]
  | false => exact (timed_perform_rowAct h elapsed c).pending

/-! ### Every command -/

/-- No command ends in a fault or a refusal, and none touches the queue. -/
theorem exec_completes_keeping_queue (c : Instr) (s : State) : Completes c s (fun t => t.pending = s.pending) := by
  obtain ⟨oa, ma, chain, key, -, h⟩ | ⟨-, h⟩ | ⟨elapsed, -, h⟩ := exec_cases c s
  · exact ⟨_, h, powerOn_pending oa ma chain key s⟩
  · exact ⟨_, h, holdInReset_pending s⟩
  · exact ⟨_, h, perform_rowAct_pending elapsed c s⟩

/-- Settles O2: every command is one of the two resets or a timed act, and the frame laws say what each leaves alone. -/
theorem commandsKeepTheQueueAndTheTime : Obligations.CommandsKeepTheQueueAndTheTime := by
  unfold Obligations.CommandsKeepTheQueueAndTheTime
  refine ⟨fun c s => ?completes, fun c s t ht => ?queue, fun c elapsed s t hc hs ht => ?time⟩
  case completes =>
    obtain ⟨t, ht, -⟩ := exec_completes_keeping_queue c s
    exact ⟨t, ht⟩
  case queue =>
    obtain ⟨u, hu, hpending⟩ := exec_completes_keeping_queue c s
    cases hu.symm.trans ht
    exact hpending
  case time =>
    cases (exec_of_rowElapsed hc s).symm.trans ht
    exact timed_perform_rowAct hs elapsed c

end Sys2Proof.Machine

end

/-! ## Records of the Motion Estimator (R2-R13)

What each operation on a channel, a reference or the whole record leaves alone, in the order of the model. -/

section

namespace Sys2Proof.Machine

/-! ### Channels by name -/

@[simp] theorem Moe.channel_s1 (m : Moe) : m.channel .s1 = m.s1 := rfl
@[simp] theorem Moe.channel_s2 (m : Moe) : m.channel .s2 = m.s2 := rfl
@[simp] theorem Moe.channel_ca (m : Moe) : m.channel .ca = m.ca := rfl
@[simp] theorem Moe.channel_cb (m : Moe) : m.channel .cb = m.cb := rfl

/-- A property of every channel is one of the four records. -/
theorem Moe.forall_channel {m : Moe} {P : Channel → Prop} :
    (∀ ch, P (m.channel ch)) ↔ P m.s1 ∧ P m.s2 ∧ P m.ca ∧ P m.cb := by
  constructor
  · exact fun h => ⟨h .s1, h .s2, h .ca, h .cb⟩
  · rintro ⟨h1, h2, h3, h4⟩ (_ | _ | _ | _) <;> assumption

@[simp] theorem Moe.channel_setChannel_self (m : Moe) (ch : ChannelId) (c : Channel) :
    (m.setChannel ch c).channel ch = c := by
  cases ch <;> rfl

theorem Moe.channel_setChannel_of_ne (m : Moe) {ch ch' : ChannelId} (h : ch' ≠ ch) (c : Channel) :
    (m.setChannel ch c).channel ch' = m.channel ch' := by
  cases ch <;> cases ch' <;> simp_all [Moe.setChannel]

@[simp] theorem Moe.setChannel_frame (m : Moe) (ch : ChannelId) (c : Channel) :
    (m.setChannel ch c).ref1 = m.ref1 ∧ (m.setChannel ch c).ref2 = m.ref2 ∧
    (m.setChannel ch c).source = m.source ∧ (m.setChannel ch c).posA = m.posA ∧
    (m.setChannel ch c).gap = m.gap ∧ (m.setChannel ch c).status = m.status ∧
    (m.setChannel ch c).still = m.still ∧ (m.setChannel ch c).candidate = m.candidate ∧
    (m.setChannel ch c).stillTimer = m.stillTimer ∧ (m.setChannel ch c).disagree = m.disagree ∧
    (m.setChannel ch c).slipA = m.slipA ∧ (m.setChannel ch c).slipB = m.slipB ∧
    (m.setChannel ch c).counters = m.counters ∧ (m.setChannel ch c).last = m.last := by
  cases ch <;> simp [Moe.setChannel]

@[simp] theorem Moe.count_frame (m : Moe) (c : MotionCounter) :
    (m.count c).s1 = m.s1 ∧ (m.count c).s2 = m.s2 ∧ (m.count c).ca = m.ca ∧ (m.count c).cb = m.cb ∧
    (m.count c).ref1 = m.ref1 ∧ (m.count c).ref2 = m.ref2 ∧ (m.count c).source = m.source ∧
    (m.count c).posA = m.posA ∧ (m.count c).gap = m.gap ∧ (m.count c).status = m.status ∧
    (m.count c).still = m.still ∧ (m.count c).candidate = m.candidate ∧
    (m.count c).stillTimer = m.stillTimer ∧ (m.count c).disagree = m.disagree ∧
    (m.count c).slipA = m.slipA ∧ (m.count c).slipB = m.slipB ∧ (m.count c).last = m.last := by
  simp [Moe.count]

@[simp] theorem Moe.count_counters (m : Moe) (c : MotionCounter) :
    (m.count c).counters = bumpBy m.counters c.idx 1 := rfl

@[simp] theorem Moe.setReference_frame (m : Moe) (sh : Sheave) (r : Reference) :
    (m.setReference sh r).s1 = m.s1 ∧ (m.setReference sh r).s2 = m.s2 ∧ (m.setReference sh r).ca = m.ca ∧
    (m.setReference sh r).cb = m.cb ∧ (m.setReference sh r).source = m.source ∧
    (m.setReference sh r).posA = m.posA ∧ (m.setReference sh r).gap = m.gap ∧
    (m.setReference sh r).status = m.status ∧ (m.setReference sh r).still = m.still ∧
    (m.setReference sh r).candidate = m.candidate ∧ (m.setReference sh r).stillTimer = m.stillTimer ∧
    (m.setReference sh r).disagree = m.disagree ∧ (m.setReference sh r).slipA = m.slipA ∧
    (m.setReference sh r).slipB = m.slipB ∧ (m.setReference sh r).counters = m.counters ∧
    (m.setReference sh r).last = m.last := by
  cases sh <;> simp [Moe.setReference]

@[simp] theorem Moe.setSlip_frame (m : Moe) (car : Car) (p : Persistence) :
    (m.setSlip car p).s1 = m.s1 ∧ (m.setSlip car p).s2 = m.s2 ∧ (m.setSlip car p).ca = m.ca ∧
    (m.setSlip car p).cb = m.cb ∧ (m.setSlip car p).ref1 = m.ref1 ∧ (m.setSlip car p).ref2 = m.ref2 ∧
    (m.setSlip car p).source = m.source ∧ (m.setSlip car p).posA = m.posA ∧ (m.setSlip car p).gap = m.gap ∧
    (m.setSlip car p).status = m.status ∧ (m.setSlip car p).still = m.still ∧
    (m.setSlip car p).candidate = m.candidate ∧ (m.setSlip car p).stillTimer = m.stillTimer ∧
    (m.setSlip car p).disagree = m.disagree ∧ (m.setSlip car p).counters = m.counters ∧
    (m.setSlip car p).last = m.last := by
  cases car <;> simp [Moe.setSlip]

/-! ### Re-basing, following and choosing (R11-R13) -/

@[simp] theorem Moe.rebase_frame (m : Moe) (sh : Sheave) (pos : Int) :
    (m.rebase sh pos).s1 = m.s1 ∧ (m.rebase sh pos).s2 = m.s2 ∧ (m.rebase sh pos).ca = m.ca ∧
    (m.rebase sh pos).cb = m.cb ∧ (m.rebase sh pos).source = m.source ∧ (m.rebase sh pos).posA = m.posA ∧
    (m.rebase sh pos).gap = m.gap ∧ (m.rebase sh pos).status = m.status ∧
    (m.rebase sh pos).still = m.still ∧ (m.rebase sh pos).candidate = m.candidate ∧
    (m.rebase sh pos).stillTimer = m.stillTimer ∧ (m.rebase sh pos).disagree = m.disagree ∧
    (m.rebase sh pos).slipA = m.slipA ∧ (m.rebase sh pos).slipB = m.slipB ∧
    (m.rebase sh pos).counters = m.counters ∧ (m.rebase sh pos).last = m.last := by
  unfold Moe.rebase
  split <;> simp

@[simp] theorem Moe.moveTo_frame (m : Moe) (pos : Int) :
    (m.moveTo pos).s1 = m.s1 ∧ (m.moveTo pos).s2 = m.s2 ∧ (m.moveTo pos).ca = m.ca ∧
    (m.moveTo pos).cb = m.cb ∧ (m.moveTo pos).source = m.source ∧ (m.moveTo pos).posA = pos ∧
    (m.moveTo pos).gap = m.gap ∧ (m.moveTo pos).status = m.status ∧ (m.moveTo pos).still = m.still ∧
    (m.moveTo pos).candidate = m.candidate ∧ (m.moveTo pos).stillTimer = m.stillTimer ∧
    (m.moveTo pos).disagree = m.disagree ∧ (m.moveTo pos).slipA = m.slipA ∧
    (m.moveTo pos).slipB = m.slipB ∧ (m.moveTo pos).counters = m.counters ∧
    (m.moveTo pos).last = m.last := by
  simp [Moe.moveTo]

@[simp] theorem Moe.follow_frame (m : Moe) (l : Line) (sh : Sheave) :
    (m.follow l sh).s1 = m.s1 ∧ (m.follow l sh).s2 = m.s2 ∧ (m.follow l sh).ca = m.ca ∧
    (m.follow l sh).cb = m.cb ∧ (m.follow l sh).ref1 = m.ref1 ∧ (m.follow l sh).ref2 = m.ref2 ∧
    (m.follow l sh).source = m.source ∧ (m.follow l sh).gap = m.gap ∧ (m.follow l sh).status = m.status ∧
    (m.follow l sh).still = m.still ∧ (m.follow l sh).candidate = m.candidate ∧
    (m.follow l sh).stillTimer = m.stillTimer ∧ (m.follow l sh).disagree = m.disagree ∧
    (m.follow l sh).slipA = m.slipA ∧ (m.follow l sh).slipB = m.slipB ∧
    (m.follow l sh).counters = m.counters ∧ (m.follow l sh).last = m.last := by
  unfold Moe.follow
  (repeat' split) <;> simp

/-- The source re-chosen moves no channel, no position, no STILL and no counter. -/
@[simp] theorem Moe.chooseSource_frame (m : Moe) :
    m.chooseSource.s1 = m.s1 ∧ m.chooseSource.s2 = m.s2 ∧ m.chooseSource.ca = m.ca ∧
    m.chooseSource.cb = m.cb ∧ m.chooseSource.source = m.choice ∧ m.chooseSource.posA = m.posA ∧
    m.chooseSource.still = m.still ∧ m.chooseSource.candidate = m.candidate ∧
    m.chooseSource.stillTimer = m.stillTimer ∧ m.chooseSource.disagree = m.disagree ∧
    m.chooseSource.slipA = m.slipA ∧ m.chooseSource.slipB = m.slipB ∧
    m.chooseSource.counters = m.counters ∧ m.chooseSource.last = m.last := by
  unfold Moe.chooseSource
  cases h : m.choice
  · simp
  · simp only
    (repeat' split) <;> simp

/-- The choice reads the states of the sheave channels alone. -/
theorem Moe.choice_congr {m m' : Moe} (h1 : m'.s1.state = m.s1.state) (h2 : m'.s2.state = m.s2.state) :
    m'.choice = m.choice := by
  simp [Moe.choice, h1, h2]

end Sys2Proof.Machine

end

/-! ## The laws of the motion estimate are kept (R3, R5, R9, R10, R12, R18)

`MotionSound` speaks of the Motion Estimator alone, so it is kept by keeping `Moe.Sound`, block operation by block
operation; the steps that touch the block are the samples, the markers, two expiries and four requests. -/

section

namespace Sys2Proof.Machine

/-! ### The laws of one channel and of the block -/

/-- The laws of one channel record (R3, R5, R7, R9). -/
structure Channel.Sound (c : Channel) : Prop where
  fresh : c.state = .fresh ↔ c.history ≠ []
  history : c.history.length ≤ 8
  idle : c.state ≠ .fresh → c.estimate = none ∧ c.expiry = none ∧ c.saturated = false
  timed : c.state = .fresh → c.lastArrival.isSome = true ∧ c.expiry.isSome = true
  estimate : ∀ v, c.estimate = some v → -32767 ≤ v ∧ v ≤ 32767

/-- The laws of the Motion Estimator (R3, R10, R12, R18). -/
structure Moe.Sound (m : Moe) : Prop where
  channel : ∀ ch, (m.channel ch).Sound
  speed : m.last.v ≤ 32767
  source : m.source = m.choice
  still : m.still = true → m.candidate.isSome = true

theorem motionSound_iff {s : State} : MotionSound s ↔ s.moe.Sound := by
  constructor
  · intro h
    exact ⟨fun ch => ⟨h.fresh ch, h.history ch, h.idle ch, h.timed ch, h.estimate ch⟩, h.speed, h.source, h.still⟩
  · intro h
    exact ⟨fun ch => (h.channel ch).fresh, fun ch => (h.channel ch).history, fun ch => (h.channel ch).idle,
      fun ch => (h.channel ch).timed, fun ch => (h.channel ch).estimate, h.speed, h.source, h.still⟩

/-- The laws read the channels, the latest V, the source, STILL and the candidate. -/
theorem Moe.Sound.congr {m m' : Moe} (h : m.Sound)
    (he : (m'.s1 = m.s1 ∧ m'.s2 = m.s2 ∧ m'.ca = m.ca ∧ m'.cb = m.cb) ∧ m'.last.v = m.last.v ∧
      m'.source = m.source ∧ m'.still = m.still ∧ m'.candidate = m.candidate) : m'.Sound := by
  obtain ⟨⟨h1, h2, ha, hb⟩, hv, hsrc, hstill, hcand⟩ := he
  constructor
  · exact Moe.forall_channel.mpr (by simpa only [h1, h2, ha, hb] using Moe.forall_channel.mp h.channel)
  · rw [hv]; exact h.speed
  · rw [hsrc, h.source]
    exact (Moe.choice_congr (congrArg _ h1) (congrArg _ h2)).symm
  · rw [hstill, hcand]; exact h.still

/-! ### Estimates -/

theorem limitSpeed_bounds (v : Int) : -32767 ≤ (limitSpeed v).1 ∧ (limitSpeed v).1 ≤ 32767 := by
  unfold limitSpeed
  split
  · simp
  · split
    · simp
    · simp only
      omega

theorem estimateOf_bounds {cl : ChannelLine} {h : List Sample} {v : Int} {sat : Bool}
    (he : estimateOf cl h = some (v, sat)) : -32767 ≤ v ∧ v ≤ 32767 := by
  unfold estimateOf at he
  split at he
  · obtain ⟨oldest, -, ho⟩ := Option.map_eq_some_iff.mp he
    rw [show v = (estimateOver cl _ _).1 from (congrArg Prod.fst ho).symm]
    exact limitSpeed_bounds _
  · simp at he

/-- The estimate and SATURATED are all that forming the estimate changes. -/
theorem Channel.estimated_eq (c : Channel) (cl : ChannelLine) : c.estimated cl =
    { c with estimate := (estimateOf cl c.history).map (·.1)
             saturated := ((estimateOf cl c.history).map (·.2)).getD false } := by
  unfold Channel.estimated
  split <;> simp_all

theorem Channel.estimated_bounds {c : Channel} {cl : ChannelLine} {v : Int}
    (h : (c.estimated cl).estimate = some v) : -32767 ≤ v ∧ v ≤ 32767 := by
  rw [Channel.estimated_eq] at h
  obtain ⟨⟨w, sat⟩, he, rfl⟩ := Option.map_eq_some_iff.mp h
  exact estimateOf_bounds he

/-! ### Channels -/

theorem Channel.sound_reset : Channel.Sound .reset := by
  constructor <;> simp [Channel.reset]

theorem Channel.expired_sound (c : Channel) : c.expired.Sound := by
  constructor <;> simp [Channel.expired]

theorem newestOf_length_le (n : Nat) (h : List Sample) : (newestOf n h).length ≤ n := by
  simp only [newestOf, List.length_drop]
  omega

theorem newestOf_append_ne_nil {n : Nat} (hn : 0 < n) (h : List Sample) (x : Sample) :
    newestOf n (h ++ [x]) ≠ [] := by
  rw [← List.length_pos_iff, newestOf, List.length_drop, List.length_append, List.length_singleton]
  omega

/-- An accepted sample leaves a sound channel, whatever it met. -/
theorem Channel.accept_sound (c : Channel) (cl : ChannelLine) (limit : Nat) (x : Sample) (now : Time) :
    (c.accept cl limit x now).Sound where
  fresh := by
    by_cases h : c.state = .fresh
    · simp [Channel.accept, Channel.estimated_eq, h, newestOf_append_ne_nil]
    · simp [Channel.accept, Channel.estimated_eq, h]
  history := by
    by_cases h : c.state = .fresh
    · simp [Channel.accept, Channel.estimated_eq, h, newestOf_length_le]
    · simp [Channel.accept, Channel.estimated_eq, h]
  idle := by simp [Channel.accept, Channel.estimated_eq]
  timed := by simp [Channel.accept, Channel.estimated_eq]
  estimate _ h := Channel.estimated_bounds h

/-- A FRESH channel under a new LINE record: its expiry is moved, and its estimate formed anew of two entries or
more (R21). -/
theorem Channel.relined_of_fresh {c : Channel} (h : c.state = .fresh) (l : Line) (ch : ChannelId) :
    c.relined l ch = { c with
      expiry := c.lastArrival.map fun t => { start := t, dur := l.stale ch }
      estimate := if 2 ≤ c.history.length then (estimateOf (l.channel ch) c.history).map (·.1) else c.estimate
      saturated := if 2 ≤ c.history.length then ((estimateOf (l.channel ch) c.history).map (·.2)).getD false
        else c.saturated } := by
  by_cases h2 : 2 ≤ c.history.length
  · simp [Channel.relined, Channel.estimated_eq, h, h2]
  · simp only [Channel.relined, if_neg h2, if_pos h]

/-- A channel without a history stands under a new LINE record. -/
theorem Channel.relined_of_not_fresh {c : Channel} (h : c.state ≠ .fresh) (hnil : c.history = []) (l : Line)
    (ch : ChannelId) : c.relined l ch = c := by
  simp [Channel.relined, hnil, h]

/-- A new LINE record keeps a channel sound, and its state. -/
theorem Channel.Sound.relined {c : Channel} (hc : c.Sound) (l : Line) (ch : ChannelId) :
    (c.relined l ch).Sound ∧ (c.relined l ch).state = c.state := by
  by_cases hf : c.state = .fresh
  · rw [Channel.relined_of_fresh hf]
    refine ⟨⟨hc.fresh, hc.history, fun h => absurd hf h, fun _ => ?_, fun v hv => ?_⟩, rfl⟩
    · simpa using (hc.timed hf).1
    · by_cases h2 : 2 ≤ c.history.length
      · simp only [h2, if_true, Option.map_eq_some_iff] at hv
        obtain ⟨⟨w, sat⟩, he, rfl⟩ := hv
        exact estimateOf_bounds he
      · exact hc.estimate v (by simpa [h2] using hv)
  · have hnil : c.history = [] := by simpa [hf] using hc.fresh
    rw [Channel.relined_of_not_fresh hf hnil]
    exact ⟨hc, rfl⟩

/-! ### The line speed -/

theorem Channel.Sound.magnitude_le {c : Channel} (hc : c.Sound) : c.magnitude ≤ 32767 := by
  unfold Channel.magnitude Channel.contribution
  by_cases hf : c.state = .fresh
  · cases he : c.estimate with
    | none => simp [hf]
    | some v =>
      have := hc.estimate v he
      simp only [hf, if_true]
      omega
  · simp [hf]

/-- V lies within 32,767 (R10). -/
theorem Moe.lineSpeed_le {m : Moe} (h : ∀ ch, (m.channel ch).Sound) : m.lineSpeed ≤ 32767 := by
  simp only [Moe.lineSpeed, Nat.max_le]
  exact ⟨⟨(h .s1).magnitude_le, (h .s2).magnitude_le⟩, (h .ca).magnitude_le, (h .cb).magnitude_le⟩

/-! ### The block's operations -/

/-- A channel replaced by a sound one of the same state keeps the laws. -/
theorem Moe.Sound.setChannel {m : Moe} (h : m.Sound) {ch : ChannelId} {c : Channel} (hc : c.Sound)
    (hs : m.choice = (m.setChannel ch c).choice) : (m.setChannel ch c).Sound where
  channel ch' := by
    by_cases he : ch' = ch
    · subst he; simpa using hc
    · rw [Moe.channel_setChannel_of_ne m he]; exact h.channel ch'
  speed := by simpa using h.speed
  source := by simpa [← hs] using h.source
  still := by simpa using h.still

/-- A source re-chosen is the choice, whatever it was. -/
theorem Moe.chooseSource_sound {m : Moe} (hch : ∀ ch, (m.channel ch).Sound) (hv : m.last.v ≤ 32767)
    (hstill : m.still = true → m.candidate.isSome = true) : m.chooseSource.Sound where
  channel := by simpa [Moe.forall_channel] using Moe.forall_channel.mp hch
  speed := by simpa using hv
  source := by
    rw [(Moe.chooseSource_frame m).2.2.2.2.1]
    exact (Moe.choice_congr (by simp) (by simp)).symm
  still := by simpa using hstill

@[simp] theorem sheaveOf_isNone_iff {ch : ChannelId} : sheaveOf ch = none ↔ ch = .ca ∨ ch = .cb := by
  cases ch <;> simp [sheaveOf]

/-- A car's channel is no choice of source. -/
theorem Moe.choice_setChannel_of_car (m : Moe) {ch : ChannelId} (h : sheaveOf ch = none) (c : Channel) :
    (m.setChannel ch c).choice = m.choice := by
  obtain rfl | rfl := sheaveOf_isNone_iff.mp h <;> rfl

/-- A channel that keeps its state keeps the choice of source. -/
theorem Moe.choice_setChannel_of_state (m : Moe) {ch : ChannelId} {c : Channel}
    (h : c.state = (m.channel ch).state) : (m.setChannel ch c).choice = m.choice := by
  cases ch with
  | s1 => exact Moe.choice_congr h rfl
  | s2 => exact Moe.choice_congr rfl h
  | ca => rfl
  | cb => rfl

end Sys2Proof.Machine

end

section

namespace Sys2Proof.Machine

/-! ### The cross-checks (R17, R19, R20) -/

/-- A divergence check changes the status alone of the Motion Estimator. -/
@[simp] theorem judgeDivergence_moe_frame (l : Line) (s : State) :
    (judgeDivergence l s).moe.s1 = s.moe.s1 ∧ (judgeDivergence l s).moe.s2 = s.moe.s2 ∧
    (judgeDivergence l s).moe.ca = s.moe.ca ∧ (judgeDivergence l s).moe.cb = s.moe.cb ∧
    (judgeDivergence l s).moe.ref1 = s.moe.ref1 ∧ (judgeDivergence l s).moe.ref2 = s.moe.ref2 ∧
    (judgeDivergence l s).moe.source = s.moe.source ∧ (judgeDivergence l s).moe.posA = s.moe.posA ∧
    (judgeDivergence l s).moe.gap = s.moe.gap ∧ (judgeDivergence l s).moe.still = s.moe.still ∧
    (judgeDivergence l s).moe.candidate = s.moe.candidate ∧
    (judgeDivergence l s).moe.stillTimer = s.moe.stillTimer ∧
    (judgeDivergence l s).moe.disagree = s.moe.disagree ∧ (judgeDivergence l s).moe.slipA = s.moe.slipA ∧
    (judgeDivergence l s).moe.slipB = s.moe.slipB ∧ (judgeDivergence l s).moe.counters = s.moe.counters ∧
    (judgeDivergence l s).moe.last = s.moe.last := by
  simp only [judgeDivergence]
  (repeat' split) <;> simp

/-- A disagreement check changes its record alone. -/
@[simp] theorem judgeDisagree_moe_frame (l : Line) (s : State) :
    (judgeDisagree l s).moe.s1 = s.moe.s1 ∧ (judgeDisagree l s).moe.s2 = s.moe.s2 ∧
    (judgeDisagree l s).moe.ca = s.moe.ca ∧ (judgeDisagree l s).moe.cb = s.moe.cb ∧
    (judgeDisagree l s).moe.ref1 = s.moe.ref1 ∧ (judgeDisagree l s).moe.ref2 = s.moe.ref2 ∧
    (judgeDisagree l s).moe.source = s.moe.source ∧ (judgeDisagree l s).moe.posA = s.moe.posA ∧
    (judgeDisagree l s).moe.gap = s.moe.gap ∧ (judgeDisagree l s).moe.status = s.moe.status ∧
    (judgeDisagree l s).moe.still = s.moe.still ∧ (judgeDisagree l s).moe.candidate = s.moe.candidate ∧
    (judgeDisagree l s).moe.stillTimer = s.moe.stillTimer ∧ (judgeDisagree l s).moe.slipA = s.moe.slipA ∧
    (judgeDisagree l s).moe.slipB = s.moe.slipB ∧ (judgeDisagree l s).moe.counters = s.moe.counters ∧
    (judgeDisagree l s).moe.last = s.moe.last := by
  unfold judgeDisagree
  (repeat' split) <;> simp

/-- A slip check changes the slip records alone. -/
@[simp] theorem judgeSlip_moe_frame (l : Line) (car : Car) (s : State) :
    (judgeSlip l car s).moe.s1 = s.moe.s1 ∧ (judgeSlip l car s).moe.s2 = s.moe.s2 ∧
    (judgeSlip l car s).moe.ca = s.moe.ca ∧ (judgeSlip l car s).moe.cb = s.moe.cb ∧
    (judgeSlip l car s).moe.ref1 = s.moe.ref1 ∧ (judgeSlip l car s).moe.ref2 = s.moe.ref2 ∧
    (judgeSlip l car s).moe.source = s.moe.source ∧ (judgeSlip l car s).moe.posA = s.moe.posA ∧
    (judgeSlip l car s).moe.gap = s.moe.gap ∧ (judgeSlip l car s).moe.status = s.moe.status ∧
    (judgeSlip l car s).moe.still = s.moe.still ∧ (judgeSlip l car s).moe.candidate = s.moe.candidate ∧
    (judgeSlip l car s).moe.stillTimer = s.moe.stillTimer ∧
    (judgeSlip l car s).moe.disagree = s.moe.disagree ∧ (judgeSlip l car s).moe.counters = s.moe.counters ∧
    (judgeSlip l car s).moe.last = s.moe.last := by
  unfold judgeSlip
  (repeat' split) <;> simp

/-- The checks of an accepted sample move no channel, position, source, reference, STILL or counter. -/
@[simp] theorem crossCheck_moe_frame (l : Line) (ch : ChannelId) (s : State) :
    (crossCheck l ch s).moe.s1 = s.moe.s1 ∧ (crossCheck l ch s).moe.s2 = s.moe.s2 ∧
    (crossCheck l ch s).moe.ca = s.moe.ca ∧ (crossCheck l ch s).moe.cb = s.moe.cb ∧
    (crossCheck l ch s).moe.ref1 = s.moe.ref1 ∧ (crossCheck l ch s).moe.ref2 = s.moe.ref2 ∧
    (crossCheck l ch s).moe.source = s.moe.source ∧ (crossCheck l ch s).moe.posA = s.moe.posA ∧
    (crossCheck l ch s).moe.gap = s.moe.gap ∧ (crossCheck l ch s).moe.still = s.moe.still ∧
    (crossCheck l ch s).moe.candidate = s.moe.candidate ∧
    (crossCheck l ch s).moe.stillTimer = s.moe.stillTimer ∧
    (crossCheck l ch s).moe.counters = s.moe.counters ∧ (crossCheck l ch s).moe.last = s.moe.last := by
  unfold crossCheck
  split <;> simp

/-! ### The motion update (R10, R18) -/

/-- No block but the Motion Estimator itself changes it at an update. -/
theorem motionUpdate_moe (s : State) :
    (motionUpdate s).moe = { (judgeStill s).moe with last := (judgeStill s).moe.motion } := by
  simp [motionUpdate, storeMotion]

/-- STILL and its timer are all that judging the still condition changes. -/
@[simp] theorem judgeStill_moe_frame (s : State) :
    (judgeStill s).moe.s1 = s.moe.s1 ∧ (judgeStill s).moe.s2 = s.moe.s2 ∧
    (judgeStill s).moe.ca = s.moe.ca ∧ (judgeStill s).moe.cb = s.moe.cb ∧
    (judgeStill s).moe.ref1 = s.moe.ref1 ∧ (judgeStill s).moe.ref2 = s.moe.ref2 ∧
    (judgeStill s).moe.source = s.moe.source ∧ (judgeStill s).moe.posA = s.moe.posA ∧
    (judgeStill s).moe.gap = s.moe.gap ∧ (judgeStill s).moe.status = s.moe.status ∧
    (judgeStill s).moe.disagree = s.moe.disagree ∧ (judgeStill s).moe.slipA = s.moe.slipA ∧
    (judgeStill s).moe.slipB = s.moe.slipB ∧ (judgeStill s).moe.counters = s.moe.counters ∧
    (judgeStill s).moe.last = s.moe.last := by
  simp only [judgeStill]
  (repeat' split) <;> simp

/-- An update moves no channel, reference, source, position or counter. -/
@[simp] theorem motionUpdate_moe_frame (s : State) :
    (motionUpdate s).moe.s1 = s.moe.s1 ∧ (motionUpdate s).moe.s2 = s.moe.s2 ∧
    (motionUpdate s).moe.ca = s.moe.ca ∧ (motionUpdate s).moe.cb = s.moe.cb ∧
    (motionUpdate s).moe.ref1 = s.moe.ref1 ∧ (motionUpdate s).moe.ref2 = s.moe.ref2 ∧
    (motionUpdate s).moe.source = s.moe.source ∧ (motionUpdate s).moe.posA = s.moe.posA ∧
    (motionUpdate s).moe.gap = s.moe.gap ∧ (motionUpdate s).moe.status = s.moe.status ∧
    (motionUpdate s).moe.disagree = s.moe.disagree ∧ (motionUpdate s).moe.slipA = s.moe.slipA ∧
    (motionUpdate s).moe.slipB = s.moe.slipB ∧ (motionUpdate s).moe.counters = s.moe.counters := by
  simp [motionUpdate_moe]

/-- Operations that keep the four channel records keep them by name. -/
theorem Moe.channel_congr {m m' : Moe} (h1 : m'.s1 = m.s1) (h2 : m'.s2 = m.s2) (ha : m'.ca = m.ca)
    (hb : m'.cb = m.cb) (ch : ChannelId) : m'.channel ch = m.channel ch := by
  cases ch <;> assumption

@[simp] theorem motionUpdate_channel (s : State) (ch : ChannelId) :
    (motionUpdate s).moe.channel ch = s.moe.channel ch :=
  Moe.channel_congr (by simp) (by simp) (by simp) (by simp) ch

@[simp] theorem crossCheck_channel (l : Line) (c : ChannelId) (s : State) (ch : ChannelId) :
    (crossCheck l c s).moe.channel ch = s.moe.channel ch :=
  Moe.channel_congr (by simp) (by simp) (by simp) (by simp) ch

@[simp] theorem Moe.rebase_channel (m : Moe) (sh : Sheave) (pos : Int) (ch : ChannelId) :
    (m.rebase sh pos).channel ch = m.channel ch :=
  Moe.channel_congr (by simp) (by simp) (by simp) (by simp) ch

@[simp] theorem Moe.moveTo_channel (m : Moe) (pos : Int) (ch : ChannelId) :
    (m.moveTo pos).channel ch = m.channel ch :=
  Moe.channel_congr (by simp) (by simp) (by simp) (by simp) ch

@[simp] theorem Moe.chooseSource_channel (m : Moe) (ch : ChannelId) :
    m.chooseSource.channel ch = m.channel ch :=
  Moe.channel_congr (by simp) (by simp) (by simp) (by simp) ch

@[simp] theorem Moe.follow_channel (m : Moe) (l : Line) (sh : Sheave) (ch : ChannelId) :
    (m.follow l sh).channel ch = m.channel ch :=
  Moe.channel_congr (by simp) (by simp) (by simp) (by simp) ch

@[simp] theorem Moe.count_channel (m : Moe) (c : MotionCounter) (ch : ChannelId) :
    (m.count c).channel ch = m.channel ch := rfl

@[simp] theorem Moe.setSlip_channel (m : Moe) (car : Car) (p : Persistence) (ch : ChannelId) :
    (m.setSlip car p).channel ch = m.channel ch :=
  Moe.channel_congr (by simp) (by simp) (by simp) (by simp) ch

/-! ### The laws through the update -/

/-- STILL and its candidate keep their law where the still condition is judged. -/
theorem judgeStill_still {s : State} (h : s.moe.still = true → s.moe.candidate.isSome = true) :
    (judgeStill s).moe.still = true → (judgeStill s).moe.candidate.isSome = true := by
  simp only [judgeStill]
  (repeat' split) <;> simp_all

/-- An update keeps the laws, and brings V within its range. -/
theorem motionUpdate_sound {s : State} (hch : ∀ ch, (s.moe.channel ch).Sound)
    (hsrc : s.moe.source = s.moe.choice) (hstill : s.moe.still = true → s.moe.candidate.isSome = true) :
    (motionUpdate s).moe.Sound where
  channel ch := by simpa using hch ch
  speed := by
    rw [motionUpdate_moe]
    exact Moe.lineSpeed_le (Moe.forall_channel.mpr (by simpa using Moe.forall_channel.mp hch))
  source := by
    rw [(motionUpdate_moe_frame s).2.2.2.2.2.2.1, hsrc]
    exact (Moe.choice_congr (by simp) (by simp)).symm
  still := by simpa [motionUpdate_moe] using judgeStill_still hstill

theorem Moe.Sound.motionUpdate {s : State} (h : s.moe.Sound) : (motionUpdate s).moe.Sound :=
  motionUpdate_sound h.channel h.source h.still

/-! ### Samples, markers and expiries -/

theorem Moe.Sound.count {m : Moe} (h : m.Sound) (c : MotionCounter) : (m.count c).Sound :=
  h.congr (by simp)

theorem Moe.Sound.crossCheck {s : State} (h : s.moe.Sound) (l : Line) (ch : ChannelId) :
    (crossCheck l ch s).moe.Sound :=
  h.congr (by simp)

/-- A sheave's position settled: a restarted channel re-chooses the source, which need not have been the choice. -/
theorem Moe.settlePosition_sound {m : Moe} {l : Line} {sh : Sheave} {restarted : Bool}
    (hch : ∀ ch, (m.channel ch).Sound) (hv : m.last.v ≤ 32767)
    (hsrc : restarted = false → m.source = m.choice)
    (hstill : m.still = true → m.candidate.isSome = true) : (m.settlePosition l sh restarted).Sound := by
  cases restarted with
  | true => exact Moe.chooseSource_sound (by simpa using hch) (by simpa using hv) (by simpa using hstill)
  | false =>
    exact Moe.Sound.congr ⟨hch, hv, hsrc rfl, hstill⟩ (m' := m.follow l sh) (by simp)

end Sys2Proof.Machine

end

section

namespace Sys2Proof.Machine

@[simp] theorem Channel.accept_state (c : Channel) (cl : ChannelLine) (limit : Nat) (x : Sample) (now : Time) :
    (c.accept cl limit x now).state = .fresh := by
  simp [Channel.accept, Channel.estimated_eq]

/-- Every channel is sound after one of them is replaced by a sound record. -/
theorem Moe.channel_sound_setChannel {m : Moe} (h : ∀ ch, (m.channel ch).Sound) (ch : ChannelId) {c : Channel}
    (hc : c.Sound) (ch' : ChannelId) : ((m.setChannel ch c).channel ch').Sound := by
  by_cases he : ch' = ch
  · subst he; simpa using hc
  · rw [Moe.channel_setChannel_of_ne m he]; exact h ch'

theorem Moe.Sound.takeSample {s : State} (h : s.moe.Sound) (ch : ChannelId) (x : Sample) (health : Byte) :
    (takeSample ch x health s).moe.Sound := by
  unfold Machine.takeSample
  split
  · exact h.count _
  · rename_i l _
    split
    · exact h.count _
    · have hc := Channel.accept_sound (s.moe.channel ch) (l.channel ch) (l.stale ch) x s.clock
      refine Moe.Sound.motionUpdate (Moe.Sound.crossCheck ?_ l ch)
      simp only [State.withMoe_moe]
      cases hsh : sheaveOf ch with
      | none => exact (h.setChannel hc (Moe.choice_setChannel_of_car _ hsh _).symm).count _
      | some sh =>
        refine Moe.settlePosition_sound (by simpa using Moe.channel_sound_setChannel h.channel ch hc)
          (by simpa using h.speed) (fun hr => ?_) (by simpa using h.still)
        have hf : (s.moe.channel ch).state = .fresh := by simpa using hr
        exact ((h.setChannel hc (Moe.choice_setChannel_of_state _ (by simp [hf])).symm).count _).source

theorem Moe.Sound.applyMarker {s : State} (h : s.moe.Sound) (implied diff : Int) (c : MotionCounter) :
    (applyMarker implied diff c s).moe.Sound :=
  Moe.Sound.motionUpdate (h.congr (by simp))

theorem Moe.Sound.rejectMarker {s : State} (h : s.moe.Sound) (diff : Int) : (rejectMarker diff s).moe.Sound :=
  Moe.Sound.motionUpdate (h.congr (by simp))

theorem Moe.Sound.judgeMarker {s : State} (h : s.moe.Sound) (l : Line) (implied : Int) :
    (judgeMarker l implied s).moe.Sound := by
  simp only [Machine.judgeMarker]
  split
  · split
    · exact h.applyMarker _ _ _
    · exact h.rejectMarker _
  · exact h.applyMarker _ _ _

theorem Moe.Sound.takeMarker {s : State} (h : s.moe.Sound) (id car : Byte) :
    (takeMarker id car s).moe.Sound := by
  unfold Machine.takeMarker
  split
  · split
    · exact h.count _
    · split
      · exact h.judgeMarker _ _
      · exact h
  · simpa [markerUnknown, countMotion] using h.count _

/-- An expired channel of a car is no source; that of a sheave re-chooses it. -/
theorem Moe.Sound.expireChannel {s : State} (h : s.moe.Sound) (ch : ChannelId) :
    (expireChannel ch s).moe.Sound := by
  have hc := Channel.expired_sound (s.moe.channel ch)
  unfold Machine.expireChannel afterExpiry
  split
  · rename_i car hcar
    have hsh : sheaveOf ch = none := by cases ch <;> simp_all [carOfChannel, sheaveOf]
    exact (h.setChannel hc (Moe.choice_setChannel_of_car _ hsh _).symm).congr (by simp)
  · exact Moe.chooseSource_sound
      (Moe.forall_channel.mpr (by simpa [Moe.forall_channel] using Moe.channel_sound_setChannel h.channel ch hc))
      (by simpa using h.speed) (by simpa using h.still)

theorem Moe.Sound.channelExpiry {s : State} (h : s.moe.Sound) (ch : ChannelId) :
    (channelExpiry ch s).moe.Sound := by
  unfold Machine.channelExpiry
  split
  · exact (h.expireChannel ch).motionUpdate
  · exact h

theorem Moe.Sound.stillTimerExpiry {s : State} (h : s.moe.Sound) : (stillTimerExpiry s).moe.Sound := by
  unfold Machine.stillTimerExpiry
  split
  · rename_i hdue
    exact motionUpdate_sound h.channel h.source fun _ => (Bool.and_eq_true_iff.mp hdue).2
  · exact h

/-! ### New tables (R21) -/

theorem Moe.Sound.relined {m : Moe} (h : m.Sound) (l : Line) : (m.relined l).Sound where
  channel := Moe.forall_channel.mpr ⟨by simpa [Moe.relined] using ((h.channel .s1).relined l .s1).1,
    by simpa [Moe.relined] using ((h.channel .s2).relined l .s2).1,
    by simpa [Moe.relined] using ((h.channel .ca).relined l .ca).1,
    by simpa [Moe.relined] using ((h.channel .cb).relined l .cb).1⟩
  speed := by simpa [Moe.relined] using h.speed
  source := by
    have hchoice : (m.relined l).choice = m.choice :=
      Moe.choice_congr (by simpa [Moe.relined] using ((h.channel .s1).relined l .s1).2)
        (by simpa [Moe.relined] using ((h.channel .s2).relined l .s2).2)
    rw [hchoice, ← h.source]
    simp [Moe.relined]
  still := by simpa [Moe.relined] using h.still

theorem Moe.Sound.expireIfDue {s : State} (h : s.moe.Sound) (ch : ChannelId) : (expireIfDue s ch).moe.Sound := by
  unfold Machine.expireIfDue
  split
  · exact h.expireChannel ch
  · exact h

theorem Moe.Sound.restill {m : Moe} (h : m.Sound) (l : Line) (now : Time) : (m.restill l now).Sound := by
  unfold Moe.restill
  split
  · rename_i t hcand
    simp only
    split
    · exact ⟨h.channel, h.speed, h.source, fun _ => by simp [hcand]⟩
    · exact h.congr (by simp)
  · exact h

theorem Moe.Sound.foldl_expireIfDue {s : State} (h : s.moe.Sound) (chs : List ChannelId) :
    (chs.foldl Machine.expireIfDue s).moe.Sound := by
  induction chs generalizing s with
  | nil => exact h
  | cons ch rest ih => exact ih (h.expireIfDue ch)

theorem Moe.Sound.applyLineMoe {s : State} (h : s.moe.Sound) (l : Line) : (applyLineMoe l s).moe.Sound := by
  have hexp := Moe.Sound.foldl_expireIfDue (s := s.withMoe (s.moe.relined l)) (h.relined l) allChannels
  simp only [Machine.applyLineMoe]
  generalize allChannels.foldl Machine.expireIfDue (s.withMoe (s.moe.relined l)) = s1 at hexp
  refine Moe.Sound.motionUpdate ?_
  rw [State.withMoe_moe]
  exact Moe.Sound.restill (hexp.congr (by simp)) l _

theorem Moe.Sound.applyLine {s : State} (h : s.moe.Sound) (l : Line) : (applyLine l s).moe.Sound := by
  simpa [Machine.applyLine] using h.applyLineMoe l

theorem Moe.Sound.noticeTables {s : State} (h : s.moe.Sound) (mask : Byte) : (noticeTables mask s).moe.Sound := by
  unfold Machine.noticeTables
  split
  · exact h.applyLine _
  · split
    · exact h.motionUpdate
    · exact h

theorem Moe.Sound.takeEffect {s : State} (h : s.moe.Sound) (mask : Byte) (wasPending : Bool) :
    (takeEffect mask wasPending s).moe.Sound := by
  refine Moe.Sound.noticeTables ?_ mask
  split <;> simpa using h

theorem Moe.Sound.takePending {s : State} (h : s.moe.Sound) (mask : Byte) : (takePending mask s).moe.Sound := by
  simp only [Machine.takePending]
  split
  · simpa using h
  · exact Moe.Sound.takeEffect (by simpa using h) _ _

theorem Moe.Sound.settle {before after : State} (h : after.moe.Sound) : (settle before after).moe.Sound := by
  unfold Machine.settle
  split
  · split
    · exact h.takePending _
    · exact h
  · exact h

/-! ### Requests -/

theorem Moe.Sound.decideReference {s : State} (h : s.moe.Sound) (stop : Byte) :
    (decideReference stop s).state.moe.Sound := by
  unfold Machine.decideReference
  split
  · simpa using h
  · split
    · simpa using h
    · split
      · simpa using h
      · split
        · simpa using h
        · exact Moe.Sound.motionUpdate (h.congr (by simp))

theorem Moe.Sound.decideReinit {s : State} (h : s.moe.Sound) : (decideReinit s).state.moe.Sound := by
  unfold Machine.decideReinit
  split
  · refine motionUpdate_sound (Moe.forall_channel.mpr ?_) rfl (by simp [Moe.reinit])
    simpa [Moe.reinit] using Channel.sound_reset
  · exact h

theorem Moe.Sound.decideActivate {s : State} (h : s.moe.Sound) (mask : Byte) :
    (decideActivate mask s).state.moe.Sound := by
  have hnow : (accept [mask] (Machine.takeEffect mask false s)).state.moe.Sound := by simpa using h.takeEffect _ _
  unfold Machine.decideActivate activateNow
  split
  · simpa using h
  · split
    · simpa using h
    · split
      · exact h
      · (repeat' split) <;> simp_all

theorem Moe.Sound.decideRequest {s : State} (h : s.moe.Sound) (code : Byte) (body : List Byte) :
    (decideRequest code body s).state.moe.Sound := by
  unfold Machine.decideRequest
  split
  · rename_i r _
    split
    · cases r with
      | activate => exact h.decideActivate _
      | reference => exact h.decideReference _
      | reinit => exact h.decideReinit
      | clearCounters =>
        simp only [Request.decide, decideClearCounters]
        (repeat' split) <;> exact h.congr (by simp [accept, refuse])
      | _ => simpa [Request.decide] using h
    · exact h
  · exact h

end Sys2Proof.Machine

end

/-! ## What a frame on IN comes to (R156-R164)

A frame is dropped, forwarded, stripped, counted or answered by the ring and the Admission Unit, or it is handed to one
of seven block operations. -/

section

namespace Sys2Proof.Machine

/-- Two states that differ in the Ring Interface, the Admission Unit and the Report Unit alone. -/
structure SameBlocks (s u : State) : Prop where
  clock : u.clock = s.clock
  mga : u.mga = s.mga
  moe : u.moe = s.moe
  env : u.env = s.env
  brs : u.brs = s.brs
  test : u.test = s.test
  hlc : u.hlc = s.hlc
  dru : u.dru = s.dru

/-- What taking a frame does to a state, by the block that it is handed to. -/
inductive FrameAct (s : State) : State → Prop
  | ring {u : State} (h : SameBlocks s u) : FrameAct s u
  | sample {u : State} (h : SameBlocks s u) (ch : ChannelId) (x : Sample) (health : Byte) :
      FrameAct s (takeSample ch x health u)
  | marker {u : State} (h : SameBlocks s u) (id car : Byte) : FrameAct s (takeMarker id car u)
  | drive {u : State} (h : SameBlocks s u) (p : List Byte) : FrameAct s (takeDrive p u)
  | doorReport {u : State} (h : SameBlocks s u) (car : Car) (left right : SideStatus) :
      FrameAct s (takeDoorReport car left right u)
  | lineCmd {u : State} (h : SameBlocks s u) (f : Frame) : FrameAct s (takeLineCmd f u)
  | doorReq {u : State} (h : SameBlocks s u) (f : Frame) : FrameAct s (takeDoorReq f u)
  | request {u : State} (h : SameBlocks s u) (f : Frame) : FrameAct s (takeRequest f u)

/-- A frame of a read kind is forwarded or absorbed, and handed on where its length and its sender pass. -/
theorem frameAct_dealRead {s : State} (f : Frame) (len : Nat) {hand : Option (State → State)}
    (hh : ∀ h, hand = some h → ∀ u, SameBlocks s u → FrameAct s (h u)) :
    FrameAct s (dealRead f len hand s) := by
  unfold dealRead
  split
  · exact .ring (by constructor <;> simp)
  · split
    · refine hh _ rfl _ ?_
      split <;> constructor <;> simp
    · exact .ring (by constructor <;> simp)

/-- A request is forwarded, refused, dropped or handed on. -/
theorem frameAct_dealRequest {s : State} (f : Frame) (lengthOk roleOk : Bool) {hand : State → State}
    (hh : ∀ u, SameBlocks s u → FrameAct s (hand u)) :
    FrameAct s (dealRequest f lengthOk roleOk hand s) := by
  unfold dealRequest takeIfRoom
  (repeat' split)
  case isTrue.isFalse.isFalse.isTrue => exact hh _ (by constructor <;> simp)
  all_goals exact .ring (by constructor <;> simp)

theorem frameAct_dealKind (f : Frame) (s : State) : FrameAct s (dealKind f s) := by
  cases hk : FrameKind.ofCode f.kind <;> simp only [dealKind, hk]
  case sampleSheave =>
    refine frameAct_dealRead f 7 fun h hh u hu => ?_
    obtain ⟨ch, -, rfl⟩ := Option.map_eq_some_iff.mp hh
    exact .sample hu ch _ _
  case sampleCar =>
    refine frameAct_dealRead f 7 fun h hh u hu => ?_
    obtain ⟨car, -, rfl⟩ := Option.map_eq_some_iff.mp hh
    exact .sample hu (carChannel car) _ _
  case marker =>
    refine frameAct_dealRead f 2 fun h hh u hu => ?_
    cases (Option.ite_none_right_eq_some.mp hh).2
    exact .marker hu _ _
  case driveStatus =>
    refine frameAct_dealRead f 4 fun h hh u hu => ?_
    cases (Option.ite_none_right_eq_some.mp hh).2
    exact .drive hu _
  case doorState =>
    refine frameAct_dealRead f 2 fun h hh u hu => ?_
    obtain ⟨car, -, rfl⟩ := Option.map_eq_some_iff.mp hh
    exact .doorReport hu car _ _
  case doorReq => exact frameAct_dealRequest f _ _ fun u hu => .doorReq hu f
  case lineCmd => exact frameAct_dealRequest f _ _ fun u hu => .lineCmd hu f
  case mgmtReq => exact frameAct_dealRequest f _ _ fun u hu => .request hu f
  all_goals exact .ring (by constructor <;> simp)

/-- Everything a run of bytes on IN can come to. -/
theorem frameAct_takeFrame (rx : List Byte) (s : State) : FrameAct s (takeFrame rx s) := by
  unfold takeFrame
  split
  case h_4 f _ =>
    split
    · exact .ring (by constructor <;> simp)
    · unfold disposeGood
      split
      · exact .ring (by constructor <;> simp)
      · exact frameAct_dealKind f s
  all_goals exact .ring (by constructor <;> simp)

/-! ## The motion laws through every step -/

theorem Moe.Sound.frameAct {s t : State} (h : s.moe.Sound) (ht : FrameAct s t) : t.moe.Sound := by
  cases ht with
  | ring hu => rw [hu.moe]; exact h
  | sample hu ch x health => exact Moe.Sound.takeSample (by rw [hu.moe]; exact h) ch x health
  | marker hu id car => exact Moe.Sound.takeMarker (by rw [hu.moe]; exact h) id car
  | drive hu p => simpa [hu.moe] using h
  | doorReport hu car left right => simpa [hu.moe] using h
  | lineCmd hu f => simpa [hu.moe] using h
  | doorReq hu f => simpa [hu.moe] using h
  | request hu f => simpa [takeRequest] using Moe.Sound.decideRequest (by rw [hu.moe]; exact h) _ _

theorem Moe.Sound.rowAct {s : State} (h : s.moe.Sound) (c : Instr) : (rowAct c s).moe.Sound := by
  unfold Machine.rowAct
  split
  · exact h.frameAct (frameAct_takeFrame _ s)
  · cases c with
    | channelExpiry _ ch => exact h.channelExpiry ch
    | stillTimerExpiry _ => exact h.stillTimerExpiry
    | frameForward _ rx => exact h.frameAct (frameAct_takeFrame rx s)
    | _ => simpa [edgeAct] using h

theorem Moe.sound_reset : Moe.Sound .reset where
  channel := Moe.forall_channel.mpr ⟨Channel.sound_reset, Channel.sound_reset, Channel.sound_reset, Channel.sound_reset⟩
  speed := by decide
  source := rfl
  still := by decide

/-! ## A law kept by every step -/

/-- A law is kept by every step if the release of reset sets it, the holding in it and the taking of a command keep it,
and every timed act keeps it through to the end of its step. -/
theorem step_keeps {P : State → Prop} (hpower : ∀ oa ma chain key s, P (powerOn oa ma chain key s))
    (hhold : ∀ s, P s → P (holdInReset s)) (htake : ∀ s q, P s → P (s.withPending q))
    (hact : ∀ elapsed c s, P s → P (settle (begin elapsed s) (rowAct c (begin elapsed s))))
    {s t : State} (h : P s) (ht : step s = .next t) : P t := by
  unfold step at ht
  split at ht
  · cases ht; exact h
  · rename_i c rest _
    obtain ⟨oa, ma, chain, key, -, hc⟩ | ⟨-, hc⟩ | ⟨elapsed, -, hc⟩ := exec_cases c (s.withPending rest) <;>
      cases hc.symm.trans ht
    · exact hpower oa ma chain key _
    · exact hhold _ (htake s rest h)
    · have hs := htake s rest h
      cases hr : (s.withPending rest).inReset with
      | true => rw [perform_held hr]; exact hs
      | false => rw [perform_running hr]; exact hact elapsed c _ hs

theorem powerOn_moe (oa ma : BitVec 6) (chain key : Level) (s : State) :
    (powerOn oa ma chain key s).moe = .reset := by
  simp only [powerOn]
  (repeat' split) <;> simp

/-- The first half of O10: the motion laws are those of the Motion Estimator alone. -/
theorem step_keeps_motionSound {s t : State} (h : MotionSound s) (ht : step s = .next t) : MotionSound t := by
  rw [motionSound_iff] at h ⊢
  refine step_keeps (P := fun s => s.moe.Sound) (fun oa ma chain key s => ?_) (fun _ h => h) (fun _ _ h => h)
    (fun elapsed c s h => ?_) h ht
  · rw [powerOn_moe]; exact Moe.sound_reset
  · exact Moe.Sound.settle (Moe.Sound.rowAct (s := begin elapsed s) h c)

end Sys2Proof.Machine

end

/-! ## The laws of the timed records are kept (R48, R50, R60, R66, R103)

`RecordSound` reads the door records, the brake test, whether supervision is ACTIVE, the haul state and the stop chain.
Within one motion update supervision ends before the service stop does (R10), so the laws are kept in a form that leaves
this open: `RecordLaws q` ties supervision to SERVICE_STOP where q holds and has it IDLE otherwise. -/

section

namespace Sys2Proof.Machine

/-! ### What an evaluation and a change of haul state leave of the Brake Supervisor -/

/-- The thresholds are all that recomputing them changes of the Brake Supervisor. -/
@[simp] theorem recomputeThresholds_brs_frame (s : State) :
    (recomputeThresholds s).brs.tier = s.brs.tier ∧ (recomputeThresholds s).brs.aboveService = s.brs.aboveService ∧
    (recomputeThresholds s).brs.sup = s.brs.sup ∧ (recomputeThresholds s).brs.lossFlag = s.brs.lossFlag ∧
    (recomputeThresholds s).brs.lossTimer = s.brs.lossTimer ∧ (recomputeThresholds s).brs.trip = s.brs.trip ∧
    (recomputeThresholds s).brs.history = s.brs.history ∧
    (recomputeThresholds s).brs.estopLatched = s.brs.estopLatched ∧
    (recomputeThresholds s).brs.chain = s.brs.chain ∧ (recomputeThresholds s).brs.key = s.brs.key := by
  simp only [recomputeThresholds, State.withBrs_brs]
  split <;> simp

@[simp] theorem evaluateIn_brs_frame (mode : EnvMode) (s : State) :
    (evaluateIn mode s).brs.tier = s.brs.tier ∧ (evaluateIn mode s).brs.aboveService = s.brs.aboveService ∧
    (evaluateIn mode s).brs.sup = s.brs.sup ∧ (evaluateIn mode s).brs.lossFlag = s.brs.lossFlag ∧
    (evaluateIn mode s).brs.lossTimer = s.brs.lossTimer ∧ (evaluateIn mode s).brs.trip = s.brs.trip ∧
    (evaluateIn mode s).brs.history = s.brs.history ∧
    (evaluateIn mode s).brs.estopLatched = s.brs.estopLatched ∧
    (evaluateIn mode s).brs.chain = s.brs.chain ∧ (evaluateIn mode s).brs.key = s.brs.key := by
  unfold evaluateIn handOn
  split <;> simp

@[simp] theorem envEvaluate_brs_frame (s : State) :
    (envEvaluate s).brs.tier = s.brs.tier ∧ (envEvaluate s).brs.aboveService = s.brs.aboveService ∧
    (envEvaluate s).brs.sup = s.brs.sup ∧ (envEvaluate s).brs.lossFlag = s.brs.lossFlag ∧
    (envEvaluate s).brs.lossTimer = s.brs.lossTimer ∧ (envEvaluate s).brs.trip = s.brs.trip ∧
    (envEvaluate s).brs.history = s.brs.history ∧ (envEvaluate s).brs.estopLatched = s.brs.estopLatched ∧
    (envEvaluate s).brs.chain = s.brs.chain ∧ (envEvaluate s).brs.key = s.brs.key := by
  simp [envEvaluate]

@[simp] theorem envArm_brs_frame (s : State) :
    (envArm s).brs.sup = s.brs.sup ∧ (envArm s).brs.estopLatched = s.brs.estopLatched ∧
    (envArm s).brs.chain = s.brs.chain := by
  simp [envArm]

/-- The haul record after an entry to rest. -/
@[simp] theorem enterRest_hlc (st : HaulState) (berth : Option Nat) (boardingOpen : Bool) (s : State) :
    (enterRest st berth boardingOpen s).hlc =
      { s.hlc with state := st, berth := berth, boardingOpen := boardingOpen, armTimer := none } := by
  simp only [enterRest]
  split <;> simp

/-- The run judgements are reset at an entry to rest (R45, R50, R51); the trip and the inputs stand. -/
@[simp] theorem enterRest_brs_frame (st : HaulState) (berth : Option Nat) (boardingOpen : Bool) (s : State) :
    (enterRest st berth boardingOpen s).brs.tier = .normal ∧
    (enterRest st berth boardingOpen s).brs.aboveService = false ∧
    (enterRest st berth boardingOpen s).brs.sup = s.brs.sup.ended ∧
    (enterRest st berth boardingOpen s).brs.lossFlag = false ∧
    (enterRest st berth boardingOpen s).brs.lossTimer = none ∧
    (enterRest st berth boardingOpen s).brs.trip = s.brs.trip ∧
    (enterRest st berth boardingOpen s).brs.history = s.brs.history ∧
    (enterRest st berth boardingOpen s).brs.estopLatched = s.brs.estopLatched ∧
    (enterRest st berth boardingOpen s).brs.chain = s.brs.chain ∧
    (enterRest st berth boardingOpen s).brs.key = s.brs.key := by
  simp only [enterRest]
  split <;> simp [Brs.atRest]

@[simp] theorem Supervision.ended_active (x : Supervision) : x.ended.active = false := rfl
@[simp] theorem Supervision.ended_expiry (x : Supervision) : x.ended.expiry = none := rfl

theorem Origin.toState_ne_serviceStop (o : Origin) : o.toState ≠ .serviceStop := by
  cases o <;> decide

/-! ### The laws, block by block -/

/-- An action timer runs in RELEASING and CLOSING alone (R103). -/
def DoorRecord.Timed (r : DoorRecord) : Prop :=
  r.timer.isSome = true ↔ r.state = .releasing ∨ r.state = .closing

/-- A test is ACTIVE exactly while one stage, and one alone, is WAITING or BRAKING (R66). -/
structure BrakeTest.Sound (t : BrakeTest) : Prop where
  active : t.state = .active ↔ t.svc.live ∨ t.emg.live
  single : ¬ (t.svc.live ∧ t.emg.live)

/-- The laws of the timed records. -/
structure RecordLaws (q : Prop) (s : State) : Prop where
  doors : ∀ car side, (s.dru.door car side).Timed
  test : s.test.Sound
  supervision : s.brs.sup.active = true ↔ s.hlc.state = .serviceStop ∧ q
  chain : s.brs.chain.level = .opened → s.brs.estopLatched = true

theorem recordSound_iff {s : State} : RecordSound s ↔ RecordLaws True s := by
  constructor
  · intro h
    exact ⟨h.doors, ⟨h.test, h.single⟩, by simpa using h.supervision, h.chain⟩
  · intro h
    exact ⟨h.doors, h.test.active, h.test.single, by simpa using h.supervision, h.chain⟩

/-- The laws read six parts of the state. -/
theorem RecordLaws.congr {q : Prop} {s t : State} (h : RecordLaws q s)
    (he : t.dru = s.dru ∧ t.test = s.test ∧ t.brs.sup.active = s.brs.sup.active ∧ t.hlc.state = s.hlc.state ∧
      t.brs.chain.level = s.brs.chain.level ∧ t.brs.estopLatched = s.brs.estopLatched) : RecordLaws q t := by
  obtain ⟨hd, ht, hs, hst, hc, hl⟩ := he
  exact ⟨by rw [hd]; exact h.doors, by rw [ht]; exact h.test, by rw [hs, hst]; exact h.supervision,
    by rw [hc, hl]; exact h.chain⟩

/-- The laws with another test record. -/
theorem RecordLaws.withTest {q : Prop} {s : State} (h : RecordLaws q s) {t : BrakeTest} (ht : t.Sound) :
    RecordLaws q (s.withTest t) :=
  ⟨h.doors, ht, h.supervision, h.chain⟩

/-! ### The brake test (R66-R75) -/

/-- A live stage makes the test ACTIVE, and the other stage is not live. -/
theorem BrakeTest.Sound.of_live {t : BrakeTest} (h : t.Sound) {id : StageId} (hl : (t.stage id).live) :
    t.state = .active ∧ ∀ other, other ≠ id → ¬ (t.stage other).live := by
  cases id with
  | service =>
    refine ⟨h.active.mpr (.inl hl), fun other ho => ?_⟩
    cases other with
    | service => exact absurd rfl ho
    | emergency => exact fun he => h.single ⟨hl, he⟩
  | emergency =>
    refine ⟨h.active.mpr (.inr hl), fun other ho => ?_⟩
    cases other with
    | service => exact fun he => h.single ⟨he, hl⟩
    | emergency => exact absurd rfl ho

/-- A test whose live stage has ended, with no other one begun, is sound once it is no longer ACTIVE. -/
theorem BrakeTest.sound_of_ended {t : BrakeTest} (hs : t.state ≠ .active) (hl : ∀ id, ¬ (t.stage id).live) :
    t.Sound where
  active := ⟨fun h => absurd h hs, fun h => h.elim (fun h => absurd h (hl .service)) fun h => absurd h (hl .emergency)⟩
  single h := hl .service h.1

/-- A live stage that stays live keeps its test sound. -/
theorem BrakeTest.Sound.setStage {t : BrakeTest} (h : t.Sound) {id : StageId} {x : Stage}
    (hl : (t.stage id).live) (hx : x.live) : (t.setStage id x).Sound := by
  obtain ⟨ha, ho⟩ := h.of_live hl
  cases id with
  | service => exact ⟨iff_of_true ha (.inl hx), fun hb => ho .emergency (by simp) hb.2⟩
  | emergency => exact ⟨iff_of_true ha (.inr hx), fun hb => ho .service (by simp) hb.1⟩

end Sys2Proof.Machine

end

section

namespace Sys2Proof.Machine

/-! ### Trips and demands -/

section

variable {q : Prop} {s : State}

theorem RecordLaws.raise (h : RecordLaws q s) (k : EventKind) (detail : BitVec 32) :
    RecordLaws q (raise k detail s) :=
  h.congr (by simp)

theorem RecordLaws.abortService (h : RecordLaws q s) (hb : s.test.svc.status = .braking) :
    RecordLaws q (abortService s) := by
  have ho := (h.test.of_live (id := .service) (.inr hb)).2 .emergency (by simp)
  have hended : BrakeTest.Sound { s.test with
      state := .idle, abortPending := false, failureMark := false, svc := s.test.svc.withoutResult .aborted } :=
    BrakeTest.sound_of_ended (by simp) fun
      | .service => by simp [BrakeTest.stage, Stage.live, Stage.withoutResult]
      | .emergency => ho
  exact (h.withTest hended).raise _ _

theorem RecordLaws.testOnTrip (h : RecordLaws q s) (cause : TripCause) : RecordLaws q (testOnTrip cause s) := by
  unfold Machine.testOnTrip
  split
  · split
    · exact h.withTest ⟨h.test.active, h.test.single⟩
    · split
      · exact h
      · exact h.abortService (by assumption)
  · exact h

/-- An entry to PARKED, BOARDING or TRIPPED ends supervision and the service stop together. -/
theorem RecordLaws.enterRest (h : RecordLaws q s) {st : HaulState} (hst : st ≠ .serviceStop) (q' : Prop)
    (berth : Option Nat) (boardingOpen : Bool) : RecordLaws q' (enterRest st berth boardingOpen s) :=
  ⟨by simpa using h.doors, by simpa using h.test, by simp [hst], by simpa using h.chain⟩

theorem RecordLaws.enterTripped (h : RecordLaws q s) : RecordLaws q (enterTripped s) :=
  (h.enterRest (st := .tripped) (by decide) q none false).congr (by simp [Machine.enterTripped])

theorem RecordLaws.returnToOrigin (h : RecordLaws q s) : RecordLaws q (returnToOrigin s) := by
  unfold Machine.returnToOrigin
  cases s.hlc.origin with
  | some o => exact (h.enterRest o.toState_ne_serviceStop q s.hlc.berth false).congr (by simp)
  | none => exact (h.enterRest (st := .parked) (by decide) q s.hlc.berth false).congr (by simp)

theorem RecordLaws.trip (h : RecordLaws q s) (cause : TripCause) : RecordLaws q (trip cause s) := by
  unfold Machine.trip
  refine RecordLaws.testOnTrip ?_ cause
  split
  · exact h.congr (by simp [addTrip, Brs.addCause])
  · exact RecordLaws.enterTripped (h.congr (by simp))

end

section

variable {s : State}

/-- The entry to SERVICE_STOP starts supervision. -/
theorem RecordLaws.enterServiceStop (h : RecordLaws True s) (cause : StopCause) :
    RecordLaws True (enterServiceStop cause s) :=
  ⟨by simpa using h.doors, by simpa using h.test, by simp [Machine.enterServiceStop, superviseStop],
    by simpa [Machine.enterServiceStop, superviseStop] using h.chain⟩

theorem RecordLaws.demand (h : RecordLaws True s) (cause : StopCause) : RecordLaws True (demand cause s) := by
  cases hst : s.hlc.state <;> simp only [Machine.demand, hst]
  case armed => exact h.returnToOrigin.congr (by simp [raiseStop])
  case running => exact (h.enterServiceStop cause).congr (by simp [raiseStop])
  case serviceStop =>
    have hc : RecordLaws True (raiseStop cause .counted (s.withHlc { s.hlc with
        state := .serviceStop, further := min (s.hlc.further + 1) 255 })) :=
      h.congr (by simp [raiseStop, hst])
    split
    · exact hc.abortService (by assumption)
    · exact hc
  all_goals exact h.congr (by simp [raiseStop])

/-! ### The judgements of the Brake Supervisor (R44, R51, R53, R68-R71) -/

theorem RecordLaws.judgeTier (h : RecordLaws True s) : RecordLaws True (judgeTier s) := by
  have hset : ∀ tier above, RecordLaws True (setTier tier above s) := fun _ _ => h.congr (by simp [setTier])
  have hwarn : ∀ above, RecordLaws True (warn above s) := fun above => by
    simp only [warn]
    split
    · exact (hset .warn above).congr (by simp)
    · exact hset .warn above
  simp only [Machine.judgeTier, tierCases]
  split
  · split
    · exact h.trip _
    · split
      · split
        · exact hwarn _
        · exact (hwarn _).demand _
      · split
        · exact hwarn _
        · split
          · exact hset _ _
          · exact hset _ _
  · exact h

theorem RecordLaws.judgeLoss (h : RecordLaws True s) : RecordLaws True (judgeLoss s) := by
  unfold Machine.judgeLoss
  split
  · split
    · refine h.congr ?_
      simp only [followLoss, startLossTimer]
      (repeat' split) <;> simp
    · split
      · exact h
      · have hd : RecordLaws True (Machine.demand .speedLost (s.withBrs { s.brs with lossFlag := true })) :=
          RecordLaws.demand (h.congr (by simp)) _
        refine hd.congr ?_
        simp only [takeLoss, startLossTimer]
        split <;> simp
  · exact h

theorem RecordLaws.judgeTrigger (h : RecordLaws True s) (id : StageId) (hw : (s.test.stage id).status = .waiting) :
    RecordLaws True (judgeTrigger id s) := by
  unfold Machine.judgeTrigger
  split
  · have hb := h.withTest (h.test.setStage (id := id) (x := { s.test.stage id with
      status := .braking, trigger := s.clock, vApply := s.moe.last.v, pApply := s.moe.last.posA })
      (.inl hw) (.inr rfl))
    cases id with
    | service => exact hb.demand _
    | emergency => exact hb.trip _
  · exact h

/-- A live stage that its own stop ends leaves the test ended, or hands on to EMERGENCY (R71). -/
theorem BrakeTest.Sound.next {t : BrakeTest} (h : t.Sound) {id : StageId} (hl : (t.stage id).live) {y : Stage}
    (hy : ¬ y.live) (failed : Bool) : (((t.setStage id y).setFailed id failed).next id).Sound := by
  obtain ⟨ha, ho⟩ := h.of_live hl
  cases id with
  | service =>
    have he : ¬ t.emg.live := ho .emergency (by simp)
    simp only [BrakeTest.next, BrakeTest.setStage, BrakeTest.setFailed]
    split
    · exact BrakeTest.sound_of_ended (by simp) fun | .service => hy | .emergency => he
    · split
      · exact ⟨iff_of_true ha (.inr (.inl rfl)), fun hb => hy hb.1⟩
      · exact BrakeTest.sound_of_ended (by simp) fun | .service => hy | .emergency => he
  | emergency =>
    have he : ¬ t.svc.live := ho .service (by simp)
    simp only [BrakeTest.next, BrakeTest.setStage, BrakeTest.setFailed, reduceCtorEq, false_and, if_false]
    split
    · exact BrakeTest.sound_of_ended (by simp) fun | .service => he | .emergency => hy
    · exact BrakeTest.sound_of_ended (by simp) fun | .service => he | .emergency => hy

/-- A live stage aborted ends the test. -/
theorem BrakeTest.Sound.aborted {t : BrakeTest} (h : t.Sound) {id : StageId} (hl : (t.stage id).live) {y : Stage}
    (hy : ¬ y.live) {t' : BrakeTest} (hs : t'.state ≠ .active) (hv : t'.svc = (t.setStage id y).svc)
    (he : t'.emg = (t.setStage id y).emg) : t'.Sound := by
  have ho := (h.of_live hl).2
  refine BrakeTest.sound_of_ended hs fun other => ?_
  cases other with
  | service =>
    rw [BrakeTest.stage, hv]
    cases id with
    | service => exact hy
    | emergency => exact ho .service (by simp)
  | emergency =>
    rw [BrakeTest.stage, he]
    cases id with
    | service => exact ho .emergency (by simp)
    | emergency => exact hy

theorem RecordLaws.endStage (h : RecordLaws True s) (id : StageId) (hl : (s.test.stage id).live) :
    RecordLaws True (endStage id s) := by
  simp only [Machine.endStage]
  split
  · refine RecordLaws.raise (h.withTest ?_) _ _
    exact h.test.aborted hl (y := (s.test.stage id).withoutResult .aborted)
      (by simp [Stage.live, Stage.withoutResult]) (by simp) rfl rfl
  · refine RecordLaws.raise (h.withTest ?_) _ _
    refine h.test.next hl ?_ _
    simp only [Stage.live]
    split <;> simp

theorem RecordLaws.judgeTest (h : RecordLaws True s) : RecordLaws True (judgeTest s) := by
  have hstop : ∀ id, (s.test.stage id).live → RecordLaws True (judgeStopEnd id s) := fun id hl => by
    unfold judgeStopEnd
    split
    · exact h.endStage id hl
    · exact h
  unfold Machine.judgeTest
  split
  · exact h.judgeTrigger .service (by assumption)
  · exact hstop .service (.inr (by assumption))
  · exact h.judgeTrigger .emergency (by assumption)
  · exact hstop .emergency (.inr (by assumption))
  · exact h

end

end Sys2Proof.Machine

end

section

namespace Sys2Proof.Machine

/-! ### Door records (R103) -/

@[simp] theorem Dru.door_setDoor_self (d : Dru) (car : Car) (side : Side) (r : DoorRecord) :
    (d.setDoor car side r).door car side = r := by
  cases car <;> cases side <;> rfl

theorem Dru.door_setDoor_of_ne (d : Dru) {car car' : Car} {side side' : Side} (h : (car', side') ≠ (car, side))
    (r : DoorRecord) : (d.setDoor car side r).door car' side' = d.door car' side' := by
  cases car <;> cases side <;> cases car' <;> cases side' <;> simp_all [Dru.setDoor, Dru.door]

/-- A record replaced, read at any car-side. -/
theorem Dru.door_setDoor (d : Dru) (car car' : Car) (side side' : Side) (r : DoorRecord) :
    (d.setDoor car side r).door car' side' = if (car', side') = (car, side) then r else d.door car' side' := by
  split
  · rename_i h
    obtain ⟨rfl, rfl⟩ := Prod.mk.inj h
    simp
  · exact Dru.door_setDoor_of_ne d (by assumption) r

@[simp] theorem Dru.setDoor_frame (d : Dru) (car : Car) (side : Side) (r : DoorRecord) :
    (d.setDoor car side r).repA = d.repA ∧ (d.setDoor car side r).repB = d.repB ∧
    (d.setDoor car side r).movingOpen = d.movingOpen := by
  cases car <;> cases side <;> simp [Dru.setDoor]

@[simp] theorem Dru.setReports_door (d : Dru) (car : Car) (r : CarReport) (car' : Car) (side : Side) :
    (d.setReports car r).door car' side = d.door car' side := by
  cases car <;> cases car' <;> cases side <;> rfl

@[simp] theorem setMovingOpen_door (b : Bool) (s : State) (car : Car) (side : Side) :
    (setMovingOpen b s).dru.door car side = s.dru.door car side := by
  cases car <;> cases side <;> rfl

section

variable {q : Prop} {s : State}

theorem RecordLaws.setDoor (h : RecordLaws q s) (car : Car) (side : Side) {r : DoorRecord} (hr : r.Timed) :
    RecordLaws q (setDoor car side r s) where
  doors car' side' := by
    rw [Machine.setDoor, State.withDru_dru, Dru.door_setDoor]
    split
    · exact hr
    · exact h.doors car' side'
  test := by simpa using h.test
  supervision := by simpa using h.supervision
  chain := by simpa using h.chain

/-- A record becomes LOCKED, RELEASED or FAULT. -/
theorem RecordLaws.settleDoor (h : RecordLaws q s) (car : Car) (side : Side) {st : DoorState}
    (hst : st ≠ .releasing ∧ st ≠ .closing) : RecordLaws q (settleDoor car side st s) :=
  h.setDoor car side (by simp [DoorRecord.Timed, hst])

theorem RecordLaws.faultDoor (h : RecordLaws q s) (car : Car) (side : Side) (why : DoorFaultReason)
    (judgedIn : HaulState) : RecordLaws q (faultDoor car side why judgedIn s) :=
  (h.settleDoor car side (by decide)).raise _ _

theorem RecordLaws.withdraw (h : RecordLaws q s) (car : Car) (side : Side) : RecordLaws q (withdraw car side s) :=
  RecordLaws.setDoor (h.congr (by simp)) car side (by simp [DoorRecord.Timed])

theorem RecordLaws.judgeMovingOpen (h : RecordLaws q s) (tripped : Bool) :
    RecordLaws q (judgeMovingOpen tripped s) := by
  have hset : ∀ b, RecordLaws q (setMovingOpen b s) := fun b =>
    ⟨by simpa using h.doors, by simpa using h.test, by simpa using h.supervision, by simpa using h.chain⟩
  unfold Machine.judgeMovingOpen
  split
  · split
    · split
      · exact hset _
      · exact (hset _).trip _
    · exact hset _
  · exact h

theorem RecordLaws.judgeWithdrawal (h : RecordLaws q s) : RecordLaws q (judgeWithdrawal s) := by
  have hfold : ∀ (css : List (Car × Side)) (s : State), RecordLaws q s → RecordLaws q (css.foldl withdrawReleased s) := by
    intro css
    induction css with
    | nil => exact fun s h => h
    | cons cs rest ih =>
      intro s h
      refine ih _ ?_
      simp only [withdrawReleased]
      split
      · exact h.withdraw _ _
      · exact h
  unfold Machine.judgeWithdrawal
  split
  · exact hfold _ s h
  · exact h

end

section

variable {s : State}

theorem RecordLaws.judgeSide (h : RecordLaws True s) (car : Car) (side : Side) (x : SideStatus) :
    RecordLaws True (judgeSide car side x s).1 := by
  cases hr : (s.dru.door car side).state <;> simp only [Machine.judgeSide, hr]
  case locked =>
    split
    · exact h
    · split
      · exact (h.trip _).faultDoor _ _ _ _
      · exact h.faultDoor _ _ _ _
  case releasing =>
    split
    · exact h
    · exact h.settleDoor _ _ (by decide)
  case released => exact h
  case closing =>
    split
    · exact h.settleDoor _ _ (by decide)
    · split
      · exact h.raise _ _
      · exact h
  case fault =>
    split
    · exact h.settleDoor _ _ (by decide)
    · exact h

theorem RecordLaws.takeDoorReport (h : RecordLaws True s) (car : Car) (left right : SideStatus) :
    RecordLaws True (takeDoorReport car left right s) := by
  have hstore : RecordLaws True (storeReport car left right s) :=
    ⟨by simpa [storeReport] using h.doors, by simpa using h.test, by simpa using h.supervision, by simpa using h.chain⟩
  simp only [Machine.takeDoorReport]
  refine RecordLaws.judgeMovingOpen (RecordLaws.judgeSide (RecordLaws.judgeSide ?_ _ _ _) _ _ _) _
  split
  · exact hstore.returnToOrigin
  · exact hstore

theorem RecordLaws.lapse (h : RecordLaws True s) (car : Car) : RecordLaws True (lapse car s) := by
  have hclear : RecordLaws True (s.withDru (s.dru.setReports car { s.dru.reports car with expiry := none })) :=
    ⟨by simpa using h.doors, by simpa using h.test, by simpa using h.supervision, by simpa using h.chain⟩
  unfold Machine.lapse
  split
  · exact hclear.raise _ _
  · exact (hclear.raise _ _).demand _

theorem RecordLaws.openDoor (h : RecordLaws True s) (car : Car) (side : Side) :
    RecordLaws True (openDoor car side s).2 := by
  unfold Machine.openDoor
  split
  · refine RecordLaws.judgeMovingOpen (RecordLaws.setDoor (h.congr (by simp)) car side ?_) _
    simp [DoorRecord.Timed]
  · exact h

theorem RecordLaws.closeDoor (h : RecordLaws True s) (car : Car) (side : Side) :
    RecordLaws True (closeDoor car side s).2 := by
  unfold Machine.closeDoor
  split
  · exact h
  · exact h.withdraw _ _
  · exact h.withdraw _ _
  · exact h.congr (by simp)
  · exact h.withdraw _ _

theorem RecordLaws.decideDoor (h : RecordLaws True s) (car side action : Byte) :
    RecordLaws True (decideDoor car side action s).2 := by
  unfold Machine.decideDoor
  split
  · split
    · exact h.openDoor _ _
    · split
      · exact h.closeDoor _ _
      · exact h
  · exact h

/-! ### The motion update (R10): supervision ends in the Brake Supervisor, the service stop in the Haul Controller -/

theorem RecordLaws.envUpdate (h : RecordLaws True s) : RecordLaws True (envUpdate s) := by
  unfold Machine.envUpdate
  split
  · exact RecordLaws.demand (h.congr (by simp)) _
  · exact h.congr (by simp)

/-- Supervision ends. -/
theorem RecordLaws.superviseEnd {q : Prop} (h : RecordLaws q s) :
    RecordLaws False (s.withBrs { s.brs with sup := s.brs.sup.ended }) :=
  ⟨h.doors, h.test, by simp, h.chain⟩

theorem RecordLaws.brsUpdate (h : RecordLaws True s) :
    RecordLaws (s.moe.last.still = false) (brsUpdate s) := by
  have hover : RecordLaws True (if s.hlc.state ≠ .tripped ∧ (Machine.judgeTier s).overruns
      then Machine.trip .overrun (Machine.judgeTier s) else Machine.judgeTier s) := by
    split
    · exact h.judgeTier.trip _
    · exact h.judgeTier
  have hlast : (if s.hlc.state ≠ .tripped ∧ (Machine.judgeTier s).overruns
      then Machine.trip .overrun (Machine.judgeTier s) else Machine.judgeTier s).moe = s.moe := by
    split <;> simp
  simp only [Machine.brsUpdate]
  generalize (if s.hlc.state ≠ .tripped ∧ (Machine.judgeTier s).overruns
    then Machine.trip .overrun (Machine.judgeTier s) else Machine.judgeTier s) = s2 at hover hlast
  have hrun := hover.judgeLoss.judgeTest
  cases hstill : s.moe.last.still with
  | true => simpa [hlast, hstill] using hrun.superviseEnd
  | false => simpa [hlast, hstill] using hrun

/-- Out of SERVICE_STOP it is the same whether supervision has ended. -/
theorem RecordLaws.of_not_serviceStop {q : Prop} (h : RecordLaws q s) (hst : s.hlc.state ≠ .serviceStop) :
    RecordLaws True s :=
  ⟨h.doors, h.test, by simpa [hst] using h.supervision, h.chain⟩

theorem RecordLaws.hlcUpdate (h : RecordLaws (s.moe.last.still = false) s) : RecordLaws True (hlcUpdate s) := by
  unfold Machine.hlcUpdate
  split
  · split
    · unfold endServiceStop
      split
      · exact (h.enterRest (by decide) True _ _).raise _ _
      · exact h.enterRest (by decide) True _ _
    · rename_i hst
      split
      · unfold arrive
        split
        · exact (h.enterRest (by decide) True _ _).raise _ _
        · exact h.of_not_serviceStop hst
      · exact h.of_not_serviceStop hst
  · rename_i hstill
    simpa [hstill] using h

theorem RecordLaws.motionUpdate (h : RecordLaws True s) : RecordLaws True (motionUpdate s) := by
  have henv : RecordLaws True (Machine.envUpdate (storeMotion (judgeStill s))) :=
    RecordLaws.envUpdate (h.congr (by simp))
  exact RecordLaws.hlcUpdate (by simpa [druUpdate] using henv.brsUpdate.judgeMovingOpen false |>.judgeWithdrawal)

end

end Sys2Proof.Machine

end

section

namespace Sys2Proof.Machine

section

variable {s : State}

/-! ### The Motion Estimator's commands end in an update -/

theorem RecordLaws.crossCheck (h : RecordLaws True s) (l : Line) (ch : ChannelId) :
    RecordLaws True (crossCheck l ch s) := by
  have hdemand : ∀ (m : Moe) k d c, RecordLaws True (Machine.demand c (Machine.raise k d (s.withMoe m))) :=
    fun m k d c => (RecordLaws.raise (h.congr (by simp)) k d).demand c
  have hdisagree : ∀ {s : State}, RecordLaws True s → RecordLaws True (judgeDisagree l s) := fun {s} h => by
    unfold judgeDisagree
    split
    · simp only
      split
      · exact (RecordLaws.raise (h.congr (by simp)) _ _).demand _
      · exact h.congr (by simp)
    · exact h.congr (by simp)
  unfold Machine.crossCheck
  split
  · unfold judgeSlip
    split
    · simp only
      split
      · exact hdemand _ _ _ _
      · exact h.congr (by simp)
    · exact h.congr (by simp)
  · exact hdisagree (h.congr (by simp))

theorem RecordLaws.takeSample (h : RecordLaws True s) (ch : ChannelId) (x : Sample) (health : Byte) :
    RecordLaws True (takeSample ch x health s) := by
  unfold Machine.takeSample
  split
  · exact h.congr (by simp)
  · split
    · exact h.congr (by simp)
    · exact (RecordLaws.crossCheck (h.congr (by simp)) _ ch).motionUpdate

theorem RecordLaws.takeMarker (h : RecordLaws True s) (id car : Byte) : RecordLaws True (takeMarker id car s) := by
  unfold Machine.takeMarker
  split
  · split
    · exact h.congr (by simp)
    · split
      · simp only [judgeMarker, applyMarker, rejectMarker]
        (repeat' split) <;> exact RecordLaws.motionUpdate (h.congr (by simp))
      · exact h
  · exact h.congr (by simp)

theorem RecordLaws.expireChannel (h : RecordLaws True s) (ch : ChannelId) : RecordLaws True (expireChannel ch s) :=
  h.congr (by simp)

theorem RecordLaws.channelExpiry (h : RecordLaws True s) (ch : ChannelId) : RecordLaws True (channelExpiry ch s) := by
  unfold Machine.channelExpiry
  split
  · exact (h.expireChannel ch).motionUpdate
  · exact h

theorem RecordLaws.stillTimerExpiry (h : RecordLaws True s) : RecordLaws True (stillTimerExpiry s) := by
  unfold Machine.stillTimerExpiry
  split
  · exact RecordLaws.motionUpdate (h.congr (by simp))
  · exact h

/-! ### New tables -/

theorem RecordLaws.applyLineMoe (h : RecordLaws True s) (l : Line) : RecordLaws True (applyLineMoe l s) := by
  simp only [Machine.applyLineMoe]
  exact RecordLaws.motionUpdate (h.congr (by simp [allChannels]))

theorem RecordLaws.applyLineDoor (h : RecordLaws True s) (l : Line) (car : Car) :
    RecordLaws True (applyLineDoor l s car) := by
  have hmoved : ∀ x, RecordLaws True (s.withDru (s.dru.setReports car x)) := fun x =>
    ⟨by simpa using h.doors, by simpa using h.test, by simpa using h.supervision, by simpa using h.chain⟩
  simp only [Machine.applyLineDoor]
  split
  · split
    · exact (hmoved _).lapse car
    · exact hmoved _
  · exact h

theorem RecordLaws.applyLineDrive (h : RecordLaws True s) (l : Line) : RecordLaws True (applyLineDrive l s) := by
  refine h.congr ?_
  unfold Machine.applyLineDrive
  split <;> simp

theorem RecordLaws.takeEffect (h : RecordLaws True s) (mask : Byte) (wasPending : Bool) :
    RecordLaws True (takeEffect mask wasPending s) := by
  have hraised : RecordLaws True (raiseActivated mask wasPending
      (if names mask .reportLevel then applyReportLevel (copyTables mask s) else copyTables mask s)) := by
    refine h.congr ?_
    split <;> simp
  simp only [Machine.takeEffect]
  generalize raiseActivated mask wasPending
    (if names mask .reportLevel then applyReportLevel (copyTables mask s) else copyTables mask s) = s1 at hraised
  unfold noticeTables
  split
  · rename_i l _ _
    have hthr : RecordLaws True (recomputeThresholds (Machine.applyLineMoe l s1)) :=
      (hraised.applyLineMoe l).congr (by simp)
    exact ((((hthr.applyLineDrive l).applyLineDoor l .a).applyLineDoor l .b)).congr (by simp [applyLine])
  · split
    · exact hraised.motionUpdate
    · exact hraised

theorem RecordLaws.takePending (h : RecordLaws True s) (mask : Byte) : RecordLaws True (takePending mask s) := by
  simp only [Machine.takePending]
  split
  · exact h.congr (by simp)
  · exact RecordLaws.takeEffect (h.congr (by simp)) _ _

theorem RecordLaws.settle {before after : State} (h : RecordLaws True after) :
    RecordLaws True (settle before after) := by
  unfold Machine.settle
  split
  · split
    · exact h.takePending _
    · exact h
  · exact h

/-! ### The console's and the manager's requests -/

theorem RecordLaws.openLine (h : RecordLaws True s) : RecordLaws True (openLine s).2 := by
  cases hst : s.hlc.state <;> simp only [Machine.openLine, hst]
  case parked =>
    split
    · exact h
    · split
      · exact h
      · exact h.enterRest (st := .boarding) (by decide) True _ _
  case boarding =>
    split
    · exact h
    · split
      · exact h
      · exact h.congr (by simp [hst])
  all_goals exact h

theorem RecordLaws.departLine (h : RecordLaws True s) (target : Nat) : RecordLaws True (departLine target s).2 := by
  unfold Machine.departLine
  split
  · exact h
  · rename_i hst
    have hidle : s.hlc.state ≠ .serviceStop := by
      rintro he
      simp [he] at hst
    split
    · exact h
    · split
      · exact ⟨by simpa using h.doors, by simpa using h.test,
          by simpa [enterArmed, hidle] using h.supervision, by simpa [enterArmed] using h.chain⟩
      · exact h

theorem RecordLaws.stopLine (h : RecordLaws True s) : RecordLaws True (stopLine s).2 := by
  unfold Machine.stopLine
  split
  · exact h.returnToOrigin
  · exact h.demand _
  · exact h.demand _
  all_goals exact h

theorem RecordLaws.parkLine (h : RecordLaws True s) : RecordLaws True (parkLine s).2 := by
  unfold Machine.parkLine
  split
  · exact h
  · split
    · exact h
    · exact (h.enterRest (st := .parked) (by decide) True s.hlc.berth false).congr (by simp)

theorem RecordLaws.decideLine (h : RecordLaws True s) (command argument : Byte) :
    RecordLaws True (decideLine command argument s).2 := by
  unfold Machine.decideLine
  split
  · exact h.openLine
  split
  · unfold closeBoarding
    split
    · exact h.congr (by simp)
    · exact h
  split
  · exact h.departLine _
  split
  · exact h.stopLine
  split
  · exact h.parkLine
  · exact h

theorem RecordLaws.decideActivate (h : RecordLaws True s) (mask : Byte) :
    RecordLaws True (decideActivate mask s).state := by
  have hnow : RecordLaws True (accept [mask] (Machine.takeEffect mask false s)).state := h.takeEffect _ _
  unfold Machine.decideActivate activateNow
  split
  · exact h
  split
  · exact h
  split
  · exact h
  split
  · exact hnow
  split
  · split
    · exact h.congr (by simp)
    · exact hnow
  · exact h.congr (by simp)

theorem RecordLaws.decideTripReset (h : RecordLaws True s) : RecordLaws True (decideTripReset s).state := by
  unfold Machine.decideTripReset
  split
  · exact h
  split
  · exact h
  split
  · exact h
  split
  · exact h
  split
  · exact h
  · rename_i hchain _
    have hcleared : RecordLaws True (s.withBrs s.brs.cleared) :=
      ⟨h.doors, h.test, by simpa [Brs.cleared] using h.supervision, fun ho => absurd ho hchain⟩
    exact hcleared.enterRest (st := .parked) (by decide) True none false

theorem BrakeTest.started_sound (t : BrakeTest) (svc emg : Bool) (v : Nat) : (t.started svc emg v).Sound := by
  cases svc <;> constructor <;> simp [BrakeTest.started, Stage.live, Stage.reset]

theorem RecordLaws.decideBrakeTest (h : RecordLaws True s) (mask : Byte) (v : Nat) :
    RecordLaws True (decideBrakeTest mask v s).state := by
  unfold Machine.decideBrakeTest
  split
  · exact h
  split
  · exact h
  split
  · exact h
  split
  · exact h
  · exact h.withTest (BrakeTest.started_sound _ _ _ _)

/-- The stage in hand is a live one. -/
theorem BrakeTest.live_of_current {t : BrakeTest} {id : StageId} (h : t.current = some id) : (t.stage id).live := by
  unfold BrakeTest.current at h
  split at h
  · cases h; assumption
  · split at h
    · cases h; assumption
    · cases h

theorem RecordLaws.decideAbort (h : RecordLaws True s) : RecordLaws True (decideAbort s).state := by
  unfold Machine.decideAbort
  split
  · split
    · rename_i id hid
      split
      · refine RecordLaws.raise (h.withTest ?_) _ _
        exact h.test.aborted (BrakeTest.live_of_current hid) (y := { s.test.stage id with status := .aborted })
          (by simp [Stage.live]) (by simp) rfl rfl
      · exact h.withTest ⟨h.test.active, h.test.single⟩
    · exact h
  · exact h

theorem RecordLaws.decideReinit (h : RecordLaws True s) : RecordLaws True (decideReinit s).state := by
  have htest : s.test.reinit.Sound := BrakeTest.sound_of_ended (by simp [BrakeTest.reinit, BrakeTest.reset]) fun
    | .service => by simp [BrakeTest.stage, BrakeTest.reinit, BrakeTest.reset, Stage.live, Stage.reset]
    | .emergency => by simp [BrakeTest.stage, BrakeTest.reinit, BrakeTest.reset, Stage.live, Stage.reset]
  unfold Machine.decideReinit
  split
  · exact RecordLaws.motionUpdate ((h.withTest htest).congr (by simp [reinitHlc]))
  · exact h

theorem RecordLaws.decideReference (h : RecordLaws True s) (stop : Byte) :
    RecordLaws True (decideReference stop s).state := by
  unfold Machine.decideReference
  split
  · exact h
  split
  · exact h
  split
  · exact h
  split
  · exact h
  · exact RecordLaws.motionUpdate (h.congr (by simp))

theorem RecordLaws.decideRequest (h : RecordLaws True s) (code : Byte) (body : List Byte) :
    RecordLaws True (decideRequest code body s).state := by
  unfold Machine.decideRequest
  split
  · rename_i r _
    split
    · cases r with
      | activate => exact h.decideActivate _
      | reference => exact h.decideReference _
      | tripReset => exact h.decideTripReset
      | manualTrip => exact h.trip _
      | brakeTest => exact h.decideBrakeTest _ _
      | brakeTestAbort => exact h.decideAbort
      | reinit => exact h.decideReinit
      | _ => exact h.congr (by simp [Request.decide])
    · exact h
  · exact h

/-! ### Expiries and inputs -/

theorem RecordLaws.armExpiry (h : RecordLaws True s) : RecordLaws True (armExpiry s) := by
  unfold Machine.armExpiry
  split
  · exact h.returnToOrigin.raise _ _
  · exact h

theorem RecordLaws.driveLost (h : RecordLaws True s) : RecordLaws True (driveLost s) := by
  unfold Machine.driveLost
  split
  · exact h
  · exact h.demand _

theorem RecordLaws.takeDrive (h : RecordLaws True s) (p : List Byte) : RecordLaws True (takeDrive p s) := by
  simp only [Machine.takeDrive]
  split
  · exact h.congr (by simp)
  · exact RecordLaws.driveLost (h.congr (by simp))

theorem RecordLaws.driveExpiry (h : RecordLaws True s) : RecordLaws True (driveExpiry s) := by
  unfold Machine.driveExpiry
  split
  · exact RecordLaws.driveLost (h.congr (by simp))
  · exact h

theorem RecordLaws.supervisionExpiry (h : RecordLaws True s) : RecordLaws True (supervisionExpiry s) := by
  unfold Machine.supervisionExpiry
  split
  · split
    · simp only [judgePeriod]
      split
      · exact h.congr (by simp [Supervision.nextPeriod])
      · split
        · exact h.congr (by simp [Supervision.nextPeriod])
        · exact RecordLaws.trip (h.congr (by simp)) _
    · exact h
  · exact h

theorem RecordLaws.lossExpiry (h : RecordLaws True s) : RecordLaws True (lossExpiry s) := by
  unfold Machine.lossExpiry
  split
  · exact RecordLaws.trip (h.congr (by simp)) _
  · exact h

theorem RecordLaws.rawChange (h : RecordLaws True s) (p : Pin) (level : Level) :
    RecordLaws True (rawChange p level s) := by
  refine h.congr ?_
  unfold Machine.rawChange
  split
  · simp
  · cases p <;> simp [Brs.setPin, Brs.pin]

/-- A chain that debounces to OPEN is latched at once (R60). -/
theorem RecordLaws.chainOpened (hd : ∀ car side, (s.dru.door car side).Timed) (ht : s.test.Sound)
    (hs : s.brs.sup.active = true ↔ s.hlc.state = .serviceStop) : RecordLaws True (chainOpened s) := by
  have hlatched : RecordLaws True (s.withBrs { s.brs with estopLatched := true }) :=
    ⟨hd, ht, by simpa using hs, fun _ => rfl⟩
  simp only [Machine.chainOpened]
  exact RecordLaws.trip (hlatched.congr (by simp)) _

theorem RecordLaws.debounceExpiry (h : RecordLaws True s) (p : Pin) : RecordLaws True (debounceExpiry p s) := by
  have hs : s.brs.sup.active = true ↔ s.hlc.state = .serviceStop := by simpa using h.supervision
  simp only [Machine.debounceExpiry]
  split
  · cases p with
    | resetKey => exact h.congr (by simp [Brs.setPin])
    | stopChain =>
      split
      · exact RecordLaws.chainOpened h.doors h.test hs
      · rename_i hopen
        refine ⟨h.doors, h.test, by simpa [Brs.setPin] using hs, fun ho => h.chain ?_⟩
        cases hl : s.brs.chain.level with
        | opened => rfl
        | closed => exact absurd ⟨rfl, hl, ho⟩ hopen
  · exact h

theorem RecordLaws.releaseExpiry (h : RecordLaws True s) (car : Car) (side : Side) :
    RecordLaws True (releaseExpiry car side s) := by
  simp only [Machine.releaseExpiry]
  split
  · exact h.faultDoor _ _ _ _
  · exact h

theorem RecordLaws.closeExpiry (h : RecordLaws True s) (car : Car) (side : Side) :
    RecordLaws True (closeExpiry car side s) := by
  simp only [Machine.closeExpiry]
  split
  · exact h.faultDoor _ _ _ _
  · exact h

theorem RecordLaws.freshnessExpiry (h : RecordLaws True s) (car : Car) : RecordLaws True (freshnessExpiry car s) := by
  unfold Machine.freshnessExpiry
  split
  · exact h.lapse car
  · exact h

/-! ### The ring -/

/-- A run starts out of ARMED, where no service stop is supervised. -/
theorem RecordLaws.startRun (h : RecordLaws True s) (hst : s.hlc.state = .armed) : RecordLaws True (startRun s) := by
  simp only [Machine.startRun]
  refine RecordLaws.judgeLoss (RecordLaws.raise ⟨by simpa using h.doors, by simpa using h.test, ?_,
    by simpa using h.chain⟩ _ _)
  simpa [hst] using h.supervision

theorem RecordLaws.sendForward (h : RecordLaws True s) (x : FifoEntry) : RecordLaws True (sendForward x s) := by
  unfold Machine.sendForward
  split
  case h_4 =>
    simp only [sendConsole]
    split
    · rename_i hst
      exact RecordLaws.startRun (h.congr (by simp)) (by simpa using hst.1)
    · exact h.congr (by simp)
  all_goals exact h.congr (by simp)

theorem RecordLaws.sendOldest (h : RecordLaws True s) (x : FifoEntry) (rest : List FifoEntry) :
    RecordLaws True (sendOldest x rest s) := by
  simp only [Machine.sendOldest]
  exact RecordLaws.sendForward (h.congr (by simp)) x

theorem RecordLaws.arbitrate (h : RecordLaws True s) : RecordLaws True (arbitrate s) := by
  unfold Machine.arbitrate
  dsimp only
  split
  · exact h.congr (by simp)
  · split
    · exact h.congr (by simp)
    · exact h.sendOldest _ _
  · split <;> exact h.congr (by simp)

theorem RecordLaws.arbitrateFault (h : RecordLaws True s) : RecordLaws True (arbitrateFault s) := by
  unfold Machine.arbitrateFault
  split
  · exact RecordLaws.sendForward (h.congr (by simp)) _
  · exact h.congr (by simp)

theorem RecordLaws.boundary (h : RecordLaws True s) : RecordLaws True (boundary s) := by
  have hsent : RecordLaws True (s.withRif { s.rif with sending := none }) := h.congr (by simp)
  unfold Machine.boundary
  dsimp only
  split
  · exact hsent.arbitrateFault
  · exact hsent.arbitrate

/-! ### Every step -/

theorem RecordLaws.of_sameBlocks {t : State} (h : RecordLaws True s) (hu : SameBlocks s t) : RecordLaws True t :=
  h.congr (by simp [hu.dru, hu.test, hu.brs, hu.hlc])

theorem RecordLaws.placeReply (h : RecordLaws True s) (req : Frame) (kind : Byte) (payload : List Byte) :
    RecordLaws True (placeReply req kind payload s) :=
  h.congr (by simp)

theorem RecordLaws.frameAct {t : State} (h : RecordLaws True s) (ht : FrameAct s t) : RecordLaws True t := by
  cases ht with
  | ring hu => exact h.of_sameBlocks hu
  | sample hu ch x health => exact (h.of_sameBlocks hu).takeSample ch x health
  | marker hu id car => exact (h.of_sameBlocks hu).takeMarker id car
  | drive hu p => exact (h.of_sameBlocks hu).takeDrive p
  | doorReport hu car left right => exact (h.of_sameBlocks hu).takeDoorReport car left right
  | lineCmd hu f => exact ((h.of_sameBlocks hu).decideLine _ _).placeReply _ _ _
  | doorReq hu f => exact ((h.of_sameBlocks hu).decideDoor _ _ _).placeReply _ _ _
  | request hu f => exact ((h.of_sameBlocks hu).decideRequest _ _).placeReply _ _ _

theorem RecordLaws.rowAct (h : RecordLaws True s) (c : Instr) : RecordLaws True (rowAct c s) := by
  unfold Machine.rowAct
  split
  · exact h.frameAct (frameAct_takeFrame _ s)
  · cases c with
    | rawLevelChange _ pin level => exact h.rawChange pin level
    | debounceExpiry _ pin => exact h.debounceExpiry pin
    | channelExpiry _ ch => exact h.channelExpiry ch
    | stillTimerExpiry _ => exact h.stillTimerExpiry
    | lossTimerExpiry _ => exact h.lossExpiry
    | supervisionPeriodExpiry _ => exact h.supervisionExpiry
    | armExpiry _ => exact h.armExpiry
    | driveExpiry _ => exact h.driveExpiry
    | doorStateLost _ car => exact h.freshnessExpiry car
    | releaseExpiry _ car side => exact h.releaseExpiry car side
    | closeExpiry _ car side => exact h.closeExpiry car side
    | outBoundary _ => exact h.boundary
    | frameForward _ rx => exact h.frameAct (frameAct_takeFrame rx s)
    | _ => exact h.congr (by simp [edgeAct])

end

/-! ### The release of reset -/

/-- The blocks that the release of reset sets, beside the ring and the Report Unit (R156). -/
theorem powerOn_blocks (oa ma : BitVec 6) (chain key : Level) (s : State) :
    (powerOn oa ma chain key s).env = .reset ∧ (powerOn oa ma chain key s).test = .reset ∧
    (powerOn oa ma chain key s).hlc = .reset ∧ (powerOn oa ma chain key s).dru = .reset ∧
    (powerOn oa ma chain key s).adu = .reset ∧ (powerOn oa ma chain key s).mga = .reset ∧
    (powerOn oa ma chain key s).brs = brsAtReset (strapsBad oa ma) chain key := by
  simp only [powerOn]
  (repeat' split) <;> simp

/-- The Brake Supervisor at the release of reset, beside its trip (R59, R64). -/
theorem brsAtReset_frame (fault : Bool) (chain key : Level) :
    (brsAtReset fault chain key).tier = .normal ∧ (brsAtReset fault chain key).aboveService = false ∧
    (brsAtReset fault chain key).tWarn = 0 ∧ (brsAtReset fault chain key).tSvc = 0 ∧
    (brsAtReset fault chain key).tEmg = 0 ∧ (brsAtReset fault chain key).sup = .idle ∧
    (brsAtReset fault chain key).lossFlag = false ∧ (brsAtReset fault chain key).lossTimer = none ∧
    (brsAtReset fault chain key).estopLatched = decide (chain = .opened) ∧
    (brsAtReset fault chain key).chain = pinAtReset chain ∧ (brsAtReset fault chain key).key = pinAtReset key := by
  simp only [brsAtReset, Brs.reset]
  (repeat' split) <;> simp_all [Brs.addCause]

theorem BrakeTest.sound_reset : BrakeTest.Sound .reset :=
  BrakeTest.sound_of_ended (by decide) fun
    | .service => by simp [BrakeTest.stage, BrakeTest.reset, Stage.live, Stage.reset]
    | .emergency => by simp [BrakeTest.stage, BrakeTest.reset, Stage.live, Stage.reset]

theorem powerOn_recordLaws (oa ma : BitVec 6) (chain key : Level) (s : State) :
    RecordLaws True (powerOn oa ma chain key s) := by
  obtain ⟨-, htest, hhlc, hdru, -, -, hbrs⟩ := powerOn_blocks oa ma chain key s
  obtain ⟨-, -, -, -, -, hsup, -, -, hlatched, hchain, -⟩ := brsAtReset_frame (strapsBad oa ma) chain key
  refine ⟨?_, by rw [htest]; exact BrakeTest.sound_reset, ?_, ?_⟩
  · rw [hdru]
    rintro (_ | _) (_ | _) <;> simp [DoorRecord.Timed, Dru.door, Dru.reset, DoorRecord.reset]
  · simp [hbrs, hhlc, hsup, Supervision.idle, Hlc.reset]
  · simp [hbrs, hchain, hlatched, pinAtReset]

/-- The second half of O10. -/
theorem step_keeps_recordSound {s t : State} (h : RecordSound s) (ht : step s = .next t) : RecordSound t := by
  rw [recordSound_iff] at h ⊢
  refine step_keeps (P := RecordLaws True) powerOn_recordLaws (fun _ h => h.congr (by simp [holdInReset]))
    (fun _ _ h => h.congr (by simp)) (fun elapsed c s h => ?_) h ht
  exact (RecordLaws.rowAct (s := begin elapsed s) (h.congr (by simp)) c).settle

/-- Settles O10: the motion laws are kept block operation by block operation of the Motion Estimator, the laws of the
timed records through every act, with supervision and the service stop ending apart within one motion update. -/
theorem everyStepKeepsTheMotionAndTimedRecordLaws : Obligations.EveryStepKeepsTheMotionAndTimedRecordLaws :=
  ⟨fun _ _ => step_keeps_motionSound, fun _ _ => step_keeps_recordSound⟩

end Sys2Proof.Machine

end

/-! ## The state at reset (R24, R41, R64, R78, R101, R118, R137, R153, R156, R169, R187, R194) -/

section

namespace Sys2Proof.Machine

/-! ### The laws at reset -/

theorem haulSound_reset : HaulSound State.reset where
  latched := by decide
  estop := by decide
  doors := by decide
  boarding := by decide
  berth := by decide
  arm := by decide
  mode := by decide
  envelope := by decide
  limit := by decide
  tier := by decide
  thresholds := ⟨rfl, rfl, rfl⟩
  history := by decide

theorem ringSound_reset : RingSound State.reset := by
  constructor <;> decide

theorem admissionSound_reset : AdmissionSound State.reset where
  grants := by decide
  gates := by decide
  tokens := by decide
  tokenNonzero := by decide
  counter := by decide
  serials := by decide
  passback := by decide
  unticketed := by decide
  capacity _ h := by cases h

@[simp] theorem Mga.reset_shadow (t : TableId) :
    Mga.reset.shadow t = { state := .empty, entries := [], failure := none } := by
  simp [Mga.shadow, Mga.reset]

theorem tablesSound_reset : TablesSound State.reset where
  stop _ h := by cases h
  profile _ h := by cases h
  product _ h := by cases h
  hotlist _ h := by cases h
  shadows t h := by simp [State.reset] at h
  pending _ h := by cases h

theorem motionSound_reset : MotionSound State.reset := motionSound_iff.mpr Moe.sound_reset

theorem recordSound_reset : RecordSound State.reset where
  doors := by rintro (_ | _) (_ | _) <;> decide
  test := BrakeTest.sound_reset.active
  single := BrakeTest.sound_reset.single
  supervision := by decide
  chain := by decide

theorem setpointSound_reset : SetpointSound State.reset where
  force f h := by cases h; exact ⟨rfl, rfl⟩
  fifo _ h := by cases h
  door _ h := by cases h
  reply _ h := by cases h
  report _ h := by cases h
  beacon _ h := by cases h

/-- Settles O5: every field is read off the reset record, and each law is one of the lemmas above. -/
theorem resetStateHoldsTheManualsValuesAndTheLaws : Obligations.ResetStateHoldsTheManualsValuesAndTheLaws := by
  refine ⟨⟨?haul, ?brakes, ?envelope, ?channels, ?motion, ?test, ?doors, ?reports, ?admission, ?shadows, ?tables,
    ?events, ?ring⟩, haulSound_reset, ringSound_reset, admissionSound_reset, tablesSound_reset, motionSound_reset,
    recordSound_reset, setpointSound_reset⟩
  case haul => decide
  case brakes => decide
  case envelope => decide
  case channels => rintro (_ | _ | _ | _) <;> rfl
  case motion => decide
  case test => decide
  case doors => rintro (_ | _) (_ | _) <;> rfl
  case reports => exact ⟨rfl, fun car => by cases car <;> rfl⟩
  case admission => decide
  case shadows => exact fun t => Mga.reset_shadow t
  case tables => decide
  case events => exact ⟨rfl, rfl, fun k => by simp [State.reset, Rpu.reset]⟩
  case ring => decide

end Sys2Proof.Machine

end

/-! ## The selection of reports and the release of reset (R156, R187, R190) -/

section

namespace Sys2Proof.Machine

/-! ### One kind pending -/

section

variable {s : State} {k : Fin 28}

/-- Where one kind alone is pending, a slot names it or nothing. -/
theorem pendingExpress_of_only (h : ∀ k', s.isPending k' = decide (k' = k)) (slot : Option (Fin 28)) :
    s.pendingExpress slot = none ∨ s.pendingExpress slot = some k := by
  cases slot with
  | none => exact .inl rfl
  | some x => by_cases hx : x = k <;> simp [State.pendingExpress, h, hx]

theorem foldl_preferKind_of_only (h : ∀ k', s.isPending k' = decide (k' = k)) (ks : List (Fin 28)) :
    ks.foldl (preferKind s) (some k) = some k := by
  induction ks with
  | nil => rfl
  | cons x rest ih => by_cases hx : x = k <;> simp [preferKind, h, hx, ih]

theorem topKind_of_only (h : ∀ k', s.isPending k' = decide (k' = k)) : s.topKind = some k := by
  have hfold : ∀ ks : List (Fin 28), k ∈ ks → ks.foldl (preferKind s) none = some k := by
    intro ks
    induction ks with
    | nil => simp
    | cons x rest ih =>
      by_cases hx : x = k
      · simp [preferKind, h, hx, foldl_preferKind_of_only h]
      · intro hk
        have : k ∈ rest := by simpa [Ne.symm hx] using hk
        simpa [preferKind, h, hx] using ih this
  exact hfold _ (List.mem_finRange k)

/-- The one pending kind is the next to be placed (R190). -/
theorem nextKind_of_only (h : ∀ k', s.isPending k' = decide (k' = k)) : s.nextKind = some k := by
  obtain h1 | h1 := pendingExpress_of_only h s.express1 <;> obtain h2 | h2 := pendingExpress_of_only h s.express2 <;>
    simp [State.nextKind, h1, h2, topKind_of_only h]

/-- Nothing is placed where nothing is pending. -/
theorem nextKind_of_none (h : ∀ k', s.isPending k' = false) : s.nextKind = none := by
  have hslot : ∀ slot, s.pendingExpress slot = none := fun slot => by
    cases slot <;> simp [State.pendingExpress, h]
  have hfold : ∀ ks : List (Fin 28), ks.foldl (preferKind s) none = none := fun ks => by
    induction ks with
    | nil => rfl
    | cons x rest ih => simpa [preferKind, h] using ih
  simp [State.nextKind, hslot, State.topKind, hfold]

/-- A kind that is placed is pending no more; the others stand. -/
theorem isPending_placeKind (s : State) (k k' : Fin 28) :
    (placeKind k s).isPending k' = (decide (k' ≠ k) && s.isPending k') := by
  unfold placeKind
  split
  · rename_i h
    by_cases hk : k' = k
    · simpa [State.isPending, hk] using h
    · simp [State.isPending, hk]
  · by_cases hk : k' = k
    · simp [State.isPending, hk]
    · simp [State.isPending, hk, Fin.val_inj, Ne.symm hk]

theorem selectUpTo_of_none (h : ∀ k', s.isPending k' = false) (n : Nat) : selectUpTo n s = s := by
  cases n with
  | zero => rfl
  | succ n => simp [selectUpTo, nextKind_of_none h]

/-- One pending kind that finds room is placed, and nothing else (R190). -/
theorem selectReports_of_only (h : ∀ k', s.isPending k' = decide (k' = k)) (hroom : s.rif.report.length < 8)
    (hstraps : s.strapFault = false) : selectReports s = placeKind k s := by
  have hnone : ∀ k', (placeKind k s).isPending k' = false := fun k' => by
    rw [isPending_placeKind, h]
    simp
  have hfirst : selectUpTo 8 s = selectUpTo 7 (placeKind k s) := by
    simp only [selectUpTo, hroom, if_true, nextKind_of_only h]
  rw [selectReports, hstraps, hfirst, selectUpTo_of_none hnone]
  rfl

end

/-! ### The release of reset -/

/-- The Report Unit with the first opening of the chain counted and pending. -/
def Rpu.estopRaised : Rpu := { Rpu.reset with slots := Rpu.reset.slots.set 1 ⟨1, some ⟨1, 0, 0⟩⟩ }

theorem Rpu.estopRaised_pending (k : Fin 28) : (Rpu.estopRaised.slots[k]).entry.isSome = decide (k = 1) := by
  revert k
  decide

/-- An opened chain is counted and pending at the release; with good straps its REPORT is placed at once (R64, R193). -/
theorem raiseEstop_of_reset {s : State} (hrpu : s.rpu = .reset) (hmga : s.mga = .reset) (hrif : s.rif = .reset)
    (hclock : s.clock = 0) : raiseEstop 0 false s =
      if s.strapFault then s.withRpu .estopRaised else placeKind 1 (s.withRpu .estopRaised) := by
  have hlevel : s.level EventKind.estopChain.code = 2 := by rw [State.level, hmga]; rfl
  have hraise : raiseEstop 0 false s = selectReports (s.withRpu .estopRaised) := by
    simp only [raiseEstop, raise, hlevel, hrpu, hclock]
    rfl
  rw [hraise]
  split
  · rename_i hbad
    have hbad' : (s.withRpu .estopRaised).strapFault = true := hbad
    rw [selectReports, if_pos hbad']
  · rename_i hgood
    refine selectReports_of_only (fun k => Rpu.estopRaised_pending k) ?_ (Bool.eq_false_iff.mpr hgood)
    rw [State.withRpu_rif, hrif]
    decide

/-- The Report Unit with the first opening of the chain reported. -/
def Rpu.estopReported : Rpu := { Rpu.reset with seq := 1, slots := Rpu.reset.slots.set 1 ⟨1, none⟩ }

theorem Rpu.estopRaised_placed : { Rpu.estopRaised with
    seq := 1, slots := Rpu.estopRaised.slots.set 1 ⟨1, none⟩ } = Rpu.estopReported := by decide

/-- The REPORT of an opened chain at the release. -/
theorem placeKind_estopRaised {s : State} (hmga : s.mga = .reset) (hrif : s.rif = .reset) :
    placeKind 1 (s.withRpu .estopRaised) = (s.withRif { Rif.reset with
        report := [⟨⟨0x70, s.maByte, s.oaByte, 0, [1, 1, 2, 1, 0, 0, 0, 0, 0, 0, 0, 0]⟩, true⟩], txSeq := 1 }).withRpu
      .estopReported := by
  have hlevel : (s.withRpu .estopRaised).level 1 = 2 := by rw [State.level, State.withRpu_mga, hmga]; rfl
  have hexpress : (s.withRpu .estopRaised).isExpress 1 = true := by
    simp only [State.isExpress, State.express1, State.express2, State.withRpu_mga, hmga]
    decide
  simp only [placeKind, hlevel, hexpress, placeReport, State.withRpu_rif, hrif, if_true, State.ownFrame,
    State.withRpu_rpu, State.withRif_rpu, ← Rpu.estopRaised_placed]
  rfl

/-- The forced set-point of the release (R47). -/
theorem placeForce_of_reset {s : State} (hmga : s.mga = .reset) (hforce : s.rif.force = none) :
    placeForce s = s.withRif { s.rif with
      force := some ⟨0x20, 63, s.oaByte, s.rif.txSeq, [0, 0, 0, 0, 4]⟩, txSeq := s.rif.txSeq + 1 } := by
  have haddress : s.addressOf .drive = 63 := by rw [State.addressOf, hmga]; rfl
  simp only [placeForce, haddress, hforce]
  rfl

/-- The transmit side and the Report Unit at the release with good straps: the opened chain is reported first. -/
theorem powerOn_transmit_of_good {oa ma : BitVec 6} (h : strapsBad oa ma = false) (chain key : Level) (s : State) :
    let t := powerOn oa ma chain key s
    let seq : Byte := if chain = .opened then 1 else 0
    t.rpu = (if chain = .opened then .estopReported else .reset) ∧
    t.rif = { Rif.reset with
      force := some ⟨0x20, 63, oa.setWidth 8, seq, [0, 0, 0, 0, 4]⟩
      report := if chain = .opened then [⟨⟨0x70, ma.setWidth 8, oa.setWidth 8, 0,
        [1, 1, 2, 1, 0, 0, 0, 0, 0, 0, 0, 0]⟩, true⟩] else []
      txSeq := seq + 1 } := by
  cases chain with
  | closed =>
    simp only [powerOn, h, if_false, reduceCtorEq, Bool.false_eq_true]
    rw [placeForce_of_reset (by rfl) (by rfl)]
    exact ⟨rfl, rfl⟩
  | opened =>
    simp only [powerOn, h, if_false, if_true, Bool.false_eq_true]
    rw [raiseEstop_of_reset (by rfl) (by rfl) (by rfl) (by rfl), if_neg (by simpa [State.strapFault] using h),
      placeKind_estopRaised (by rfl) (by rfl), placeForce_of_reset (by rfl) (by rfl)]
    exact ⟨rfl, rfl⟩

/-- A strap fault leaves the opened chain pending and the transmit side at reset (R156, R193). -/
theorem powerOn_transmit_of_bad {oa ma : BitVec 6} (h : strapsBad oa ma = true) (chain key : Level) (s : State) :
    (powerOn oa ma chain key s).rpu = (if chain = .opened then .estopRaised else .reset) ∧
    (powerOn oa ma chain key s).rif = .reset := by
  cases chain with
  | closed =>
    simp only [powerOn, h, if_false, if_true, reduceCtorEq, and_self]
  | opened =>
    simp only [powerOn, h, if_true]
    rw [raiseEstop_of_reset (by rfl) (by rfl) (by rfl) (by rfl), if_pos (by simpa [State.strapFault] using h)]
    exact ⟨rfl, rfl⟩

/-- What every release sets beside the blocks (R58, R156, R169). -/
theorem powerOn_frame (oa ma : BitVec 6) (chain key : Level) (s : State) :
    (powerOn oa ma chain key s).pending = s.pending ∧ (powerOn oa ma chain key s).inReset = false ∧
    (powerOn oa ma chain key s).clock = 0 ∧ (powerOn oa ma chain key s).oa = oa ∧
    (powerOn oa ma chain key s).ma = ma := by
  simp only [powerOn]
  (repeat' split) <;> simp

theorem strapsBad_eq_true (oa ma : BitVec 6) :
    strapsBad oa ma = true ↔ oa = 0 ∨ oa = 63 ∨ ma = 0 ∨ ma = 63 ∨ oa = ma := by
  simp [strapsBad, or_assoc]

/-- The trip of the release and its entry in the history (R64). -/
theorem brsAtReset_trip (fault : Bool) (chain key : Level) :
    (brsAtReset fault chain key).trip =
      ⟨true, some .powerUp, 1 ||| (if fault then 2 else 0) ||| (if chain = .opened then 32 else 0), 0, 0, 0⟩ ∧
    (brsAtReset fault chain key).history = [⟨some .powerUp, (brsAtReset fault chain key).trip.causes, 0, 0, 0, false⟩] := by
  cases fault <;> cases chain <;> cases key <;> decide

/-! ### The obligation -/

theorem Rpu.slots_of_reset (k : Fin 28) : Rpu.reset.slots[k] = ⟨0, none⟩ := by
  revert k
  decide

theorem Rpu.estopRaised_slots (k : Fin 28) :
    Rpu.estopRaised.slots[k] = if k = 1 then ⟨1, some ⟨1, 0, 0⟩⟩ else ⟨0, none⟩ := by
  revert k
  decide

theorem Rpu.estopReported_slots (k : Fin 28) :
    Rpu.estopReported.slots[k] = if k = 1 then ⟨1, none⟩ else ⟨0, none⟩ := by
  revert k
  decide

/-- The slots at the release: an opened chain is counted, and pending where the straps keep it back. -/
theorem powerOn_slots (oa ma : BitVec 6) (chain key : Level) (s : State) (k : Fin 28) :
    (powerOn oa ma chain key s).rpu.slots[k] = if k = EventKind.estopChain.code
      then ⟨if chain = .opened then 1 else 0,
        if chain = .opened ∧ strapsBad oa ma = true then some ⟨1, 0, 0⟩ else none⟩
      else ⟨0, none⟩ := by
  cases hbad : strapsBad oa ma with
  | true =>
    obtain ⟨hrpu, -⟩ := powerOn_transmit_of_bad hbad chain key s
    rw [hrpu]
    cases chain with
    | closed => exact (Rpu.slots_of_reset k).trans (ite_self _).symm
    | opened => exact Rpu.estopRaised_slots k
  | false =>
    obtain ⟨hrpu, -⟩ := powerOn_transmit_of_good hbad chain key s
    rw [hrpu]
    cases chain with
    | closed => exact (Rpu.slots_of_reset k).trans (ite_self _).symm
    | opened => exact Rpu.estopReported_slots k

/-- Settles O4: the blocks at the release are those of `powerOn_blocks`; the transmit side and the Report Unit follow
from the one event and the one forced frame that good straps let out. -/
theorem powerOnResetSetsEveryBlock : Obligations.PowerOnResetSetsEveryBlock := by
  unfold Obligations.PowerOnResetSetsEveryBlock
  intro oa ma chain key s
  obtain ⟨hpending, hreset, hclock, hoa, hma⟩ := powerOn_frame oa ma chain key s
  obtain ⟨henv, htest, hhlc, hdru, hadu, hmga, hbrs⟩ := powerOn_blocks oa ma chain key s
  obtain ⟨htier, habove, hwarn, hsvc, hemg, hsup, hloss, htimer, hlatched, hchain, hkey⟩ :=
    brsAtReset_frame (strapsBad oa ma) chain key
  obtain ⟨htrip, hhistory⟩ := brsAtReset_trip (strapsBad oa ma) chain key
  have hslots := powerOn_slots oa ma chain key s
  have hfault : (powerOn oa ma chain key s).strapFault = strapsBad oa ma := by rw [State.strapFault, hoa, hma]
  have hmoe := powerOn_moe oa ma chain key s
  refine ⟨powerOn oa ma chain key s, rfl, hpending, hreset, hclock, hoa, hma, ?_, ?_⟩
  · rw [hfault, strapsBad_eq_true]
  rw [hfault, hmoe, henv, htest, hhlc, hdru, hadu, hmga, hbrs, hchain, hkey, htier, habove, hwarn, hsvc, hemg, hsup,
    hloss, htimer, hlatched]
  refine ⟨rfl, rfl, rfl, rfl, rfl, rfl, rfl, rfl, rfl, htrip, hhistory, by simp, rfl, rfl, rfl, rfl, rfl, rfl, rfl, rfl,
    ?_⟩
  have houtputs : (powerOn oa ma chain key s).ebHold = false ∧ (powerOn oa ma chain key s).sbDemand = true ∧
      (powerOn oa ma chain key s).driveEnable = false := by
    simp [State.ebHold, State.sbDemand, State.driveEnable, hhlc, hreset, Hlc.reset]
  refine ⟨?_, fun k hk => by rw [hslots, if_neg hk], by rw [hslots, if_pos rfl], ?_⟩
  · cases hbad : strapsBad oa ma with
    | true =>
      rw [(powerOn_transmit_of_bad hbad chain key s).1]
      cases chain <;> rfl
    | false =>
      rw [(powerOn_transmit_of_good hbad chain key s).1]
      cases chain <;> rfl
  cases hbad : strapsBad oa ma with
  | true =>
    obtain ⟨hrpu, hrif⟩ := powerOn_transmit_of_bad hbad chain key s
    rw [hrif, hrpu]
    refine ⟨rfl, rfl, rfl, rfl, rfl, rfl, rfl, ⟨rfl, rfl, rfl⟩, ⟨rfl, rfl, rfl, ?_⟩, houtputs⟩
    cases chain <;> rfl
  | false =>
    obtain ⟨hrpu, hrif⟩ := powerOn_transmit_of_good hbad chain key s
    rw [hrif, hrpu]
    refine ⟨rfl, rfl, rfl, rfl, rfl, rfl, rfl, ⟨rfl, rfl, rfl⟩, ?_, houtputs⟩
    cases chain <;> exact ⟨rfl, rfl, rfl, rfl⟩

end Sys2Proof.Machine

end

/-! ## The estimate, the choice of speed and source, STILL and the cross-checks (R8–R20) -/

section

namespace Sys2Proof.Machine

/-! ### The estimate over its window (R8, R9) -/

theorem tickDiff_eq_zero_iff {newer older : Sample} : tickDiff newer older = 0 ↔ older.tick = newer.tick := by
  rw [tickDiff, ← BitVec.toNat_zero, BitVec.toNat_inj, BitVec.sub_eq_iff_eq_add, BitVec.zero_add, eq_comm]

/-- The window's oldest entry is the first whose tick is not the newest one's. -/
theorem windowOldest_eq_some {newest : Sample} {w : List Sample} (h : ∃ z ∈ w, z.tick ≠ newest.tick) :
    ∃ older oldest newer, w = older ++ oldest :: newer ∧ (∀ z ∈ older, z.tick = newest.tick) ∧
      oldest.tick ≠ newest.tick ∧ windowOldest newest w = some oldest := by
  induction w with
  | nil => simp at h
  | cons x rest ih =>
    by_cases hx : x.tick = newest.tick
    · have hrest : ∃ z ∈ rest, z.tick ≠ newest.tick := by simpa [hx] using h
      obtain ⟨older, oldest, newer, hw, holder, hne, hfound⟩ := ih hrest
      refine ⟨x :: older, oldest, newer, by rw [hw]; rfl, by simpa [hx] using holder, hne, ?_⟩
      rwa [windowOldest, if_pos (tickDiff_eq_zero_iff.mpr hx)]
    · exact ⟨[], x, rest, rfl, by simp, hx, by rw [windowOldest, if_neg (mt tickDiff_eq_zero_iff.mp hx)]⟩

/-- A window of two entries or more holds the newest two. -/
theorem mem_newestOf_of_two_le {n : Nat} (hn : 2 ≤ n) (pre : List Sample) (y x : Sample) :
    y ∈ newestOf n (pre ++ [y, x]) := by
  have hle : (pre ++ [y, x]).length - n ≤ pre.length := by
    simp only [List.length_append, List.length_cons, List.length_nil]
    omega
  rw [newestOf, List.drop_append_of_le_length hle]
  simp

theorem limitSpeed_fst (q : Int) : (limitSpeed q).1 = max (-32767) (min 32767 q) := by
  unfold limitSpeed
  split
  · omega
  · split <;> simp only <;> omega

theorem limitSpeed_snd (q : Int) : (limitSpeed q).2 = true ↔ q < -32767 ∨ 32767 < q := by
  unfold limitSpeed
  split
  · simp; omega
  · split <;> simp <;> omega

/-- Settles O12: the entry before the newest stands in the window and has another tick, so the search for the oldest
entry succeeds. -/
theorem estimateFollowsTheWindow : Obligations.EstimateFollowsTheWindow := by
  unfold Obligations.EstimateFollowsTheWindow
  intro cl pre y x hwindow htick
  obtain ⟨older, oldest, newer, hw, holder, hne, hfound⟩ :=
    windowOldest_eq_some (newest := x) ⟨y, mem_newestOf_of_two_le hwindow pre y x, htick⟩
  refine ⟨older, oldest, newer, _, _, hw, holder, hne, ?_, limitSpeed_fst _, limitSpeed_snd _⟩
  have hlast : (pre ++ [y, x]).getLast? = some x := by simp
  simp only [estimateOf, hlast, hfound]
  rfl

/-! ### V and its companions (R10) -/

theorem Moe.magnitude_le_lineSpeed (m : Moe) (ch : ChannelId) : (m.channel ch).magnitude ≤ m.lineSpeed := by
  cases ch <;> simp [Moe.channel, Moe.lineSpeed]

theorem Channel.magnitude_of_fresh {c : Channel} {v : Int} (h : c.state = .fresh) (he : c.estimate = some v) :
    c.magnitude = v.natAbs := by
  simp [Channel.magnitude, Channel.contribution, h, he]

/-- A channel whose magnitude is not 0 is FRESH with an estimate. -/
theorem Channel.of_magnitude_ne_zero {c : Channel} (h : c.magnitude ≠ 0) :
    ∃ v, c.state = .fresh ∧ c.estimate = some v ∧ c.magnitude = v.natAbs := by
  unfold Channel.magnitude Channel.contribution at *
  by_cases hf : c.state = .fresh
  · cases he : c.estimate with
    | none => simp [hf, he] at h
    | some v => exact ⟨v, hf, rfl, by simp [hf]⟩
  · simp [hf] at h

/-- V is the magnitude of some channel. -/
theorem Moe.lineSpeed_attained (m : Moe) : ∃ ch, m.lineSpeed = (m.channel ch).magnitude := by
  have h : m.lineSpeed = (m.channel .s1).magnitude ∨ m.lineSpeed = (m.channel .s2).magnitude ∨
      m.lineSpeed = (m.channel .ca).magnitude ∨ m.lineSpeed = (m.channel .cb).magnitude := by
    simp only [Moe.lineSpeed, Moe.channel]
    omega
  obtain h | h | h | h := h <;> exact ⟨_, h⟩

theorem Moe.lineSpeed_eq (m : Moe) : m.lineSpeed = 0 ∨ ∃ ch v, (m.channel ch).state = .fresh ∧
    (m.channel ch).estimate = some v ∧ m.lineSpeed = v.natAbs := by
  obtain ⟨ch, hch⟩ := m.lineSpeed_attained
  by_cases h0 : (m.channel ch).magnitude = 0
  · exact .inl (hch.trans h0)
  · obtain ⟨v, hf, he, hv⟩ := Channel.of_magnitude_ne_zero h0
    exact .inr ⟨ch, v, hf, he, hch.trans hv⟩

theorem directionOf_eq_up (o : Option Int) : directionOf o = .up ↔ ∃ v, o = some v ∧ 0 < v := by
  cases o with
  | none => simp [directionOf]
  | some v =>
    simp only [directionOf]
    split
    · simpa
    · split <;> simp_all

theorem directionOf_eq_down (o : Option Int) : directionOf o = .down ↔ ∃ v, o = some v ∧ v < 0 := by
  cases o with
  | none => simp [directionOf]
  | some v =>
    simp only [directionOf]
    split
    · simp; omega
    · split <;> simp_all

theorem Moe.held_iff (m : Moe) : m.held = true ↔ m.source = none := by simp [Moe.held]

/-- The update stores the values as they stand once STILL is judged. -/
theorem motionUpdate_last (s : State) :
    (motionUpdate s).moe.last = { s.moe.motion with still := (motionUpdate s).moe.still } := by
  rw [motionUpdate_moe]
  simp only [judgeStill, State.withMoe]
  (repeat' split) <;> rfl

/-! ### The reference sheave estimate (R10) -/

/-- The other sheave. -/
def Sheave.other : Sheave → Sheave
  | .s1 => .s2
  | .s2 => .s1

theorem Sheave.eq_other {sh other : Sheave} (h : other ≠ sh) : other = sh.other := by
  cases sh <;> cases other <;> simp_all [Sheave.other]

theorem Moe.sheaveEstimate_of_source {m : Moe} {sh : Sheave} (h : m.source = some sh) :
    m.sheaveEstimate = (m.channel sh.channel).estimate.orElse fun _ => (m.channel sh.other.channel).contribution := by
  cases sh <;> simp [Moe.sheaveEstimate, h, Sheave.other, Sheave.channel, Moe.channel]

theorem Moe.sheaveEstimate_of_held {m : Moe} (h : m.source = none) : m.sheaveEstimate = none := by
  simp [Moe.sheaveEstimate, h]

/-! ### Position and source (R11–R13) -/

theorem Moe.position_of_newest {m : Moe} {sh : Sheave} {newest : Sample} (l : Line)
    (h : (m.channel sh.channel).history.getLast? = some newest) :
    m.position l sh = some (limit32 ((m.reference sh).pos +
      ((newest.count - (m.reference sh).count).toInt * (l.channel sh.channel).scale * (l.channel sh.channel).sign).tdiv
        1000)) := by
  rw [Moe.position, h]
  rfl

theorem Moe.position_of_empty {m : Moe} {sh : Sheave} (l : Line) (h : (m.channel sh.channel).history = []) :
    m.position l sh = none := by
  rw [Moe.position, h]
  rfl

/-- A re-based channel with a history stands at the position (R11). -/
theorem Moe.rebase_reference {m : Moe} {sh : Sheave} {newest : Sample}
    (h : (m.channel sh.channel).history.getLast? = some newest) (pos : Int) :
    (m.rebase sh pos).reference sh = { count := newest.count, pos := pos } := by
  rw [Moe.rebase, h]
  cases sh <;> rfl

/-- Re-basing one sheave leaves the other's reference. -/
theorem Moe.rebase_reference_of_ne {m : Moe} {sh other : Sheave} (h : other ≠ sh) (pos : Int) :
    (m.rebase sh pos).reference other = m.reference other := by
  unfold Moe.rebase
  split
  · cases sh <;> cases other <;> simp_all [Moe.setReference, Moe.reference]
  · rfl

/-- A channel that is read at its reference stands at the reference's position. -/
theorem Moe.position_at_reference {m : Moe} {sh : Sheave} {newest : Sample} {pos : Int} (l : Line)
    (h : (m.channel sh.channel).history.getLast? = some newest)
    (href : m.reference sh = { count := newest.count, pos := pos }) : m.position l sh = some (limit32 pos) := by
  rw [Moe.position_of_newest l h, href]
  simp

theorem limit32_of_bounds {i : Int} (hlow : -2147483648 ≤ i) (hhigh : i ≤ 2147483647) : limit32 i = i := by
  unfold limit32
  omega

/-- The re-choice of the source leaves a reference other than by re-basing the new source at posA (R12). -/
theorem Moe.chooseSource_reference (m : Moe) (sh : Sheave) : m.chooseSource.reference sh =
    if m.choice = some sh ∧ m.source ≠ some sh then (m.rebase sh m.posA).reference sh else m.reference sh := by
  unfold Moe.chooseSource
  cases hchoice : m.choice with
  | none => cases sh <;> simp [Moe.reference]
  | some sh' =>
    have hpart : ∀ (status : PositionStatus) (gap : Bool) (m1 : Moe), ({ m1 with
        source := some sh', status := status, gap := gap } : Moe).reference sh = m1.reference sh := by
      intros; cases sh <;> rfl
    have hkey : (if m.source = some sh' then m else m.rebase sh' m.posA).reference sh =
        if some sh' = some sh ∧ m.source ≠ some sh then (m.rebase sh m.posA).reference sh else m.reference sh := by
      by_cases hsh : sh' = sh
      · subst hsh
        by_cases hs : m.source = some sh' <;> simp [hs]
      · by_cases hs : m.source = some sh'
        · simp [hs, hsh]
        · simp [hs, hsh, Moe.rebase_reference_of_ne (Ne.symm hsh)]
    simp only
    rw [← hkey]
    split <;> cases sh <;> rfl

/-- The gap mark is spent by a new source, which makes the status SUSPECT (R13). -/
theorem Moe.chooseSource_status (m : Moe) : m.chooseSource.status =
    if m.choice.isSome && m.gap then .suspect else m.status := by
  unfold Moe.chooseSource
  cases m.choice with
  | none => simp
  | some sh => (repeat' split) <;> simp_all

theorem Moe.chooseSource_gap (m : Moe) : m.chooseSource.gap =
    if m.choice.isSome then false else m.gap || (m.source.isSome && m.status.trusted) := by
  unfold Moe.chooseSource
  cases m.choice with
  | none => simp
  | some sh => (repeat' split) <;> simp_all

theorem Moe.choice_eq_some_s1 (m : Moe) : m.choice = some .s1 ↔ m.s1.state = .fresh := by
  unfold Moe.choice
  (repeat' split) <;> simp_all

theorem Moe.choice_eq_some_s2 (m : Moe) : m.choice = some .s2 ↔ m.s1.state ≠ .fresh ∧ m.s2.state = .fresh := by
  unfold Moe.choice
  (repeat' split) <;> simp_all

theorem Moe.choice_eq_none (m : Moe) : m.choice = none ↔ m.s1.state ≠ .fresh ∧ m.s2.state ≠ .fresh := by
  unfold Moe.choice
  (repeat' split) <;> simp_all

/-- Settles O15, clause by clause from the lemmas above. -/
theorem speedAndSourceAreChosenAmongFreshChannels : Obligations.SpeedAndSourceAreChosenAmongFreshChannels := by
  unfold Obligations.SpeedAndSourceAreChosenAmongFreshChannels
  refine ⟨fun m => ?_, fun x => ?_, fun s => ?_, fun m sh other hsrc hne => ?_, fun m h _ _ => m.sheaveEstimate_of_held h,
    fun m => ⟨m.choice_eq_some_s1, m.choice_eq_some_s2, m.choice_eq_none⟩, fun m l sh => ?_, fun m l => ?_⟩
  · refine ⟨fun ch v hf he => ?_, m.lineSpeed_eq, directionOf_eq_up _, directionOf_eq_down _, ?_, rfl, rfl, m.held_iff,
      m.held_iff, rfl, rfl⟩
    · rw [← Channel.magnitude_of_fresh hf he]
      exact m.magnitude_le_lineSpeed ch
    · simp [Moe.motion, Option.isSome_iff_ne_none]
  · constructor <;> intro h <;> simp [Motion.signed, signedSpeed, h]
  · rw [motionUpdate_last]
    exact ⟨rfl, rfl, rfl, rfl, s.moe.held_iff, rfl, rfl⟩
  · have hother := Sheave.eq_other hne
    subst hother
    rw [Moe.sheaveEstimate_of_source hsrc]
    refine ⟨fun v hv => by simp [hv], fun v hown hf he => by simp [hown, Channel.contribution, hf, he],
      fun hown h => ?_⟩
    obtain h | h := h <;> simp [hown, Channel.contribution, h]
  · refine ⟨Moe.position_of_empty l, fun newest h => ?_⟩
    rw [Moe.position_of_newest l h]
    cases sh <;> rfl
  · refine ⟨by simp, by simp, by simp, fun sh hchoice hsrc hne hlow hhigh => ?_, fun sh hchoice hgap => ?_,
      fun h => ?_⟩
    · obtain ⟨newest, hnewest⟩ := Option.ne_none_iff_exists'.mp (mt List.getLast?_eq_none_iff.mp hne)
      rw [Moe.position_at_reference (newest := newest) (pos := m.posA) l (by simpa using hnewest), limit32_of_bounds hlow hhigh]
      rw [Moe.chooseSource_reference, if_pos ⟨hchoice, hsrc⟩, Moe.rebase_reference hnewest]
    · simp [Moe.chooseSource_status, Moe.chooseSource_gap, hchoice, hgap]
    · obtain h | h := h <;> simp [Moe.chooseSource_status, h]

end Sys2Proof.Machine

end

/-! ## Rows taken to the end of their step; STILL and the cross-checks (R17–R20, R178) -/

section

namespace Sys2Proof.Machine

/-! ### Rows taken to the end of their step -/

section

variable {s : State} {c : Instr} {e : Time}

theorem exec_of_running (he : rowElapsed c = some e) (hrun : s.inReset = false) :
    exec c s = .next (settle (begin e s) (rowAct c (begin e s))) := by
  rw [exec_of_rowElapsed he, perform_running hrun]

/-- A row that leaves the state it begins with is over with that. -/
theorem exec_of_idle (he : rowElapsed c = some e) (hrun : s.inReset = false)
    (hact : rowAct c (begin e s) = begin e s) : exec c s = .next (begin e s) := by
  rw [exec_of_running he hrun, hact, settle_of_same rfl]

/-- What is said of a row's act is said of the row before the end of its step takes a pending activation (R178). -/
theorem settles_of_act {P : State → Prop} (he : rowElapsed c = some e) (hrun : s.inReset = false)
    (hmga : (rowAct c (begin e s)).mga = s.mga) (hP : P (rowAct c (begin e s))) : Settles c s P := by
  refine ⟨e, _, he, exec_of_running he hrun, hP, congrArg _ hmga, fun hnone => ?_⟩
  rw [exec_of_running he hrun, settle_of_none (by rw [hmga, hnone])]

end

/-! ### STILL (R18) -/

theorem judgeStill_of_moving {s : State} (h : s.stillCondition s.moe.motion = false) :
    (judgeStill s).moe = { s.moe with candidate := none, stillTimer := none, still := false } := by
  simp [judgeStill, h]

theorem judgeStill_of_candidate {s : State} (h : s.stillCondition s.moe.motion = true)
    (hc : s.moe.candidate.isSome = true) : (judgeStill s).moe = s.moe := by
  simp [judgeStill, h, hc]

theorem judgeStill_of_starting {s : State} (h : s.stillCondition s.moe.motion = true)
    (hc : s.moe.candidate = none) : (judgeStill s).moe = { s.moe with
      candidate := some s.clock, stillTimer := some { start := s.clock, dur := s.param (·.tStill) 0 } } := by
  simp [judgeStill, h, hc]

/-- The still condition reads V and whether the sheave speed is KNOWN. -/
theorem stillCondition_congr {s t : State} {x y : Motion} (hv : x.v = y.v) (hknown : x.known = y.known)
    (hmga : t.mga = s.mga) : t.stillCondition x = s.stillCondition y := by
  simp only [State.stillCondition, State.line, hv, hknown, hmga]

/-- Settles O14: `motionUpdate_moe` says that the update stores what the judgement of STILL leaves. -/
theorem stillIsJudgedAndTimed : Obligations.StillIsJudgedAndTimed := by
  unfold Obligations.StillIsJudgedAndTimed
  refine ⟨fun s e hrun => ⟨fun hdue => ?_, fun hdue hcand hstill => ?_⟩, fun s => ⟨fun h => ?_, fun h hc => ?_,
    fun l hl h hc => ?_⟩⟩
  · refine exec_of_idle (e := e) rfl hrun ?_
    simp [rowAct, rowFrame, edgeAct, stillTimerExpiry, hdue]
  · have hact : rowAct (.stillTimerExpiry e) (begin e s) =
        motionUpdate ((begin e s).withMoe { s.moe with still := true, stillTimer := none }) := by
      simp [rowAct, rowFrame, edgeAct, stillTimerExpiry, hdue, hcand]
    refine settles_of_act (e := e) rfl hrun (by rw [hact]; simp) ?_
    rw [hact, motionUpdate_moe, judgeStill_of_candidate]
    · exact ⟨rfl, by simp⟩
    · rw [← hstill]
      exact stillCondition_congr rfl rfl rfl
    · simpa using hcand
  · rw [motionUpdate_moe, judgeStill_of_moving h]
    rfl
  · rw [motionUpdate_moe, judgeStill_of_candidate h hc]
  · have hparam : s.param (·.tStill) 0 = l.tStill := by simp [State.param, hl]
    rw [motionUpdate_moe, judgeStill_of_starting h hc, hparam]
    rfl

/-! ### The cross-checks (R17, R19, R20) -/

theorem judgeDivergence_of_apart {s : State} {l : Line} {p1 p2 : Int} (h1 : s.moe.position l .s1 = some p1)
    (h2 : s.moe.position l .s2 = some p2) (h : s.moe.s1.state = .fresh ∧ s.moe.s2.state = .fresh ∧
      s.moe.status.trusted = true ∧ l.corrMax < (p1 - p2).natAbs) :
    judgeDivergence l s = raise .positionDiverge (BitVec.ofInt 32 (limit32 (p1 - p2)))
      (s.withMoe { s.moe with status := .suspect }) := by
  simp only [judgeDivergence, h1, h2]
  rw [if_pos h]

theorem judgeDivergence_of_close {s : State} {l : Line} {p1 p2 : Int} (h1 : s.moe.position l .s1 = some p1)
    (h2 : s.moe.position l .s2 = some p2) (h : ¬ (s.moe.s1.state = .fresh ∧ s.moe.s2.state = .fresh ∧
      s.moe.status.trusted = true ∧ l.corrMax < (p1 - p2).natAbs)) : judgeDivergence l s = s := by
  simp only [judgeDivergence, h1, h2]
  rw [if_neg h]

theorem judgeDivergence_of_none {s : State} {l : Line}
    (h : s.moe.position l .s1 = none ∨ s.moe.position l .s2 = none) : judgeDivergence l s = s := by
  unfold judgeDivergence
  cases h1 : s.moe.position l .s1 <;> cases h2 : s.moe.position l .s2 <;> simp_all

/-- A judgement carried out: the record is put in its place, and reported where it is to be. -/
def Persistence.carried (p : Persistence) (holds : Bool) (now : Time) (limit : Nat) (put : Persistence → State)
    (report : State → State) : State :=
  if (p.judged holds now limit).2 then report (put (p.judged holds now limit).1) else put (p.judged holds now limit).1

/-- The three outcomes of a persistent condition: the record is cleared, kept, or reported once (R19, R20). -/
theorem Persistence.carried_outcomes {p : Persistence} {holds : Bool} {Holds : Prop} {now : Time} {limit : Nat}
    {put : Persistence → State} {report : State → State} {t : State} (hiff : holds = true ↔ Holds)
    (ht : t = p.carried holds now limit put report) :
    (¬ Holds → t = put { start := none, reported := false }) ∧
    (Holds → (p.reported = true ∨ ¬ limit ≤ (now - p.start.getD now).toNat) →
      t = put { p with start := some (p.start.getD now) }) ∧
    (Holds → p.reported = false → limit ≤ (now - p.start.getD now).toNat →
      t = report (put { start := some (p.start.getD now), reported := true })) := by
  subst ht
  rw [← hiff]
  refine ⟨fun h => ?_, fun h hkeep => ?_, fun h hrep hlate => ?_⟩
  · rw [Bool.not_eq_true] at h
    simp [Persistence.carried, Persistence.judged, h, Persistence.clear]
  · have hquiet : (!p.reported && decide (limit ≤ since (p.start.getD now) now)) = false := by
      obtain hkeep | hkeep := hkeep
      · rw [hkeep]; rfl
      · rw [since, decide_eq_false hkeep, Bool.and_false]
    simp only [Persistence.carried, Persistence.judged, h, hquiet, if_true, Bool.false_eq_true, if_false]
  · have hloud : (!p.reported && decide (limit ≤ since (p.start.getD now) now)) = true := by
      rw [hrep, since, decide_eq_true hlate]; rfl
    simp only [Persistence.carried, Persistence.judged, h, hloud, if_true]

theorem Channel.contribution_eq_some {c : Channel} {v : Int} :
    c.contribution = some v ↔ c.state = .fresh ∧ c.estimate = some v := by
  simp [Channel.contribution]

theorem Channel.contribution_of_not_fresh {c : Channel} (h : c.state ≠ .fresh) : c.contribution = none := by
  simp [Channel.contribution, h]

theorem Channel.contribution_of_no_estimate {c : Channel} (h : c.estimate = none) : c.contribution = none := by
  simp [Channel.contribution, h]

/-- The disagreement check with both sheaves FRESH (R19). -/
theorem judgeDisagree_of_fresh {s : State} {v1 v2 : Int} (l : Line) (h1 : s.moe.s1.contribution = some v1)
    (h2 : s.moe.s2.contribution = some v2) :
    judgeDisagree l s = s.moe.disagree.carried (decide (l.tolSheave < (v1 - v2).natAbs)) s.clock l.tDisagree
      (fun p => s.withMoe { s.moe with disagree := p })
      (fun u => demand .disagree (raise .sensorDisagree (BitVec.ofInt 16 v1 ++ BitVec.ofInt 16 v2) u)) := by
  simp only [judgeDisagree, h1, h2]
  rfl

theorem judgeDisagree_of_none {s : State} (l : Line)
    (h : s.moe.s1.contribution = none ∨ s.moe.s2.contribution = none) :
    judgeDisagree l s = s.withMoe { s.moe with disagree := .clear } := by
  unfold judgeDisagree
  cases h1 : s.moe.s1.contribution <;> cases h2 : s.moe.s2.contribution <;> simp_all

/-- The slip check of a car that is FRESH beside a known sheave speed (R20). -/
theorem judgeSlip_of_fresh {s : State} {car : Car} {v r : Int} (l : Line)
    (h1 : (s.moe.channel (carChannel car)).contribution = some v) (h2 : s.moe.sheaveEstimate = some r) :
    judgeSlip l car s = (s.moe.slip car).carried (decide (l.slipTol < (v - r).natAbs)) s.clock l.tSlip
      (fun p => s.withMoe (s.moe.setSlip car p))
      (fun u => demand .slip (raise .ropeSlip
        (carCode car ++ (0 : Byte) ++ BitVec.ofInt 16 (max (-32767) (min 32767 (v - r)))) u)) := by
  simp only [judgeSlip, h1, h2]
  rfl

theorem judgeSlip_of_none {s : State} (l : Line) {car : Car}
    (h : (s.moe.channel (carChannel car)).contribution = none ∨ s.moe.sheaveEstimate = none) :
    judgeSlip l car s = s.withMoe (s.moe.setSlip car .clear) := by
  unfold judgeSlip
  cases h1 : (s.moe.channel (carChannel car)).contribution <;> cases h2 : s.moe.sheaveEstimate <;> simp_all

/-- Settles O17: a condition between two channels that are not both FRESH fails, and its record is cleared as where an
estimate is missing; between FRESH channels `Persistence.carried_outcomes` gives the three outcomes. -/
theorem sheavesAndRopesAreCrossChecked : Obligations.SheavesAndRopesAreCrossChecked := by
  unfold Obligations.SheavesAndRopesAreCrossChecked
  refine ⟨fun s l => ⟨fun p1 p2 h1 h2 => ⟨fun h => judgeDivergence_of_apart h1 h2 h,
    fun h => judgeDivergence_of_close h1 h2 h⟩, judgeDivergence_of_none⟩,
    fun s l => ⟨fun v1 v2 h1 h2 => ?_, fun h => ?_, fun car => ⟨fun v r hv hr => ?_, fun h => ?_⟩⟩,
    fun s l => ⟨fun ch hch => ?_, rfl, rfl⟩⟩
  · by_cases hf : s.moe.s1.state = .fresh ∧ s.moe.s2.state = .fresh
    · refine Persistence.carried_outcomes ?_ (judgeDisagree_of_fresh l
        (Channel.contribution_eq_some.mpr ⟨hf.1, h1⟩) (Channel.contribution_eq_some.mpr ⟨hf.2, h2⟩))
      simp [hf]
    · have hnone : s.moe.s1.contribution = none ∨ s.moe.s2.contribution = none := by
        obtain hf1 | hf2 := not_and_or.mp hf
        · exact .inl (Channel.contribution_of_not_fresh hf1)
        · exact .inr (Channel.contribution_of_not_fresh hf2)
      exact ⟨fun _ => judgeDisagree_of_none l hnone, fun h => absurd ⟨h.1, h.2.1⟩ hf, fun h => absurd ⟨h.1, h.2.1⟩ hf⟩
  · refine judgeDisagree_of_none l ?_
    obtain h | h := h
    · exact .inl (Channel.contribution_of_no_estimate h)
    · exact .inr (Channel.contribution_of_no_estimate h)
  · by_cases hf : (s.moe.channel (carChannel car)).state = .fresh
    · have hestimate : (s.moe.channel (carChannel car)).estimate = some v := by cases car <;> exact hv
      have hslip := judgeSlip_of_fresh l (Channel.contribution_eq_some.mpr ⟨hf, hestimate⟩) hr
      have hiff : decide (l.slipTol < (v - r).natAbs) = true ↔
          (s.moe.channel (carChannel car)).state = .fresh ∧ l.slipTol < (v - r).natAbs := by simp [hf]
      cases car <;> exact Persistence.carried_outcomes hiff hslip
    · have hclear := judgeSlip_of_none l (s := s) (car := car) (.inl (Channel.contribution_of_not_fresh hf))
      cases car <;> exact ⟨fun _ => hclear, fun h => absurd h.1 hf, fun h => absurd h.1 hf⟩
  · have hclear := judgeSlip_of_none l (s := s) (car := car) (h.imp (fun h => Channel.contribution_of_no_estimate
      (by cases car <;> exact h)) id)
    cases car <;> exact hclear
  · obtain rfl | rfl := hch <;> rfl

end Sys2Proof.Machine

end

/-! ## What a motion update leaves of the FIFO, the replies, the event counts and the timed reports (R10, R188) -/

section

namespace Sys2Proof.Machine

/-! ### Counts of events (R188, R190) -/

@[simp] theorem placeKind_kept (k : Fin 28) (s : State) : (placeKind k s).rif.fifo = s.rif.fifo ∧
    (placeKind k s).rif.reply = s.rif.reply ∧ (placeKind k s).rpu.beacon = s.rpu.beacon := by
  unfold placeKind
  split <;> simp [placeReport]

theorem placeKind_count (k j : Fin 28) (s : State) :
    (placeKind k s).rpu.slots[j].count = s.rpu.slots[j].count := by
  unfold placeKind
  split
  · rfl
  · by_cases hj : j = k
    · simp [hj]
    · simp [Fin.val_inj, Ne.symm hj]

/-- The FIFO, the replies, the beacon timer and every count stand. -/
structure Selected (s t : State) : Prop where
  fifo : t.rif.fifo = s.rif.fifo
  reply : t.rif.reply = s.rif.reply
  beacon : t.rpu.beacon = s.rpu.beacon
  count : ∀ j : Fin 28, t.rpu.slots[j].count = s.rpu.slots[j].count

theorem Selected.refl (s : State) : Selected s s := ⟨rfl, rfl, rfl, fun _ => rfl⟩

theorem Selected.upTo (n : Nat) (s : State) : Selected s (selectUpTo n s) := by
  induction n generalizing s with
  | zero => exact refl s
  | succ n ih =>
    unfold selectUpTo
    split
    · cases s.nextKind with
      | some k =>
        obtain ⟨hfifo, hreply, hbeacon, hcount⟩ := ih (placeKind k s)
        exact ⟨by simp [hfifo], by simp [hreply], by simp [hbeacon], fun j => (hcount j).trans (placeKind_count k j s)⟩
      | none => exact refl s
    · exact refl s

/-- The selection of reports moves entries into the REPORT class and counts nothing (R190). -/
theorem Selected.reports (s : State) : Selected s (selectReports s) := by
  unfold selectReports
  split
  · exact refl s
  · exact upTo 8 s

/-- The slots of the Report Unit after one more occurrence of a kind, before the selection (R188). -/
def State.occurred (s : State) (k : EventKind) (detail : BitVec 32) : State :=
  let slot := s.rpu.slots[k.code].raised (s.level k.code) s.clock detail
  s.withRpu { s.rpu with slots := s.rpu.slots.set k.code slot }

theorem raise_eq (k : EventKind) (detail : BitVec 32) (s : State) : raise k detail s =
    if s.level k.code ≠ 0 ∧ s.rpu.slots[k.code].entry.isNone then selectReports (s.occurred k detail)
    else s.occurred k detail := rfl

theorem occurred_count (k : EventKind) (detail : BitVec 32) (s : State) (j : Fin 28) :
    (s.occurred k detail).rpu.slots[j].count =
      if j = k.code then satAdd s.rpu.slots[j].count 1 else s.rpu.slots[j].count := by
  by_cases hj : j = k.code
  · simp [State.occurred, hj, EventSlot.raised]
  · simp [State.occurred, Fin.val_inj, Ne.symm hj, hj]

/-- A raise counts its own kind, once (R188). -/
theorem raise_count (k : EventKind) (detail : BitVec 32) (s : State) (j : Fin 28) :
    (raise k detail s).rpu.slots[j].count =
      if j = k.code then satAdd s.rpu.slots[j].count 1 else s.rpu.slots[j].count := by
  rw [raise_eq]
  split
  · exact ((Selected.reports _).count j).trans (occurred_count k detail s j)
  · exact occurred_count k detail s j

@[simp] theorem raise_kept (k : EventKind) (detail : BitVec 32) (s : State) :
    (raise k detail s).rif.fifo = s.rif.fifo ∧ (raise k detail s).rif.reply = s.rif.reply ∧
    (raise k detail s).rpu.beacon = s.rpu.beacon := by
  rw [raise_eq]
  split
  · obtain ⟨hfifo, hreply, hbeacon, -⟩ := Selected.reports (s.occurred k detail)
    exact ⟨hfifo, hreply, hbeacon⟩
  · exact ⟨rfl, rfl, rfl⟩

/-! ### The relation -/

/-- The codes of the events that a motion update can raise: TRIP, SERVICE_STOP, OVERSPEED_WARN, SPEED_LOST, ARRIVED and
BRAKE_TEST_RESULT. -/
def updateCodes : List (Fin 28) := [0, 2, 3, 4, 19, 25]

/-- The FIFO, the replies, the beacon timer, the counts of all other events, the drive record and the door reports
stand. -/
structure Undisturbed (s t : State) : Prop where
  fifo : t.rif.fifo = s.rif.fifo
  reply : t.rif.reply = s.rif.reply
  beacon : t.rpu.beacon = s.rpu.beacon
  count : ∀ k : Fin 28, k ∉ updateCodes → t.rpu.slots[k].count = s.rpu.slots[k].count
  drive : t.hlc.drive = s.hlc.drive
  reports : t.dru.repA = s.dru.repA ∧ t.dru.repB = s.dru.repB

namespace Undisturbed

theorem refl (s : State) : Undisturbed s s := ⟨rfl, rfl, rfl, fun _ _ => rfl, rfl, rfl, rfl⟩

theorem trans {s t u : State} (h1 : Undisturbed s t) (h2 : Undisturbed t u) : Undisturbed s u :=
  ⟨h2.fifo.trans h1.fifo, h2.reply.trans h1.reply, h2.beacon.trans h1.beacon,
    fun k hk => (h2.count k hk).trans (h1.count k hk), h2.drive.trans h1.drive, h2.reports.1.trans h1.reports.1,
    h2.reports.2.trans h1.reports.2⟩

/-- The transmit sequence and the insertion classes beside REPLY are not spoken of. -/
theorem of_placed {s t : State} (hfifo : t.rif.fifo = s.rif.fifo) (hreply : t.rif.reply = s.rif.reply)
    (h : t.rpu = s.rpu ∧ t.hlc.drive = s.hlc.drive ∧ t.dru.repA = s.dru.repA ∧ t.dru.repB = s.dru.repB) :
    Undisturbed s t :=
  ⟨hfifo, hreply, by rw [h.1], fun _ _ => by rw [h.1], h.2.1, h.2.2⟩

theorem of_same {s t : State} (h : t.rif = s.rif ∧ t.rpu = s.rpu ∧ t.hlc.drive = s.hlc.drive ∧
    t.dru.repA = s.dru.repA ∧ t.dru.repB = s.dru.repB) : Undisturbed s t :=
  of_placed (by rw [h.1]) (by rw [h.1]) h.2

theorem raise {k : EventKind} (hk : k.code ∈ updateCodes) (detail : BitVec 32) (s : State) :
    Undisturbed s (raise k detail s) where
  fifo := by simp
  reply := by simp
  beacon := by simp
  drive := by simp
  reports := by simp
  count j hj := by rw [raise_count, if_neg (by rintro rfl; exact hj hk)]

theorem placeForce (s : State) : Undisturbed s (placeForce s) := by
  refine of_placed ?_ ?_ (by simp) <;> simp only [Machine.placeForce, State.withRif] <;> split <;> rfl

theorem placeDoor (car : Car) (side : Side) (action : DoorAction) (s : State) :
    Undisturbed s (placeDoor car side action s) := by
  refine of_placed ?_ ?_ (by simp) <;> simp only [Machine.placeDoor, State.withRif] <;> split <;> rfl

/-! ### Trips and demands -/

theorem enterRest (st : HaulState) (berth : Option Nat) (o : Bool) (s : State) :
    Undisturbed s (enterRest st berth o s) :=
  of_same (by simp)

theorem returnToOrigin (s : State) : Undisturbed s (returnToOrigin s) := by
  unfold Machine.returnToOrigin
  exact (enterRest _ _ _ _).trans (placeForce _)

theorem enterTripped (s : State) : Undisturbed s (enterTripped s) := (enterRest _ _ _ _).trans (placeForce _)

theorem superviseStop (s : State) : Undisturbed s (superviseStop s) := of_same (by simp)

theorem enterServiceStop (cause : StopCause) (s : State) : Undisturbed s (enterServiceStop cause s) := by
  unfold Machine.enterServiceStop
  refine Undisturbed.trans ?_ (superviseStop _)
  exact (of_same (by simp)).trans (placeForce _)

theorem abortService (s : State) : Undisturbed s (abortService s) :=
  (of_same (by simp)).trans (raise (by decide) _ _)

theorem testOnTrip (cause : TripCause) (s : State) : Undisturbed s (testOnTrip cause s) := by
  unfold Machine.testOnTrip
  split
  · split
    · exact of_same (by simp)
    · split
      · exact refl s
      · exact abortService s
  · exact refl s

theorem raiseTrip (cause : TripCause) (first : Byte) (s : State) : Undisturbed s (raiseTrip cause first s) :=
  raise (by decide) _ _

theorem trip (cause : TripCause) (s : State) : Undisturbed s (trip cause s) := by
  unfold Machine.trip
  refine Undisturbed.trans ?_ (testOnTrip cause _)
  split
  · exact (of_same (by simp)).trans (raiseTrip _ _ _)
  · exact ((of_same (by simp)).trans (raiseTrip _ _ _)).trans (enterTripped _)

theorem raiseStop (cause : StopCause) (o : DemandOutcome) (s : State) : Undisturbed s (raiseStop cause o s) :=
  raise (by decide) _ _

theorem demand (cause : StopCause) (s : State) : Undisturbed s (demand cause s) := by
  unfold Machine.demand
  cases s.hlc.state with
  | armed => exact (returnToOrigin s).trans (raiseStop _ _ _)
  | running => exact (enterServiceStop cause s).trans (raiseStop _ _ _)
  | serviceStop =>
    have hcounted : Undisturbed s (Machine.raiseStop cause .counted
        (s.withHlc { s.hlc with further := min (s.hlc.further + 1) 255 })) :=
      (of_same (by simp)).trans (raiseStop _ _ _)
    simp only
    split
    · exact hcounted.trans (abortService _)
    · exact hcounted
  | parked => exact raiseStop _ _ _
  | boarding => exact raiseStop _ _ _
  | tripped => exact raiseStop _ _ _

/-! ### The blocks at a motion update -/

theorem envUpdate (s : State) : Undisturbed s (envUpdate s) := by
  unfold Machine.envUpdate
  split
  · exact (of_same (by simp)).trans (demand _ _)
  · exact of_same (by simp)

theorem setTier (tier : Tier) (above : Bool) (s : State) : Undisturbed s (setTier tier above s) :=
  of_same (by simp)

theorem warn (above : Bool) (s : State) : Undisturbed s (warn above s) := by
  unfold Machine.warn
  simp only
  split
  · exact (setTier _ _ _).trans (raise (by decide) _ _)
  · exact setTier _ _ _

theorem judgeTier (s : State) : Undisturbed s (judgeTier s) := by
  unfold Machine.judgeTier tierCases
  simp only
  (repeat' split)
  · exact trip _ _
  · exact warn _ _
  · exact (warn _ _).trans (demand _ _)
  · exact warn _ _
  · exact setTier _ _ _
  · exact setTier _ _ _
  · exact refl s

theorem judgeLoss (s : State) : Undisturbed s (judgeLoss s) := by
  unfold Machine.judgeLoss
  split
  · split
    · exact of_same (by simp)
    · split
      · exact refl s
      · unfold takeLoss
        have hfound : Undisturbed s (Machine.raise .speedLost (BitVec.ofInt 32 s.moe.last.posA)
            (Machine.demand .speedLost (s.withBrs { s.brs with lossFlag := true }))) :=
          ((of_same (by simp)).trans (demand _ _)).trans (raise (by decide) _ _)
        simp only
        split
        · exact hfound
        · exact hfound.trans (of_same (by simp))
  · exact refl s

theorem applyBrake (id : StageId) (s : State) : Undisturbed s (applyBrake id s) := by
  cases id with
  | service => exact demand _ _
  | emergency => exact trip _ _

theorem judgeTrigger (id : StageId) (s : State) : Undisturbed s (judgeTrigger id s) := by
  unfold Machine.judgeTrigger
  split
  · exact (of_same (by simp)).trans (applyBrake _ _)
  · exact refl s

theorem judgeStopEnd (id : StageId) (s : State) : Undisturbed s (judgeStopEnd id s) := by
  unfold Machine.judgeStopEnd
  split
  · unfold endStage
    simp only
    split
    · exact (of_same (by simp)).trans (raise (by decide) _ _)
    · exact (of_same (by simp)).trans (raise (by decide) _ _)
  · exact refl s

theorem judgeTest (s : State) : Undisturbed s (judgeTest s) := by
  unfold Machine.judgeTest
  split
  · exact judgeTrigger _ _
  · exact judgeStopEnd _ _
  · exact judgeTrigger _ _
  · exact judgeStopEnd _ _
  · exact refl s

theorem brsUpdate (s : State) : Undisturbed s (brsUpdate s) := by
  have hended : ∀ u : State, Undisturbed u
      (if u.moe.last.still then u.withBrs { u.brs with sup := u.brs.sup.ended } else u) := fun u => by
    split
    · exact of_same (by simp)
    · exact refl u
  have htrip : Undisturbed s (if s.hlc.state ≠ .tripped ∧ (Machine.judgeTier s).overruns = true
      then Machine.trip .overrun (Machine.judgeTier s) else Machine.judgeTier s) := by
    split
    · exact (judgeTier s).trans (trip _ _)
    · exact judgeTier s
  exact ((htrip.trans (judgeLoss _)).trans (judgeTest _)).trans (hended _)

theorem setMovingOpen (b : Bool) (s : State) : Undisturbed s (setMovingOpen b s) :=
  of_same ⟨rfl, rfl, rfl, rfl, rfl⟩

theorem judgeMovingOpen (b : Bool) (s : State) : Undisturbed s (judgeMovingOpen b s) := by
  unfold Machine.judgeMovingOpen
  (repeat' split)
  · exact setMovingOpen _ _
  · exact (setMovingOpen _ _).trans (trip _ _)
  · exact setMovingOpen _ _
  · exact refl s

theorem withdrawReleased (s : State) (cs : Car × Side) : Undisturbed s (withdrawReleased s cs) := by
  unfold Machine.withdrawReleased
  simp only
  split
  · exact (placeDoor cs.1 cs.2 .withdraw s).trans (of_same (by simp [withdraw, startClosing, setDoor]))
  · exact refl s

theorem judgeWithdrawal (s : State) : Undisturbed s (judgeWithdrawal s) := by
  have hfold : ∀ (l : List (Car × Side)) (u : State), Undisturbed u (l.foldl Machine.withdrawReleased u) := by
    intro l
    induction l with
    | nil => exact refl
    | cons x rest ih => exact fun u => (withdrawReleased u x).trans (ih _)
  unfold Machine.judgeWithdrawal
  split
  · exact hfold _ _
  · exact refl s

theorem hlcUpdate (s : State) : Undisturbed s (hlcUpdate s) := by
  have harrived : ∀ stop via u, Undisturbed u (raiseArrived stop via u) := fun _ _ _ => raise (by decide) _ _
  unfold Machine.hlcUpdate endServiceStop arrive
  (repeat' split)
  · exact (enterRest _ _ _ _).trans (harrived _ _ _)
  · exact enterRest _ _ _ _
  · exact (enterRest _ _ _ _).trans (harrived _ _ _)
  · exact refl s
  · exact refl s
  · exact refl s

/-- A motion update leaves the FIFO, the replies and the counts of the events it does not raise. -/
theorem motionUpdate (s : State) : Undisturbed s (motionUpdate s) := by
  unfold Machine.motionUpdate
  have hstored : Undisturbed s (storeMotion (judgeStill s)) := of_same (by simp)
  exact ((((hstored.trans (envUpdate _)).trans (brsUpdate _)).trans (judgeMovingOpen _ _)).trans
    (judgeWithdrawal _)).trans (hlcUpdate _)

end Undisturbed

end Sys2Proof.Machine

end

/-! ## Channel expiry (R7, R12, R13) -/

section

namespace Sys2Proof.Machine

/-! ### The expired channel -/

/-- The Motion Estimator with a channel expired and counted. -/
def Moe.expiring (m : Moe) (ch : ChannelId) : Moe :=
  (m.setChannel ch (m.channel ch).expired).count (.channel ch .expired)

theorem expireChannel_of_car {ch : ChannelId} {car : Car} (h : carOfChannel ch = some car) (s : State) :
    expireChannel ch s = raise .carChannelLost (detail4 (carCode car) 0 0 0)
      (s.withMoe ((s.moe.expiring ch).setSlip car .clear)) := by
  simp only [expireChannel, afterExpiry, h]
  rfl

theorem expireChannel_of_sheave {ch : ChannelId} (h : carOfChannel ch = none) (s : State) :
    expireChannel ch s = s.withMoe ({ s.moe.expiring ch with disagree := .clear } : Moe).chooseSource := by
  simp only [expireChannel, afterExpiry, h]
  rfl

theorem Moe.expiring_channel (m : Moe) (ch ch' : ChannelId) :
    (m.expiring ch).channel ch' = if ch' = ch then (m.channel ch).expired else m.channel ch' := by
  by_cases h : ch' = ch
  · simp [Moe.expiring, h]
  · simp [Moe.expiring, h, Moe.channel_setChannel_of_ne]

@[simp] theorem Moe.expiring_frame (m : Moe) (ch : ChannelId) :
    (m.expiring ch).source = m.source ∧ (m.expiring ch).posA = m.posA ∧ (m.expiring ch).gap = m.gap ∧
    (m.expiring ch).status = m.status ∧ (m.expiring ch).counters =
      bumpBy m.counters (MotionCounter.channel ch .expired).idx 1 := by
  simp [Moe.expiring]

theorem carOfChannel_of_sheave {ch : ChannelId} (h : ch = .s1 ∨ ch = .s2) : carOfChannel ch = none := by
  obtain rfl | rfl := h <;> rfl

theorem carOfChannel_isSome {ch : ChannelId} : (carOfChannel ch).isSome = true ↔ ch = .ca ∨ ch = .cb := by
  cases ch <;> simp [carOfChannel]

@[simp] theorem expireChannel_channel (s : State) (ch ch' : ChannelId) :
    (expireChannel ch s).moe.channel ch' = if ch' = ch then (s.moe.channel ch).expired else s.moe.channel ch' := by
  rw [← Moe.expiring_channel]
  cases h : carOfChannel ch with
  | some car => simp [expireChannel_of_car h]
  | none =>
    rw [expireChannel_of_sheave h, State.withMoe_moe, Moe.chooseSource_channel]
    rfl

@[simp] theorem expireChannel_moe_kept (s : State) (ch : ChannelId) :
    (expireChannel ch s).moe.posA = s.moe.posA ∧ (expireChannel ch s).moe.counters =
      bumpBy s.moe.counters (MotionCounter.channel ch .expired).idx 1 := by
  cases h : carOfChannel ch with
  | some car => simp [expireChannel_of_car h]
  | none => simp [expireChannel_of_sheave h]

@[simp] theorem Moe.chooseSource_choice (m : Moe) : m.chooseSource.choice = m.choice :=
  Moe.choice_congr (by simp) (by simp)

/-- Where no source is left, the gap mark is set for a trusted position (R13). -/
theorem Moe.chooseSource_of_none {m : Moe} (h : m.chooseSource.source = none) :
    m.chooseSource.status = m.status ∧ m.chooseSource.gap = (m.gap || (m.source.isSome && m.status.trusted)) := by
  have hnone : m.choice = none := by simpa using h
  simp [Moe.chooseSource_status, Moe.chooseSource_gap, hnone]

/-- The expiry of a sheave clears the disagreement record and re-chooses the source (R7, R12, R13). -/
theorem expireChannel_sheave {ch : ChannelId} (h : carOfChannel ch = none) (s : State) :
    let m := (expireChannel ch s).moe
    m.disagree = .clear ∧ m.source = m.choice ∧ (m.source = none → m.status = s.moe.status ∧
      m.gap = (s.moe.gap || (s.moe.source.isSome && s.moe.status.trusted))) ∧
    (expireChannel ch s).rpu = s.rpu := by
  simp only [expireChannel_of_sheave h, State.withMoe_moe]
  exact ⟨by simp, by rw [Moe.chooseSource_choice]; simp,
    fun hnone => by simpa using Moe.chooseSource_of_none hnone, by simp⟩

/-- The expiry of a car clears its slip record and raises CAR_CHANNEL_LOST (R7). -/
theorem expireChannel_car {ch : ChannelId} {car : Car} (h : carOfChannel ch = some car) (s : State) :
    (expireChannel ch s).moe.slip car = .clear ∧
    (expireChannel ch s).rpu.slots[EventKind.carChannelLost.code].count =
      satAdd s.rpu.slots[EventKind.carChannelLost.code].count 1 := by
  rw [expireChannel_of_car h]
  refine ⟨by cases car <;> simp [Moe.slip, Moe.setSlip], ?_⟩
  rw [raise_count, if_pos rfl]
  rfl

/-! ### The obligation -/

theorem channelExpiry_of_due {s : State} {e : Time} {ch : ChannelId} (hf : (s.moe.channel ch).state = .fresh)
    (hdue : due (s.moe.channel ch).expiry (s.clock + e) = true) :
    rowAct (.channelExpiry e ch) (begin e s) = motionUpdate (expireChannel ch (begin e s)) := by
  simp [rowAct, rowFrame, edgeAct, channelExpiry, State.channelDue, hf, hdue]

/-- Settles O13: the update that follows the expiry moves no channel, no source and no position, and raises no
CAR_CHANNEL_LOST. -/
theorem channelExpiryMakesItStale : Obligations.ChannelExpiryMakesItStale := by
  unfold Obligations.ChannelExpiryMakesItStale
  intro s e ch hrun
  refine ⟨fun h => exec_of_idle (e := e) rfl hrun ?_, fun hf hdue => ?_, fun car hch hf hdue => ?_⟩
  · have hnot : (begin e s).channelDue ch = false := by
      obtain h | h := h <;> simp [State.channelDue, h]
    simp [rowAct, rowFrame, edgeAct, channelExpiry, hnot]
  · have hact := channelExpiry_of_due hf hdue
    refine settles_of_act (e := e) rfl hrun (by rw [hact]; simp) ?_
    rw [hact]
    have hlost := (Undisturbed.motionUpdate (expireChannel ch (begin e s))).count EventKind.carChannelLost.code
      (by decide)
    refine ⟨by simp [Channel.expired], fun ch' hne => by simp [hne], by simp, by simp, ?_, ?_, fun hsheave => ?_,
      fun hcar => ?_, fun hsheave => ?_, by simp⟩
    · rintro rfl
      simpa [Moe.slip] using (expireChannel_car (ch := .ca) (car := .a) rfl (begin e s)).1
    · rintro rfl
      simpa [Moe.slip] using (expireChannel_car (ch := .cb) (car := .b) rfl (begin e s)).1
    · obtain ⟨hdisagree, hsource, hgap, -⟩ := expireChannel_sheave (carOfChannel_of_sheave hsheave) (begin e s)
      have hchoice := Moe.choice_congr (m := (expireChannel ch (begin e s)).moe)
        (m' := (motionUpdate (expireChannel ch (begin e s))).moe) (by simp) (by simp)
      exact ⟨by simpa using hdisagree, by rw [hchoice]; simpa using hsource, by simpa using hgap⟩
    · obtain ⟨car, hcar⟩ := Option.isSome_iff_exists.mp (carOfChannel_isSome.mpr hcar)
      rw [hlost, (expireChannel_car hcar _).2]
      rfl
    · rw [hlost, (expireChannel_sheave (carOfChannel_of_sheave hsheave) _).2.2.2]
      rfl
  · have hact := channelExpiry_of_due hf hdue
    have hexpire : expireChannel ch (begin e s) = raise .carChannelLost
        (carCode car ++ (0 : Byte) ++ (0 : Byte) ++ (0 : Byte)) { begin e s with
          moe := if car = .a
            then { s.moe with ca := (s.moe.channel ch).expired, slipA := .clear,
                              counters := bumpBy s.moe.counters (MotionCounter.channel ch .expired).idx 1 }
            else { s.moe with cb := (s.moe.channel ch).expired, slipB := .clear,
                              counters := bumpBy s.moe.counters (MotionCounter.channel ch .expired).idx 1 } } := by
      rw [expireChannel_of_car (car := car) (by cases car <;> subst hch <;> rfl)]
      cases car <;> subst hch <;> rfl
    have hexec : exec (.channelExpiry e ch) s =
        .next (settle (begin e s) (motionUpdate (expireChannel ch (begin e s)))) := by
      rw [exec_of_running (e := e) rfl hrun, hact]
    rw [hexpire] at hexec
    refine ⟨hexec, fun hnone => ?_⟩
    rw [hexec]
    exact congrArg _ (settle_of_none (by simp [hnone]))

end Sys2Proof.Machine

end

/-! ## Frames read on their way past, and requests of the manager (R160–R164) -/

section

namespace Sys2Proof.Machine

/-! ### Frames read on their way past -/

section

variable {s : State} {c : Instr} {arr : Arrival} {kind : Byte} {payload : List Byte}

/-- What an intact frame of another node comes to. -/
theorem rowAct_of_arrives (hc : rowFrame c = some (arr, kind, payload)) (h : Arrives s arr kind payload)
    (hfrom : arr.src ≠ s.oaByte) :
    rowAct c (begin arr.elapsed s) = dealKind (frameOf arr kind payload) (begin arr.elapsed s) := by
  have hsrc : ¬ (frameOf arr kind payload).src = (begin arr.elapsed s).oaByte := hfrom
  simp only [rowAct, hc]
  rw [takeFrame_of_intact (by simpa using h.straps) (by simpa using h.room) h.sound, disposeGood, if_neg hsrc]

/-- The state in which a frame that passes by is handed to its block (R160, R161). -/
def State.passed (s : State) (arr : Arrival) (kind : Byte) (payload : List Byte) : State :=
  { begin arr.elapsed s with rif := s.forwarded (frameOf arr kind payload) .plain }

@[simp] theorem passed_frame (s : State) (arr : Arrival) (kind : Byte) (payload : List Byte) :
    (s.passed arr kind payload).rif = s.forwarded (frameOf arr kind payload) .plain ∧
    (s.passed arr kind payload).clock = s.clock + arr.elapsed ∧ (s.passed arr kind payload).mga = s.mga ∧
    (s.passed arr kind payload).moe = s.moe ∧ (s.passed arr kind payload).rpu = s.rpu ∧
    (s.passed arr kind payload).hlc = s.hlc :=
  ⟨rfl, rfl, rfl, rfl, rfl, rfl⟩

@[simp] theorem passed_line (s : State) (arr : Arrival) (kind : Byte) (payload : List Byte) :
    (s.passed arr kind payload).line = s.line := rfl

/-- A frame that passes by is forwarded and handed to its block. -/
theorem dealRead_of_passes (h : PassesBy s arr kind payload) {len : Nat} (hlen : payload.length = len)
    (hand : State → State) : dealRead (frameOf arr kind payload) len (some hand) (begin arr.elapsed s) =
      hand (s.passed arr kind payload) := by
  have hdst : ¬ (frameOf arr kind payload).dst = (begin arr.elapsed s).oaByte := h.toOther
  have hlen' : ¬ (frameOf arr kind payload).payload.length ≠ len := not_not.mpr hlen
  rw [dealRead, if_neg hlen']
  simp only [readFrame]
  rw [if_neg hdst]
  rfl

end

/-! ### Requests of the manager -/

section

variable {s : State} {c : Instr} {arr : Arrival} {code tag : Byte} {body : List Byte}

/-- The state in which a request is decided (R164). -/
def State.asked (s : State) (arr : Arrival) : State := countRing .absorbed (begin arr.elapsed s)

@[simp] theorem asked_frame (s : State) (arr : Arrival) :
    (s.asked arr).mga = s.mga ∧ (s.asked arr).moe = s.moe ∧ (s.asked arr).hlc = s.hlc ∧ (s.asked arr).env = s.env ∧
    (s.asked arr).brs = s.brs ∧ (s.asked arr).test = s.test ∧ (s.asked arr).dru = s.dru ∧ (s.asked arr).adu = s.adu ∧
    (s.asked arr).rpu = s.rpu ∧ (s.asked arr).clock = s.clock + arr.elapsed := by
  simp [State.asked]

@[simp] theorem asked_kept (s : State) (arr : Arrival) :
    (s.asked arr).rif.fifo = s.rif.fifo ∧ (s.asked arr).rif.reply = s.rif.reply := ⟨rfl, rfl⟩

@[simp] theorem asked_line (s : State) (arr : Arrival) : (s.asked arr).line = s.line := rfl

@[simp] theorem asked_stops (s : State) (arr : Arrival) : (s.asked arr).stops = s.stops := rfl

/-- A state with the reply to a request of the manager placed last in REPLY. -/
def State.replied (t s : State) (arr : Arrival) (code tag result : Byte) (body : List Byte) : State :=
  t.withRif { t.rif with reply := t.rif.reply ++ [mgmtReply s arr code tag result body] }

@[simp] theorem replied_frame (t s : State) (arr : Arrival) (code tag result : Byte) (body : List Byte) :
    (t.replied s arr code tag result body).mga = t.mga ∧ (t.replied s arr code tag result body).moe = t.moe ∧
    (t.replied s arr code tag result body).hlc = t.hlc ∧ (t.replied s arr code tag result body).env = t.env ∧
    (t.replied s arr code tag result body).brs = t.brs ∧ (t.replied s arr code tag result body).test = t.test ∧
    (t.replied s arr code tag result body).dru = t.dru ∧ (t.replied s arr code tag result body).adu = t.adu ∧
    (t.replied s arr code tag result body).rpu = t.rpu ∧
    (t.replied s arr code tag result body).rif.fifo = t.rif.fifo ∧
    (t.replied s arr code tag result body).rif.reply = t.rif.reply ++ [mgmtReply s arr code tag result body] :=
  ⟨rfl, rfl, rfl, rfl, rfl, rfl, rfl, rfl, rfl, rfl, rfl⟩

/-- A request that is taken is decided and answered (R164, R174). -/
theorem rowAct_of_manager (hc : rowFrame c = some (arr, 0x60, code :: tag :: body))
    (h : ManagerArrives s arr (code :: tag :: body)) :
    let d := decideRequest code body (s.asked arr)
    rowAct c (begin arr.elapsed s) = d.state.replied s arr code tag d.result.code d.body := by
  have hdst : arr.dst = s.oaByte := h.toPart
  have htaken : dealKind (frameOf arr 0x60 (code :: tag :: body)) (begin arr.elapsed s) =
      takeRequest (frameOf arr 0x60 (code :: tag :: body)) (s.asked arr) := by
    simp [frameOf, dealKind, dealMgmtReq, dealRequest, hdst, h.manager, takeIfRoom, h.replyRoom, State.asked]
  rw [rowAct_of_arrives hc h.toArrives h.fromOther, htaken]
  have hoa : (decideRequest code body (s.asked arr)).state.oaByte = s.oaByte := by
    simp [State.oaByte, State.asked]
  simp only [takeRequest, placeReply, State.replied, mgmtReply, ← hoa]
  rfl

/-- A request that is refused is answered, and nothing else. -/
theorem exec_of_refused (he : rowElapsed c = some arr.elapsed) (hc : rowFrame c = some (arr, 0x60, code :: tag :: body))
    (h : ManagerArrives s arr (code :: tag :: body)) {r : MgmtResult}
    (hd : decideRequest code body (s.asked arr) = refuse r (s.asked arr)) :
    exec c s = .next { begin arr.elapsed s with rif := s.answered (mgmtReply s arr code tag r.code []) } := by
  rw [exec_of_running he h.running, rowAct_of_manager hc h, hd]
  exact congrArg _ (settle_of_same rfl)

end

end Sys2Proof.Machine

end

/-! ## Markers and REFERENCE (R14–R16) -/

section

namespace Sys2Proof.Machine

/-! ### Both sheaves re-based -/

/-- Both sheaves with a history are re-based at the position (R14, R16). -/
theorem Moe.moveTo_reference {m : Moe} {sh : Sheave} {newest : Sample}
    (h : (m.channel sh.channel).history.getLast? = some newest) (pos : Int) :
    (m.moveTo pos).reference sh = { count := newest.count, pos := pos } := by
  have hlast : (m.moveTo pos).reference sh = ((m.rebase .s1 pos).rebase .s2 pos).reference sh := by
    cases sh <;> rfl
  rw [hlast]
  cases sh with
  | s1 => rw [Moe.rebase_reference_of_ne (by decide), Moe.rebase_reference h]
  | s2 => rw [Moe.rebase_reference (by simpa using h)]

@[simp] theorem motionUpdate_reference (s : State) (sh : Sheave) :
    (motionUpdate s).moe.reference sh = s.moe.reference sh := by
  cases sh <;> simp [Moe.reference]

/-! ### Markers (R15, R16) -/

section

variable {s : State} {arr : Arrival} {id car : Byte}

/-- A marker frame of the marker reader is handed to the Motion Estimator. -/
theorem rowAct_marker (h : PassesBy s arr 0x12 [id, car]) (hrole : s.roleOf arr.src = some .markerReader) :
    rowAct (.marker arr [id, car]) (begin arr.elapsed s) = takeMarker id car (s.passed arr 0x12 [id, car]) := by
  rw [rowAct_of_arrives (kind := 0x12) (payload := [id, car]) rfl h.toArrives h.fromOther]
  have hhand : (begin arr.elapsed s).roleOf (frameOf arr 0x12 [id, car]).src = some .markerReader := hrole
  have hdeal : dealKind (frameOf arr 0x12 [id, car]) (begin arr.elapsed s) =
      dealMarker (frameOf arr 0x12 [id, car]) (begin arr.elapsed s) := rfl
  rw [hdeal, dealMarker, if_pos hhand]
  exact dealRead_of_passes h rfl _

theorem takeMarker_of_unknown {t : State} (h : carOf car = none ∨ findMarker id (t.mga.active.marker.getD []) = none) :
    takeMarker id car t = markerUnknown id car t := by
  unfold takeMarker
  cases hc : carOf car <;> cases hm : findMarker id (t.mga.active.marker.getD []) <;> simp_all

theorem takeMarker_of_held {t : State} {c : Car} {e : MarkerEntry} (hc : carOf car = some c)
    (he : findMarker id (t.mga.active.marker.getD []) = some e) (hheld : t.moe.held = true) :
    takeMarker id car t = countMotion .markerHeldIgnored t := by
  simp only [takeMarker, hc, he]
  rw [if_pos hheld]

theorem takeMarker_of_known {t : State} {c : Car} {e : MarkerEntry} {l : Line} (hc : carOf car = some c)
    (he : findMarker id (t.mga.active.marker.getD []) = some e) (hheld : t.moe.held = false) (hl : t.line = some l) :
    takeMarker id car t = judgeMarker l (impliedPos l e.x c) t := by
  have hheld' : ¬ t.moe.held = true := by rw [hheld]; exact Bool.false_ne_true
  simp only [takeMarker, hc, he]
  rw [if_neg hheld']
  simp only [hl]

/-- The Motion Estimator after an applied marker, before the update (R16). -/
def Moe.corrected (m : Moe) (implied : Int) (c : MotionCounter) : Moe :=
  { m.moveTo implied with status := .corrected, counters := bumpBy m.counters c.idx 1 }

theorem applyMarker_eq (implied diff : Int) (c : MotionCounter) (t : State) : applyMarker implied diff c t =
    motionUpdate (raise .markerCorrected (BitVec.ofInt 32 (limit32 diff)) (t.withMoe (t.moe.corrected implied c))) := by
  have hcounters : (t.moe.moveTo implied).counters = t.moe.counters := by simp
  simp only [applyMarker, Moe.corrected, Moe.count, hcounters]

/-- The counter under which a known marker is taken (R16). -/
def Moe.markerCounter (m : Moe) (implied : Int) (corrMax : Nat) : MotionCounter :=
  if m.status.trusted = false then .markerSet
  else if (implied - m.posA).natAbs ≤ corrMax then .markerCorrected else .markerRejected

theorem Moe.markerCounter_of_applied {m : Moe} {implied : Int} {corrMax : Nat}
    (h : m.status.trusted = false ∨ (implied - m.posA).natAbs ≤ corrMax) :
    m.markerCounter implied corrMax = if m.status.trusted then .markerCorrected else .markerSet := by
  unfold Moe.markerCounter
  cases htrusted : m.status.trusted
  · simp
  · have hle : (implied - m.posA).natAbs ≤ corrMax := by simpa [htrusted] using h
    rw [if_neg Bool.true_eq_false.mp, if_pos hle, if_pos rfl]

theorem judgeMarker_of_applied {t : State} {l : Line} {implied : Int}
    (h : t.moe.status.trusted = false ∨ (implied - t.moe.posA).natAbs ≤ l.corrMax) :
    judgeMarker l implied t = motionUpdate (raise .markerCorrected
      (BitVec.ofInt 32 (limit32 (implied - t.moe.posA)))
      (t.withMoe (t.moe.corrected implied (t.moe.markerCounter implied l.corrMax)))) := by
  rw [← applyMarker_eq, Moe.markerCounter_of_applied h]
  unfold judgeMarker
  cases htrusted : t.moe.status.trusted
  · simp only [Bool.false_eq_true, if_false]
  · have hle : (implied - t.moe.posA).natAbs ≤ l.corrMax := by simpa [htrusted] using h
    simp only [if_true]
    rw [if_pos hle]

theorem Moe.markerCounter_of_rejected {m : Moe} {implied : Int} {corrMax : Nat} (htrusted : m.status.trusted = true)
    (h : corrMax < (implied - m.posA).natAbs) : m.markerCounter implied corrMax = .markerRejected := by
  rw [Moe.markerCounter, if_neg (by simp [htrusted]), if_neg (Nat.not_le.mpr h)]

/-- The Motion Estimator after a rejected marker, before the update (R16). -/
def Moe.distrusted (m : Moe) (c : MotionCounter) : Moe :=
  { m with status := .suspect, counters := bumpBy m.counters c.idx 1 }

theorem judgeMarker_of_rejected {t : State} {l : Line} {implied : Int} (htrusted : t.moe.status.trusted = true)
    (h : l.corrMax < (implied - t.moe.posA).natAbs) :
    judgeMarker l implied t = motionUpdate (raise .markerMismatch
      ((1 : Byte) ++ BitVec.ofInt 24 (limitTo 8388607 (implied - t.moe.posA)))
      (t.withMoe (t.moe.distrusted (t.moe.markerCounter implied l.corrMax)))) := by
  rw [Moe.markerCounter_of_rejected htrusted h]
  simp only [judgeMarker]
  rw [if_pos htrusted, if_neg (Nat.not_le.mpr h)]
  rfl

end

/-! ### MARKER rows -/

section

variable {s : State} {arr : Arrival} {id car : Byte} {c : Car} {e : MarkerEntry} {l : Line}

/-- The state in which a known marker is judged. -/
theorem rowAct_marker_of_known (h : PassesBy s arr 0x12 [id, car]) (hrole : s.roleOf arr.src = some .markerReader)
    (hc : carOf car = some c) (he : findMarker id (s.mga.active.marker.getD []) = some e) (hheld : s.moe.held = false)
    (hl : s.line = some l) : rowAct (.marker arr [id, car]) (begin arr.elapsed s) =
      judgeMarker l (impliedPos l e.x c) (s.passed arr 0x12 [id, car]) := by
  rw [rowAct_marker h hrole]
  exact takeMarker_of_known hc he hheld hl

/-- The update that follows an event raised on a new record of the Motion Estimator, in the state s. -/
theorem settles_of_update {c : Instr} {P : State → Prop} {k : EventKind} {detail : BitVec 32} {m : Moe}
    {kind : Byte} {payload : List Byte} (he : rowElapsed c = some arr.elapsed) (hrun : s.inReset = false)
    (hact : rowAct c (begin arr.elapsed s) =
      motionUpdate (raise k detail ((s.passed arr kind payload).withMoe m)))
    (hP : P (motionUpdate (raise k detail ((s.passed arr kind payload).withMoe m)))) : Settles c s P :=
  settles_of_act he hrun (by rw [hact]; simp) (by rw [hact]; exact hP)

/-- What the update leaves of an event that it cannot raise itself. -/
theorem update_count {k : EventKind} (hk : k.code ∉ updateCodes) (detail : BitVec 32) (t : State) :
    (motionUpdate (raise k detail t)).rpu.slots[k.code].count = satAdd t.rpu.slots[k.code].count 1 := by
  rw [(Undisturbed.motionUpdate _).count _ hk, raise_count, if_pos rfl]

/-- The end of the step of a known marker. -/
theorem exec_of_known (hrun : s.inReset = false) {u : State}
    (hact : rowAct (.marker arr [id, car]) (begin arr.elapsed s) = u) :
    exec (.marker arr [id, car]) s = .next (settle (begin arr.elapsed s) u) := by
  rw [exec_of_running (e := arr.elapsed) rfl hrun, hact]

/-- An applied marker (R16). -/
theorem marker_applied {implied : Int} (hrun : s.inReset = false)
    (hact : rowAct (.marker arr [id, car]) (begin arr.elapsed s) =
      judgeMarker l implied (s.passed arr 0x12 [id, car]))
    (h : s.moe.status.trusted = false ∨ (implied - s.moe.posA).natAbs ≤ l.corrMax) :
    Settles (.marker arr [id, car]) s fun t =>
      t.moe.posA = implied ∧ t.moe.status = .corrected ∧ t.moe.gap = s.moe.gap ∧
      (∀ ch, t.moe.channel ch = s.moe.channel ch) ∧
      (∀ sh newest, (s.moe.channel sh.channel).history.getLast? = some newest →
        t.moe.reference sh = { count := newest.count, pos := implied }) ∧
      t.moe.counters = bumpBy s.moe.counters
        (if s.moe.status.trusted then MotionCounter.markerCorrected else MotionCounter.markerSet).idx 1 ∧
      t.rpu.slots[EventKind.markerCorrected.code].count =
        satAdd s.rpu.slots[EventKind.markerCorrected.code].count 1 ∧ t.mga = s.mga := by
  refine settles_of_update rfl hrun (hact.trans (judgeMarker_of_applied h)) ?_
  refine ⟨by simp [Moe.corrected], by simp [Moe.corrected], by simp [Moe.corrected], fun ch => ?_,
    fun sh newest hnewest => ?_, ?_, update_count (by decide) _ _, by simp⟩
  · rw [motionUpdate_channel, (raise_frame _ _ _).2.2.2.2.2.2.2.1, State.withMoe_moe]
    exact Moe.moveTo_channel s.moe implied ch
  · rw [motionUpdate_reference, (raise_frame _ _ _).2.2.2.2.2.2.2.1, State.withMoe_moe,
      ← Moe.moveTo_reference hnewest implied]
    cases sh <;> rfl
  · rw [← Moe.markerCounter_of_applied h]
    simp [Moe.corrected]

/-- A rejected marker (R16). -/
theorem marker_rejected {implied : Int} (hrun : s.inReset = false)
    (hact : rowAct (.marker arr [id, car]) (begin arr.elapsed s) =
      judgeMarker l implied (s.passed arr 0x12 [id, car]))
    (htrusted : s.moe.status.trusted = true) (h : l.corrMax < (implied - s.moe.posA).natAbs) :
    Settles (.marker arr [id, car]) s fun t =>
      t.moe.posA = s.moe.posA ∧ t.moe.status = .suspect ∧ t.moe.ref1 = s.moe.ref1 ∧ t.moe.ref2 = s.moe.ref2 ∧
      (∀ ch, t.moe.channel ch = s.moe.channel ch) ∧
      t.moe.counters = bumpBy s.moe.counters MotionCounter.markerRejected.idx 1 ∧
      t.rpu.slots[EventKind.markerMismatch.code].count =
        satAdd s.rpu.slots[EventKind.markerMismatch.code].count 1 ∧ t.mga = s.mga := by
  refine settles_of_update rfl hrun (hact.trans (judgeMarker_of_rejected htrusted h)) ?_
  refine ⟨by simp [Moe.distrusted], by simp [Moe.distrusted], by simp [Moe.distrusted], by simp [Moe.distrusted],
    fun ch => Moe.channel_congr (by simp [Moe.distrusted]) (by simp [Moe.distrusted]) (by simp [Moe.distrusted])
      (by simp [Moe.distrusted]) ch, ?_, update_count (by decide) _ _, by simp⟩
  rw [← Moe.markerCounter_of_rejected htrusted h]
  simp [Moe.distrusted]

end

/-! ### REFERENCE (R14) -/

section

variable {s : State} {arr : Arrival} {tag stop : Byte}

theorem decideRequest_reference (t : State) : decideRequest 0x0B [stop] t = decideReference stop t := rfl

/-- A REFERENCE that is refused is answered, and nothing else. -/
theorem reference_refused (h : ManagerArrives s arr [0x0B, tag, stop]) {r : MgmtResult}
    (hd : decideReference stop (s.asked arr) = refuse r (s.asked arr)) :
    exec (.reference arr tag [stop]) s =
      .next { begin arr.elapsed s with rif := s.answered (mgmtReply s arr 0x0B tag r.code []) } :=
  exec_of_refused rfl rfl h hd

/-- The refusals of REFERENCE, in order (R14). -/
theorem decideReference_of_state {t : State} (h : ¬ (t.hlc.state = .parked ∨ t.hlc.state = .tripped)) :
    decideReference stop t = refuse .state t := by
  rw [decideReference, if_pos h]

theorem decideReference_of_tables {t : State} (hstate : t.hlc.state = .parked ∨ t.hlc.state = .tripped)
    (h : t.mga.active.stop = none ∨ t.line = none) : decideReference stop t = refuse .tables t := by
  have htables : (t.mga.active.stop.isNone || t.mga.active.line.isNone) = true := by
    obtain h | h := h
    · rw [h]; rfl
    · rw [show t.mga.active.line = none from h]; simp
  rw [decideReference, if_neg (not_not.mpr hstate), if_pos htables]

section

variable {t : State} {st : List Stop} {l : Line}

theorem decideReference_of_no_stop (hstate : t.hlc.state = .parked ∨ t.hlc.state = .tripped)
    (hst : t.mga.active.stop = some st) (hl : t.line = some l) (hx : st[stop.toNat]? = none) :
    decideReference stop t = refuse .badStop t := by
  have htables : ¬ (t.mga.active.stop.isNone || t.mga.active.line.isNone) = true := by
    rw [hst, show t.mga.active.line = some l from hl]
    simp
  have hstops : t.stops = st := by simp [State.stops, hst]
  rw [decideReference, if_neg (not_not.mpr hstate), if_neg htables, hstops, hx]

theorem decideReference_of_stop {x : Stop} (hstate : t.hlc.state = .parked ∨ t.hlc.state = .tripped)
    (hst : t.mga.active.stop = some st) (hl : t.line = some l) (hx : st[stop.toNat]? = some x) :
    decideReference stop t = if !t.moe.still then refuse .moving t
      else accept [] (motionUpdate (t.withMoe { t.moe.moveTo x.pos with status := .referenced, gap := false })) := by
  have htables : ¬ (t.mga.active.stop.isNone || t.mga.active.line.isNone) = true := by
    rw [hst, show t.mga.active.line = some l from hl]
    simp
  have hstops : t.stops = st := by simp [State.stops, hst]
  rw [decideReference, if_neg (not_not.mpr hstate), if_neg htables, hstops, hx]

end

/-- An accepted REFERENCE (R14). -/
theorem reference_accepted (h : ManagerArrives s arr [0x0B, tag, stop]) {pos : Int}
    (hd : decideReference stop (s.asked arr) = accept [] (motionUpdate ((s.asked arr).withMoe
      { s.moe.moveTo pos with status := .referenced, gap := false }))) :
    Settles (.reference arr tag [stop]) s fun t =>
      t.moe.posA = pos ∧ t.moe.status = .referenced ∧ t.moe.gap = false ∧
      (∀ ch, t.moe.channel ch = s.moe.channel ch) ∧ t.moe.counters = s.moe.counters ∧
      (∀ sh newest, (s.moe.channel sh.channel).history.getLast? = some newest →
        t.moe.reference sh = { count := newest.count, pos := pos }) ∧
      t.rif.reply = s.rif.reply ++ [mgmtReply s arr 0x0B tag 0x00 []] ∧ t.mga = s.mga := by
  have hact := rowAct_of_manager (c := .reference arr tag [stop]) rfl h
  rw [decideRequest_reference, hd] at hact
  refine settles_of_act (e := arr.elapsed) rfl h.running (by rw [hact]; simp [accept]) ?_
  rw [hact]
  simp only [accept, replied_frame]
  refine ⟨by simp, by simp, by simp, fun ch => ?_, by simp, fun sh newest hnewest => ?_, ?_, by simp⟩
  · rw [motionUpdate_channel, State.withMoe_moe]
    exact Moe.moveTo_channel s.moe pos ch
  · rw [motionUpdate_reference, State.withMoe_moe, ← Moe.moveTo_reference hnewest pos]
    cases sh <;> rfl
  · rw [(Undisturbed.motionUpdate _).reply]
    rfl

end

/-! ### The obligation -/

/-- Settles O16: a marker's row is its judgement in the state in which the frame has passed by, a REFERENCE its decision
and the reply; the update that follows leaves position, status, references and counters. -/
theorem markersAndReferenceSetThePosition : Obligations.MarkersAndReferenceSetThePosition := by
  unfold Obligations.MarkersAndReferenceSetThePosition
  refine ⟨⟨fun s arr id car h hrole => ⟨fun hunknown => ?_, fun c e hc he hheld => ?_⟩,
    fun s arr id car c e l h hrole hc he hheld hl => ?_⟩, fun s arr tag stop h => ⟨fun hstate => ?_,
      fun hstate => ⟨fun htables => ?_, fun st l hst hl => ⟨fun hlen => ?_, fun x hx => ⟨fun hstill => ?_,
        fun hstill => ?_⟩⟩⟩⟩⟩
  · rw [exec_of_running (e := arr.elapsed) rfl h.running, rowAct_marker h hrole,
      takeMarker_of_unknown (t := s.passed arr 0x12 [id, car]) hunknown]
    exact congrArg _ (settle_of_same (by simp [markerUnknown]))
  · rw [exec_of_running (e := arr.elapsed) rfl h.running, rowAct_marker h hrole,
      takeMarker_of_held (t := s.passed arr 0x12 [id, car]) hc he hheld]
    exact congrArg _ (settle_of_same rfl)
  · have hact := rowAct_marker_of_known h hrole hc he hheld hl
    cases c <;> exact
      ⟨fun happ => exec_of_known h.running (hact.trans (judgeMarker_of_applied happ)),
        fun htrusted hfar => exec_of_known h.running (hact.trans (judgeMarker_of_rejected htrusted hfar)),
        fun happ => marker_applied h.running hact happ,
        fun htrusted hfar => marker_rejected h.running hact htrusted hfar⟩
  · exact reference_refused h (decideReference_of_state hstate)
  · exact reference_refused h (decideReference_of_tables hstate htables)
  · exact reference_refused h (decideReference_of_no_stop (t := s.asked arr) hstate hst hl
      (List.getElem?_eq_none hlen))
  · refine reference_refused h (r := .moving) ?_
    rw [decideReference_of_stop (t := s.asked arr) hstate hst hl hx, if_pos (by simp [hstill])]
  · refine reference_accepted h ?_
    rw [decideReference_of_stop (t := s.asked arr) hstate hst hl hx, if_neg (by simp [hstill])]
    rfl

end Sys2Proof.Machine

end

/-! ## Samples (R2, R4–R6, R11, R12) -/

section

namespace Sys2Proof.Machine

/-! ### The sample that a frame brings -/

section

variable {s : State} {arr : Arrival} {p : List Byte} {ch : ChannelId}

theorem rowElapsed_sampleRow (ch : ChannelId) (arr : Arrival) (p : List Byte) :
    rowElapsed (sampleRow ch arr p) = some arr.elapsed := by
  cases ch <;> rfl

theorem rowFrame_sampleRow (ch : ChannelId) (arr : Arrival) (p : List Byte) :
    rowFrame (sampleRow ch arr p) = some (arr, (sampleSource ch).1, p) := by
  cases ch <;> rfl

/-- The channel is the one that the sender's role selects (R2). -/
theorem dealKind_sample (f : Frame) (t : State) (hkind : f.kind = (sampleSource ch).1)
    (hrole : t.roleOf f.src = some (sampleSource ch).2) :
    dealKind f t = dealRead f 7 (some (takeSample ch (sampleOf f.payload) (byteAt f.payload 6))) t := by
  cases ch <;> simp only [sampleSource] at hkind hrole <;>
    simp [dealKind, hkind, FrameKind.ofCode, dealSheave, dealCar, hrole, sheaveChannelOf, carOfRole, carChannel]

/-- A sample on its way past is handed to the Motion Estimator. -/
theorem rowAct_sample (h : PassesBy s arr (sampleSource ch).1 p) (hlen : p.length = 7)
    (hrole : s.roleOf arr.src = some (sampleSource ch).2) : rowAct (sampleRow ch arr p) (begin arr.elapsed s) =
      takeSample ch (sampleOf p) (byteAt p 6) (s.passed arr (sampleSource ch).1 p) := by
  rw [rowAct_of_arrives (rowFrame_sampleRow ch arr p) h.toArrives h.fromOther,
    dealKind_sample (ch := ch) _ _ rfl hrole, dealRead_of_passes h hlen]
  rfl

/-- A sample that is not taken is counted alone (R4). -/
theorem exec_of_uncounted {c : MotionCounter} (hrun : s.inReset = false)
    (hact : rowAct (sampleRow ch arr p) (begin arr.elapsed s) =
      countMotion c (s.passed arr (sampleSource ch).1 p)) :
    exec (sampleRow ch arr p) s = .next { begin arr.elapsed s with
      rif := s.forwarded (frameOf arr (sampleSource ch).1 p) .plain
      moe := { s.moe with counters := bumpBy s.moe.counters c.idx 1 } } := by
  rw [exec_of_running (rowElapsed_sampleRow ch arr p) hrun, hact]
  exact congrArg _ (settle_of_same rfl)

end

/-! ### The checks of R4 -/

section

variable {l : Line} {cl : ChannelLine} {c : Channel} {x newest : Sample} {health : Byte}

theorem discardOf_unhealthy (h : health ≠ 1) : discardOf l cl c x health = some .unhealthy := by
  rw [discardOf, if_pos h]

theorem discardOf_of_fresh (hf : c.state = .fresh) (hnewest : c.history.getLast? = some newest) :
    discardOf l cl c x 1 = if x.tick = newest.tick then some .duplicate
      else if implausible l cl x newest then some .implausible else none := by
  simp [discardOf, hf, hnewest]

theorem discardOf_of_not_fresh (hf : c.state ≠ .fresh) : discardOf l cl c x 1 = none := by
  simp [discardOf, hf]

end

section

variable {s : State} {l : Line} {ch : ChannelId} {x : Sample} {health : Byte}

theorem takeSample_of_no_line (h : s.line = none) : takeSample ch x health s = countMotion .noLine s := by
  simp only [takeSample, h]

theorem takeSample_of_discarded {why : ChannelCounter} (hl : s.line = some l)
    (h : discardOf l (l.channel ch) (s.moe.channel ch) x health = some why) :
    takeSample ch x health s = countMotion (.channel ch why) s := by
  simp only [takeSample, hl, h]

theorem takeSample_of_accepted (hl : s.line = some l)
    (h : discardOf l (l.channel ch) (s.moe.channel ch) x health = none) :
    takeSample ch x health s = acceptSample l ch x s := by
  simp only [takeSample, hl, h]

end

/-! ### The accepted sample (R5, R6) -/

/-- The Motion Estimator with an accepted sample on its channel, counted. -/
def Moe.taking (m : Moe) (l : Line) (ch : ChannelId) (x : Sample) (now : Time) : Moe :=
  (m.setChannel ch ((m.channel ch).accept (l.channel ch) (l.stale ch) x now)).count (.channel ch .accepted)

/-- The position and the source after an accepted sample (R5, R6, R11, R12). -/
def Moe.placing (m : Moe) (l : Line) (ch : ChannelId) (restarted : Bool) : Moe :=
  match sheaveOf ch with
  | some sh => m.settlePosition l sh restarted
  | none => m

theorem Moe.placing_of_sheave {ch : ChannelId} {sh : Sheave} (h : sheaveOf ch = some sh) (m : Moe) (l : Line)
    (restarted : Bool) : m.placing l ch restarted = m.settlePosition l sh restarted := by
  simp only [Moe.placing, h]

theorem Moe.placing_of_car {ch : ChannelId} (h : sheaveOf ch = none) (m : Moe) (l : Line) (restarted : Bool) :
    m.placing l ch restarted = m := by
  simp only [Moe.placing, h]

/-- The Motion Estimator after an accepted sample, before the cross-checks. -/
def Moe.taken (m : Moe) (l : Line) (ch : ChannelId) (x : Sample) (now : Time) : Moe :=
  (m.taking l ch x now).placing l ch (decide ((m.channel ch).state ≠ .fresh))

theorem acceptSample_eq (l : Line) (ch : ChannelId) (x : Sample) (s : State) : acceptSample l ch x s =
    motionUpdate (crossCheck l ch (s.withMoe (s.moe.taken l ch x s.clock))) := by
  cases ch <;> rfl

theorem sheaveOf_channel {ch : ChannelId} {sh : Sheave} : sheaveOf ch = some sh ↔ sh.channel = ch := by
  cases ch <;> cases sh <;> simp [sheaveOf, Sheave.channel]

theorem Moe.taking_channel (m : Moe) (l : Line) (ch : ChannelId) (x : Sample) (now : Time) (ch' : ChannelId) :
    (m.taking l ch x now).channel ch' = if ch' = ch
      then (m.channel ch).accept (l.channel ch) (l.stale ch) x now else m.channel ch' := by
  by_cases h : ch' = ch
  · simp [Moe.taking, h]
  · simp [Moe.taking, h, Moe.channel_setChannel_of_ne]

@[simp] theorem Moe.taking_frame (m : Moe) (l : Line) (ch : ChannelId) (x : Sample) (now : Time) :
    (m.taking l ch x now).source = m.source ∧ (m.taking l ch x now).posA = m.posA ∧
    (m.taking l ch x now).ref1 = m.ref1 ∧ (m.taking l ch x now).ref2 = m.ref2 ∧
    (m.taking l ch x now).counters = bumpBy m.counters (MotionCounter.channel ch .accepted).idx 1 := by
  simp [Moe.taking]

@[simp] theorem Moe.settlePosition_frame (m : Moe) (l : Line) (sh : Sheave) (restarted : Bool) :
    (m.settlePosition l sh restarted).s1 = m.s1 ∧ (m.settlePosition l sh restarted).s2 = m.s2 ∧
    (m.settlePosition l sh restarted).ca = m.ca ∧ (m.settlePosition l sh restarted).cb = m.cb ∧
    (m.settlePosition l sh restarted).counters = m.counters := by
  unfold Moe.settlePosition
  split <;> simp

@[simp] theorem Moe.placing_channel (m : Moe) (l : Line) (ch : ChannelId) (restarted : Bool) (ch' : ChannelId) :
    (m.placing l ch restarted).channel ch' = m.channel ch' := by
  unfold Moe.placing
  split
  · exact Moe.channel_congr (by simp) (by simp) (by simp) (by simp) ch'
  · rfl

@[simp] theorem Moe.placing_counters (m : Moe) (l : Line) (ch : ChannelId) (restarted : Bool) :
    (m.placing l ch restarted).counters = m.counters := by
  unfold Moe.placing
  split <;> simp

/-- What every accepted sample says of the channels and the counters (R5, R6). -/
theorem Moe.taken_channel (m : Moe) (l : Line) (ch : ChannelId) (x : Sample) (now : Time) (ch' : ChannelId) :
    (m.taken l ch x now).channel ch' = if ch' = ch
      then (m.channel ch).accept (l.channel ch) (l.stale ch) x now else m.channel ch' := by
  rw [Moe.taken, Moe.placing_channel, Moe.taking_channel]

@[simp] theorem Moe.taken_counters (m : Moe) (l : Line) (ch : ChannelId) (x : Sample) (now : Time) :
    (m.taken l ch x now).counters = bumpBy m.counters (MotionCounter.channel ch .accepted).idx 1 := by
  simp [Moe.taken]

/-! ### The channel -/

theorem Channel.accept_of_fresh {c : Channel} (h : c.state = .fresh) (cl : ChannelLine) (limit : Nat) (x : Sample)
    (now : Time) :
    (c.accept cl limit x now).state = .fresh ∧ (c.accept cl limit x now).history = newestOf 8 (c.history ++ [x]) ∧
    (c.accept cl limit x now).lastArrival = some now ∧
    (c.accept cl limit x now).expiry = some { start := now, dur := limit } ∧
    (c.accept cl limit x now).estimate = (estimateOf cl (newestOf 8 (c.history ++ [x]))).map (·.1) := by
  simp [Channel.accept, Channel.estimated_eq, h]

/-- A history of one entry has no estimate (R8). -/
theorem estimateOf_singleton (cl : ChannelLine) (x : Sample) : estimateOf cl [x] = none := by
  have hnone : windowOldest x (newestOf cl.window [x]) = none := by
    cases hw : cl.window <;> simp [newestOf, windowOldest, tickDiff]
  simp only [estimateOf, List.getLast?_singleton, hnone, Option.map_none]

theorem Channel.accept_of_not_fresh {c : Channel} (h : c.state ≠ .fresh) (cl : ChannelLine) (limit : Nat) (x : Sample)
    (now : Time) : c.accept cl limit x now =
      { state := .fresh, history := [x], lastArrival := some now, expiry := some { start := now, dur := limit },
        estimate := none, saturated := false } := by
  simp [Channel.accept, Channel.estimated_eq, h, estimateOf_singleton]

/-- The accepted sample is the newest entry. -/
theorem Channel.accept_newest (c : Channel) (cl : ChannelLine) (limit : Nat) (x : Sample) (now : Time) :
    (c.accept cl limit x now).history.getLast? = some x := by
  by_cases h : c.state = .fresh
  · have hlast : (newestOf 8 (c.history ++ [x])).getLast? = some x := by
      rw [newestOf, List.getLast?_drop, if_neg (by simp), List.getLast?_append]
      rfl
    rw [(Channel.accept_of_fresh h cl limit x now).2.1, hlast]
  · rw [Channel.accept_of_not_fresh h]
    rfl

/-! ### The position follows the source (R5, R12) -/

theorem Moe.position_congr {m m' : Moe} {sh : Sheave} (l : Line) (hch : m'.channel sh.channel = m.channel sh.channel)
    (href : m'.reference sh = m.reference sh) : m'.position l sh = m.position l sh := by
  simp only [Moe.position, hch, href]

@[simp] theorem Moe.follow_reference (m : Moe) (l : Line) (sh sh' : Sheave) :
    (m.follow l sh).reference sh' = m.reference sh' := by
  cases sh' <;> simp [Moe.reference]

theorem Moe.follow_of_source {m : Moe} {l : Line} {sh : Sheave} {newest : Sample} (hsrc : m.source = some sh)
    (h : (m.channel sh.channel).history.getLast? = some newest) :
    some (m.follow l sh).posA = (m.follow l sh).position l sh := by
  have hpos := Moe.position_of_newest l h
  rw [Moe.position_congr (m := m) l (by simp) (by simp), hpos]
  simp only [Moe.follow, hsrc, if_true, hpos]

theorem Moe.follow_of_other {m : Moe} {l : Line} {sh : Sheave} (hsrc : m.source ≠ some sh) : m.follow l sh = m := by
  rw [Moe.follow, if_neg hsrc]

/-- Where a sample extends a FRESH channel, source and references stand, and posA follows the source alone (R5). -/
theorem Moe.taken_of_fresh {m : Moe} {ch : ChannelId} (hf : (m.channel ch).state = .fresh) (l : Line) (x : Sample)
    (now : Time) :
    let m' := m.taken l ch x now
    m'.source = m.source ∧ m'.ref1 = m.ref1 ∧ m'.ref2 = m.ref2 ∧
    (∀ sh, m.source = some sh → sh.channel = ch → some m'.posA = m'.position l sh) ∧
    (∀ sh, m.source = some sh → sh.channel ≠ ch → m'.posA = m.posA) := by
  have hnewest : ((m.taking l ch x now).channel ch).history.getLast? = some x := by
    rw [Moe.taking_channel, if_pos rfl]
    exact Channel.accept_newest _ _ _ _ _
  have hplaced : m.taken l ch x now = (m.taking l ch x now).placing l ch false := by
    rw [Moe.taken, hf]
    rfl
  cases hsh : sheaveOf ch with
  | none =>
    have hno : ∀ sh : Sheave, sh.channel ≠ ch := fun sh h => by
      rw [sheaveOf_channel.mpr h] at hsh
      cases hsh
    rw [hplaced, Moe.placing_of_car hsh]
    exact ⟨by simp, by simp, by simp, fun sh _ h => absurd h (hno sh), fun _ _ _ => by simp⟩
  | some sh =>
    have hch : sh.channel = ch := sheaveOf_channel.mp hsh
    have hfollow : m.taken l ch x now = (m.taking l ch x now).follow l sh := by
      rw [hplaced, Moe.placing_of_sheave hsh]
      rfl
    simp only [hfollow]
    refine ⟨by simp, by simp, by simp, fun sh' hsrc h => ?_, fun sh' hsrc h => ?_⟩
    · obtain rfl : sh' = sh := Option.some.inj ((sheaveOf_channel.mpr h).symm.trans hsh)
      exact Moe.follow_of_source (by simpa using hsrc) (by rw [h]; exact hnewest)
    · have hne : sh' ≠ sh := fun e => h (e ▸ hch)
      rw [Moe.follow_of_other (by simpa [hsrc] using hne)]
      simp

/-- Where a sample restarts a channel, posA does not step; a sheave is re-based at it and the source re-chosen (R6). -/
theorem Moe.taken_of_not_fresh {m : Moe} {ch : ChannelId} (hf : (m.channel ch).state ≠ .fresh) (l : Line) (x : Sample)
    (now : Time) :
    let m' := m.taken l ch x now
    m'.posA = m.posA ∧
    (∀ sh : Sheave, sh.channel = ch → m'.reference sh = { count := x.count, pos := m.posA } ∧ m'.source = m'.choice) ∧
    (sheaveOf ch = none → m'.source = m.source ∧ m'.ref1 = m.ref1 ∧ m'.ref2 = m.ref2) := by
  have hnewest : ((m.taking l ch x now).channel ch).history.getLast? = some x := by
    rw [Moe.taking_channel, if_pos rfl]
    exact Channel.accept_newest _ _ _ _ _
  have hplaced : m.taken l ch x now = (m.taking l ch x now).placing l ch true := by
    rw [Moe.taken, decide_eq_true hf]
  cases hsh : sheaveOf ch with
  | none =>
    have hno : ∀ sh : Sheave, sh.channel ≠ ch := fun sh h => by
      rw [sheaveOf_channel.mpr h] at hsh
      cases hsh
    rw [hplaced, Moe.placing_of_car hsh]
    exact ⟨by simp, fun sh h => absurd h (hno sh), fun _ => by simp⟩
  | some sh =>
    obtain rfl : sh.channel = ch := sheaveOf_channel.mp hsh
    have hchosen : m.taken l sh.channel x now =
        ((m.taking l sh.channel x now).rebase sh (m.taking l sh.channel x now).posA).chooseSource := by
      rw [hplaced, Moe.placing_of_sheave hsh]
      rfl
    simp only [hchosen]
    refine ⟨by simp, fun sh' h => ?_, fun h => by cases h⟩
    obtain rfl : sh' = sh := Option.some.inj ((sheaveOf_channel.mpr h).symm.trans hsh)
    refine ⟨?_, by rw [Moe.chooseSource_choice]; simp⟩
    rw [Moe.chooseSource_reference]
    split
    · rw [Moe.rebase_reference (by simpa using hnewest)]
      simp
    · rw [Moe.rebase_reference hnewest]
      simp

/-! ### The cross-checks and the update that follow -/

theorem demand_fifo (cause : StopCause) (s : State) : (demand cause s).rif.fifo = s.rif.fifo :=
  (Undisturbed.demand cause s).fifo

/-- The cross-checks place no frame in the FIFO. -/
theorem crossCheck_fifo (l : Line) (ch : ChannelId) (s : State) : (crossCheck l ch s).rif.fifo = s.rif.fifo := by
  have hdivergence : ∀ u : State, (judgeDivergence l u).rif.fifo = u.rif.fifo := fun u => by
    unfold judgeDivergence
    simp only
    (repeat' split) <;> simp
  have hdisagree : ∀ u : State, (judgeDisagree l u).rif.fifo = u.rif.fifo := fun u => by
    unfold judgeDisagree
    (repeat' split) <;> simp [demand_fifo]
  have hslip : ∀ (car : Car) (u : State), (judgeSlip l car u).rif.fifo = u.rif.fifo := fun car u => by
    unfold judgeSlip
    (repeat' split) <;> simp [demand_fifo]
  unfold crossCheck
  split
  · exact hslip _ _
  · exact (hdisagree _).trans (hdivergence _)

@[simp] theorem crossCheck_reference (l : Line) (ch : ChannelId) (s : State) (sh : Sheave) :
    (crossCheck l ch s).moe.reference sh = s.moe.reference sh := by
  cases sh <;> simp [Moe.reference]

section

variable {s : State} {arr : Arrival} {p : List Byte} {ch : ChannelId} {l : Line}

/-- The state after an accepted sample, before the end of the step takes a pending activation. -/
theorem settles_of_accepted {P : State → Prop} (h : SamplePasses s arr p ch l)
    (hd : discardOf l (l.channel ch) (s.moe.channel ch) (sampleOf p) (byteAt p 6) = none)
    (hP : ∀ t : State, t.clock = s.clock + arr.elapsed → t.mga = s.mga →
      t.rif.fifo = s.rif.fifo ++ [⟨frameOf arr (sampleSource ch).1 p, .plain⟩] →
      (∀ m, m = s.moe.taken l ch (sampleOf p) (s.clock + arr.elapsed) → (∀ ch', t.moe.channel ch' = m.channel ch') ∧
        (∀ sh, t.moe.reference sh = m.reference sh) ∧ t.moe.source = m.source ∧ t.moe.posA = m.posA ∧
        t.moe.counters = m.counters) → P t) : Settles (sampleRow ch arr p) s P := by
  have hact := rowAct_sample h.toPassesBy h.length h.role
  rw [takeSample_of_accepted (s := s.passed arr (sampleSource ch).1 p) h.line hd, acceptSample_eq] at hact
  refine settles_of_act (rowElapsed_sampleRow ch arr p) h.running (by rw [hact]; simp) ?_
  rw [hact]
  refine hP _ (by simp) (by simp) ?_ fun m hm => ?_
  · rw [(Undisturbed.motionUpdate _).fifo, crossCheck_fifo]
    rfl
  · subst hm
    exact ⟨fun ch' => by simp, fun sh => by simp, by simp, by simp, by simp⟩

end

/-! ### The obligation -/

/-- The source, the references and the position read alike where the records agree. -/
theorem Moe.agrees {t m : Moe} (hch : ∀ ch, t.channel ch = m.channel ch) (href : ∀ sh, t.reference sh = m.reference sh) :
    t.ref1 = m.ref1 ∧ t.ref2 = m.ref2 ∧ t.choice = m.choice ∧ ∀ l sh, t.position l sh = m.position l sh :=
  ⟨href .s1, href .s2, Moe.choice_congr (congrArg _ (hch .s1)) (congrArg _ (hch .s2)),
    fun l sh => Moe.position_congr l (hch sh.channel) (href sh)⟩

/-- Settles O11: a sample is counted alone, or the record is `Moe.taken`, of which the cross-checks and the update
leave the channels, the references, the source, posA and the counters. -/
theorem samplesAreCheckedThenTaken : Obligations.SamplesAreCheckedThenTaken := by
  unfold Obligations.SamplesAreCheckedThenTaken
  refine ⟨fun s arr p ch => ⟨fun h hlen hrole hline => ?_, fun l h why hwhy => ?_⟩,
    fun s arr p ch l newest h hhealth hf hnewest htick hplausible => ?_, fun s arr p ch l h hhealth hf => ?_⟩
  · refine exec_of_uncounted h.running ?_
    rw [rowAct_sample h hlen hrole, takeSample_of_no_line (s := s.passed arr (sampleSource ch).1 p) hline]
  · have hd : discardOf l (l.channel ch) (s.moe.channel ch) (sampleOf p) (byteAt p 6) = some why := by
      obtain ⟨rfl, hsick⟩ | ⟨newest, hhealth, hf, hnewest, hwhy⟩ := hwhy
      · exact discardOf_unhealthy hsick
      · rw [hhealth, discardOf_of_fresh hf hnewest]
        obtain ⟨rfl, hsame⟩ | ⟨rfl, hother, hfar⟩ := hwhy
        · exact if_pos hsame
        · exact (if_neg hother).trans (if_pos (decide_eq_true hfar))
    refine exec_of_uncounted h.running ?_
    rw [rowAct_sample h.toPassesBy h.length h.role,
      takeSample_of_discarded (s := s.passed arr (sampleSource ch).1 p) h.line hd]
  · have hd : discardOf l (l.channel ch) (s.moe.channel ch) (sampleOf p) (byteAt p 6) = none := by
      rw [hhealth, discardOf_of_fresh hf hnewest]
      exact (if_neg htick).trans (if_neg (by
        simpa [implausible, countDiff, tickDiff, sampleOf] using hplausible))
    refine settles_of_accepted h hd fun t hclock hmga hfifo hrecord => ?_
    obtain ⟨hch, href, hsource, hposA, hcounters⟩ := hrecord _ rfl
    obtain ⟨hsource', href1, href2, hfollow, hother⟩ := Moe.taken_of_fresh hf l (sampleOf p) (s.clock + arr.elapsed)
    obtain ⟨hr1, hr2, -, hposition⟩ := Moe.agrees hch href
    have hc : t.moe.channel ch =
        (s.moe.channel ch).accept (l.channel ch) (l.stale ch) (sampleOf p) (s.clock + arr.elapsed) := by
      rw [hch, Moe.taken_channel, if_pos rfl]
    obtain ⟨hstate, hhistory, hlast, hexpiry, hestimate⟩ :=
      Channel.accept_of_fresh hf (l.channel ch) (l.stale ch) (sampleOf p) (s.clock + arr.elapsed)
    simp only [hc, hclock]
    refine ⟨hstate, hhistory, hlast, hexpiry, by rw [hestimate, hhistory],
      fun ch' hne => by rw [hch, Moe.taken_channel, if_neg hne], by rw [hcounters, Moe.taken_counters],
      hsource.trans hsource', hr1.trans href1, hr2.trans href2, fun sh hsrc hsh => ?_, fun sh hsrc hsh => ?_, hfifo, hmga⟩
    · rw [hposA, hposition]
      exact hfollow sh hsrc hsh
    · rw [hposA]
      exact hother sh hsrc hsh
  · have hd : discardOf l (l.channel ch) (s.moe.channel ch) (sampleOf p) (byteAt p 6) = none := by
      rw [hhealth, discardOf_of_not_fresh hf]
    refine settles_of_accepted h hd fun t hclock hmga hfifo hrecord => ?_
    obtain ⟨hch, href, hsource, hposA, hcounters⟩ := hrecord _ rfl
    obtain ⟨hposA', hsheave, hcar⟩ := Moe.taken_of_not_fresh hf l (sampleOf p) (s.clock + arr.elapsed)
    obtain ⟨hr1, hr2, hchoice, -⟩ := Moe.agrees hch href
    have hc : t.moe.channel ch =
        (s.moe.channel ch).accept (l.channel ch) (l.stale ch) (sampleOf p) (s.clock + arr.elapsed) := by
      rw [hch, Moe.taken_channel, if_pos rfl]
    refine ⟨by rw [hc, Channel.accept_of_not_fresh hf, hclock]; rfl,
      fun ch' hne => by rw [hch, Moe.taken_channel, if_neg hne], by rw [hcounters, Moe.taken_counters],
      hposA.trans hposA', fun sh hsh => ?_, fun hisCar => ?_, hfifo, hmga⟩
    · rw [href, hsource, hchoice]
      exact hsheave sh hsh
    · rw [hsource, hr1, hr2]
      exact hcar (by obtain rfl | rfl := hisCar <;> rfl)

end Sys2Proof.Machine

end

/-! ## What each block does at a motion update (R10, R35, R53, R95, R96, R116) -/

section

namespace Sys2Proof.Machine

/-! ### Entries to rest -/

/-- The states without a run (R36). -/
theorem HaulState.atRest_iff (st : HaulState) : st.atRest = true ↔ st = .parked ∨ st = .boarding ∨ st = .tripped := by
  cases st <;> simp [HaulState.atRest]

/-- The envelope is OFF at rest (R36). -/
theorem envEvaluate_env_of_rest {s : State} (h : s.hlc.state.atRest = true) :
    (envEvaluate s).env = { s.env with mode := .off, e := 0 } := by
  have hmode : s.settledMode = .off := by rw [State.settledMode, if_pos h]
  simp only [envEvaluate, hmode, evaluateIn, handOn, State.computeE, State.withEnv_env]
  split <;> simp [State.withEnv]

theorem enterRest_env {st : HaulState} (h : st.atRest = true) (berth : Option Nat) (o : Bool) (s : State) :
    (enterRest st berth o s).env = { s.env with mode := .off, e := 0 } := by
  have hrest : ∀ u : State, u.hlc.state = st → u.env = s.env →
      (envEvaluate u).env = { s.env with mode := .off, e := 0 } := fun u hst henv => by
    rw [envEvaluate_env_of_rest (by rw [hst, h]), henv]
  simp only [enterRest]
  split
  · simp only [clearFullFlags, State.withAdu_env]
    exact hrest _ (by simp) (by simp)
  · exact hrest _ (by simp) (by simp)

theorem enterRest_adu (st : HaulState) (berth : Option Nat) (o : Bool) (s : State) :
    (enterRest st berth o s).adu = if st = .boarding then { s.adu with fullA := false, fullB := false } else s.adu := by
  simp only [enterRest]
  split <;> simp [clearFullFlags]

/-! ### The overrun judgement (R53) -/

/-- posA lies beyond the first or the last stop by more than the overrun, the position being trusted. -/
def State.Beyond (s : State) : Prop :=
  s.moe.last.status.trusted = true ∧ ∃ l low high, s.line = some l ∧ s.stops.head? = some low ∧
    s.stops.getLast? = some high ∧
    (s.moe.last.posA < low.pos - l.overrun ∨ high.pos + l.overrun < s.moe.last.posA)

theorem beyondStops_iff (pos : Int) (overrun : Nat) (stops : List Stop) : beyondStops pos overrun stops = true ↔
    ∃ low high, stops.head? = some low ∧ stops.getLast? = some high ∧
      (pos < low.pos - overrun ∨ high.pos + overrun < pos) := by
  cases stops with
  | nil => simp [beyondStops]
  | cons st rest => simp [beyondStops, List.getLast?_eq_some_getLast]

theorem overruns_iff (s : State) : s.overruns = true ↔ s.Beyond := by
  unfold State.overruns State.Beyond
  cases hl : s.line with
  | none => simp
  | some l => simp [beyondStops_iff]

/-! ### The withdrawal (R116) -/

/-- The DOOR_CMD that withdraws a car-side, with a transmit sequence. -/
def State.withdrawSlot (s : State) (x : Car × Side) (seq : Byte) : DoorSlot :=
  ⟨x.1, x.2, { kind := 0x42, dst := s.addressOf (carRole x.1), src := s.oaByte, seq := seq,
               payload := [sideCode x.2, 2] }⟩

/-- What no withdrawal touches. -/
structure BesideDoors (s t : State) : Prop where
  clock : t.clock = s.clock
  oa : t.oa = s.oa
  movingOpen : t.dru.movingOpen = s.dru.movingOpen
  reports : ∀ car, t.dru.reports car = s.dru.reports car
  fifo : t.rif.fifo = s.rif.fifo
  reply : t.rif.reply = s.rif.reply
  report : t.rif.report = s.rif.report
  rpu : t.rpu = s.rpu
  hlc : t.hlc = s.hlc
  brs : t.brs = s.brs
  env : t.env = s.env
  moe : t.moe = s.moe
  adu : t.adu = s.adu
  mga : t.mga = s.mga
  test : t.test = s.test

theorem BesideDoors.refl (s : State) : BesideDoors s s :=
  ⟨rfl, rfl, rfl, fun _ => rfl, rfl, rfl, rfl, rfl, rfl, rfl, rfl, rfl, rfl, rfl, rfl⟩

theorem BesideDoors.trans {s t u : State} (h : BesideDoors s t) (h' : BesideDoors t u) : BesideDoors s u :=
  ⟨h'.clock.trans h.clock, h'.oa.trans h.oa, h'.movingOpen.trans h.movingOpen,
    fun car => (h'.reports car).trans (h.reports car), h'.fifo.trans h.fifo, h'.reply.trans h.reply,
    h'.report.trans h.report, h'.rpu.trans h.rpu, h'.hlc.trans h.hlc, h'.brs.trans h.brs, h'.env.trans h.env,
    h'.moe.trans h.moe, h'.adu.trans h.adu, h'.mga.trans h.mga, h'.test.trans h.test⟩

/-- The car-sides w withdrawn in this order, the records closing for dur ms. -/
structure Withdrawn (dur : Nat) (w : List (Car × Side)) (s t : State) : Prop extends BesideDoors s t where
  door : ∀ car side, t.dru.door car side =
    if (car, side) ∈ w then { state := .closing, timer := some { start := s.clock, dur := dur } }
    else s.dru.door car side
  slots : t.rif.door = (s.rif.door.filter fun x => !w.contains (x.car, x.side)) ++
    w.mapIdx (fun i x => s.withdrawSlot x (s.rif.txSeq + BitVec.ofNat 8 i))
  txSeq : t.rif.txSeq = s.rif.txSeq + BitVec.ofNat 8 w.length

theorem Withdrawn.nil (dur : Nat) (s : State) : Withdrawn dur [] s s where
  toBesideDoors := .refl s
  door _ _ := by simp
  slots := by simp
  txSeq := by simp

theorem placeDoor_rif (car : Car) (side : Side) (action : DoorAction) (s : State) :
    (placeDoor car side action s).rif.door = (s.rif.door.filter fun x => !x.isFor car side) ++
      [⟨car, side, s.ownFrame 0x42 (s.addressOf (carRole car)) [sideCode side, action.code]⟩] ∧
    (placeDoor car side action s).rif.txSeq = s.rif.txSeq + 1 ∧
    (placeDoor car side action s).rif.report = s.rif.report := by
  simp only [placeDoor, State.withRif]
  split <;> exact ⟨rfl, rfl, rfl⟩

theorem DoorSlot.isFor_eq (x : DoorSlot) (cs : Car × Side) :
    x.isFor cs.1 cs.2 = decide ((x.car, x.side) = cs) := by
  obtain ⟨car, side⟩ := cs
  cases hc : decide (x.car = car) <;> cases hs : decide (x.side = side) <;>
    simp_all [DoorSlot.isFor, Prod.ext_iff]

/-- One car-side withdrawn (R111, R116). -/
theorem withdraw_withdrawn (cs : Car × Side) (s : State) : BesideDoors s (withdraw cs.1 cs.2 s) ∧
    (∀ car side, (withdraw cs.1 cs.2 s).dru.door car side =
      if (car, side) = cs then { state := .closing, timer := some { start := s.clock, dur := s.closeTime } }
      else s.dru.door car side) ∧
    (withdraw cs.1 cs.2 s).rif.door = (s.rif.door.filter fun x => !decide ((x.car, x.side) = cs)) ++
      [s.withdrawSlot cs s.rif.txSeq] ∧
    (withdraw cs.1 cs.2 s).rif.txSeq = s.rif.txSeq + 1 := by
  obtain ⟨hdoor, hseq, hreport⟩ := placeDoor_rif cs.1 cs.2 .withdraw s
  have hkept := Undisturbed.placeDoor cs.1 cs.2 .withdraw s
  have hrif : (withdraw cs.1 cs.2 s).rif = (placeDoor cs.1 cs.2 .withdraw s).rif := by simp [withdraw]
  have hdru : (withdraw cs.1 cs.2 s).dru = s.dru.setDoor cs.1 cs.2
      { state := .closing, timer := some { start := s.clock, dur := s.closeTime } } := by
    have hclose : (placeDoor cs.1 cs.2 .withdraw s).closeTime = s.closeTime := by
      simp [State.closeTime, State.line]
    simp [withdraw, startClosing, setDoor, hclose]
  refine ⟨⟨by simp, by simp, by simp [hdru], fun car => ?_, by rw [hrif, hkept.fifo], by rw [hrif, hkept.reply],
    by rw [hrif, hreport], by simp, by simp, by simp, by simp, by simp, by simp, by simp, by simp⟩, fun car side => ?_,
    ?_, by rw [hrif, hseq]⟩
  · cases car <;> simp [Dru.reports, hdru]
  · rw [hdru, Dru.door_setDoor]
  · rw [hrif, hdoor]
    simp only [DoorSlot.isFor_eq]
    rfl

theorem byte_add_succ (b : Byte) (i : Nat) : b + 1 + BitVec.ofNat 8 i = b + BitVec.ofNat 8 (i + 1) := by
  apply BitVec.eq_of_toNat_eq
  simp
  omega

/-- A withdrawal ahead of others, of another car-side. -/
theorem Withdrawn.cons {dur : Nat} {w : List (Car × Side)} {cs : Car × Side} {s t : State} (hcs : cs ∉ w)
    (hdur : s.closeTime = dur) (h : Withdrawn dur w (withdraw cs.1 cs.2 s) t) : Withdrawn dur (cs :: w) s t := by
  obtain ⟨hbeside, hdoor, hslots, hseq⟩ := withdraw_withdrawn cs s
  have haddress : ∀ x seq, (withdraw cs.1 cs.2 s).withdrawSlot x seq = s.withdrawSlot x seq := fun x seq => by
    simp only [State.withdrawSlot, State.addressOf, State.oaByte, hbeside.mga, hbeside.oa]
  refine { toBesideDoors := hbeside.trans h.toBesideDoors, door := fun car side => ?_, slots := ?_, txSeq := ?_ }
  · rw [h.door, hdoor, hbeside.clock, hdur]
    by_cases hhead : (car, side) = cs
    · simp [hhead, hcs]
    · simp [hhead]
  · have hkeep : ([s.withdrawSlot cs s.rif.txSeq].filter fun x => !w.contains (x.car, x.side)) =
        [s.withdrawSlot cs s.rif.txSeq] := by
      simpa [State.withdrawSlot] using hcs
    have hfilter : ((s.rif.door.filter fun x => !decide ((x.car, x.side) = cs)).filter
        fun x => !w.contains (x.car, x.side)) = s.rif.door.filter fun x => !(cs :: w).contains (x.car, x.side) := by
      rw [List.filter_filter]
      congr 1
      funext x
      by_cases hx : (x.car, x.side) = cs <;> simp [hx]
    have hfirst : s.rif.txSeq + BitVec.ofNat 8 0 = s.rif.txSeq := by simp
    rw [h.slots, hslots, hseq, List.filter_append, hkeep, hfilter, List.mapIdx_cons, List.append_assoc, hfirst]
    simp only [haddress, byte_add_succ]
    rfl
  · rw [h.txSeq, hseq, List.length_cons, byte_add_succ]

/-- A record is RELEASING or RELEASED. -/
def State.released (s : State) (x : Car × Side) : Bool :=
  (s.dru.door x.1 x.2).state == .releasing || (s.dru.door x.1 x.2).state == .released

theorem withdrawReleased_eq (s : State) (cs : Car × Side) :
    withdrawReleased s cs = if s.released cs then withdraw cs.1 cs.2 s else s := by
  simp only [withdrawReleased, State.released, Bool.or_eq_true, beq_iff_eq]

/-- Car-sides taken one by one: the released ones are withdrawn (R116). -/
theorem foldl_withdrawReleased {dur : Nat} (cs : List (Car × Side)) (hcs : cs.Nodup) (s : State)
    (hdur : s.closeTime = dur) : Withdrawn dur (cs.filter s.released) s (cs.foldl withdrawReleased s) := by
  induction cs generalizing s with
  | nil => exact .nil dur s
  | cons x rest ih =>
    obtain ⟨hx, hrest⟩ := List.nodup_cons.mp hcs
    rw [List.foldl_cons, withdrawReleased_eq]
    cases hr : s.released x with
    | false =>
      rw [List.filter_cons_of_neg (by simp [hr]), if_neg Bool.false_ne_true]
      exact ih hrest s hdur
    | true =>
      obtain ⟨hbeside, hdoor, -, -⟩ := withdraw_withdrawn x s
      have hsame : rest.filter (withdraw x.1 x.2 s).released = rest.filter s.released := by
        refine List.filter_congr fun y hy => ?_
        have hne : ¬ (y.1, y.2) = x := fun e => hx (e ▸ hy)
        simp only [State.released, hdoor, if_neg hne]
      rw [List.filter_cons_of_pos hr, if_pos rfl, ← hsame]
      refine .cons (fun h => hx (List.mem_of_mem_filter h)) hdur (ih hrest _ ?_)
      simp only [State.closeTime, State.line, hbeside.mga]
      simpa [State.closeTime, State.line] using hdur

/-- The withdrawal under a LINE record (R116). -/
theorem judgeWithdrawal_withdrawn {s : State} {l : Line} (hl : s.line = some l) (hstate : s.hlc.state = .boarding)
    (hknown : s.moe.last.known = false) :
    Withdrawn (l.tDoorClose * 1000) (carSides.filter s.released) s (judgeWithdrawal s) := by
  rw [judgeWithdrawal, if_pos ⟨hstate, hknown⟩]
  exact foldl_withdrawReleased carSides (by decide) s (by simp [State.closeTime, hl])

theorem mem_carSides (x : Car × Side) : x ∈ carSides := by
  obtain ⟨_ | _, _ | _⟩ := x <;> decide

/-! ### The ends of a run (R95, R96) -/

section

variable {s : State} {i : Nat} {st : Stop}

/-- An arrival at a stop of the table: BOARDING, then ARRIVED (R95, R96). -/
theorem raiseArrived_of_stop (h : s.stops[i]? = some st) (via : Byte) :
    raiseArrived i via (enterRest .boarding (some i) false s) = raise .arrived
      (BitVec.ofNat 8 i ++ via ++ BitVec.ofInt 16 (s.moe.last.posA - st.pos)) (enterRest .boarding (some i) false s) := by
  have hstops : (enterRest .boarding (some i) false s).stops[i]? = some st := by simpa [State.stops] using h
  have hmoe : (enterRest .boarding (some i) false s).moe = s.moe := by simp
  simp only [raiseArrived, hstops, hmoe]
  rfl

theorem hlcUpdate_of_moving (h : s.moe.last.still = false) : hlcUpdate s = s := by
  rw [hlcUpdate, if_neg (by simp [h])]

theorem hlcUpdate_of_no_run (h1 : s.hlc.state ≠ .running) (h2 : s.hlc.state ≠ .serviceStop) : hlcUpdate s = s := by
  simp [hlcUpdate, h1, h2]

theorem hlcUpdate_of_stopped (hstill : s.moe.last.still = true) (h : s.hlc.state = .serviceStop) :
    hlcUpdate s = endServiceStop s := by
  rw [hlcUpdate, if_pos hstill, if_pos h]

theorem endServiceStop_of_berth (h : s.berthing s.moe.last.posA = some i) :
    endServiceStop s = raiseArrived i 2 (enterRest .boarding (some i) false s) := by
  simp only [endServiceStop, h]

theorem endServiceStop_of_no_berth (h : s.berthing s.moe.last.posA = none) :
    endServiceStop s = enterRest .parked none false s := by
  simp only [endServiceStop, h]

theorem atTarget_iff (htarget : s.hlc.target = some i) (h : s.stops[i]? = some st) :
    s.atTarget = true ↔ (s.moe.last.posA - st.pos).natAbs ≤ st.half := by
  simp [State.atTarget, htarget, h, Stop.contains]

theorem hlcUpdate_of_arrival (hstill : s.moe.last.still = true) (hrun : s.hlc.state = .running)
    (htarget : s.hlc.target = some i) (hat : s.atTarget = true) :
    hlcUpdate s = raiseArrived i 1 (enterRest .boarding (some i) false s) := by
  rw [hlcUpdate, if_pos hstill, if_neg (by simp [hrun]), if_pos ⟨hrun, hat⟩]
  simp only [arrive, htarget]

theorem hlcUpdate_of_short (hrun : s.hlc.state = .running) (hat : s.atTarget = false) : hlcUpdate s = s := by
  simp [hlcUpdate, hrun, hat]

/-- The state in which ARRIVED is raised (R36, R45, R50, R51, R131). -/
theorem enterRest_boarding (s : State) (i : Nat) :
    let u := enterRest .boarding (some i) false s
    u.hlc = { s.hlc with state := .boarding, berth := some i, boardingOpen := false, armTimer := none } ∧
    u.env = { s.env with mode := .off, e := 0 } ∧ u.brs.tier = .normal ∧ u.brs.aboveService = false ∧
    u.brs.lossFlag = false ∧ u.brs.lossTimer = none ∧ u.brs.sup.active = false ∧ u.brs.sup.expiry = none ∧
    u.brs.trip = s.brs.trip ∧ u.adu = { s.adu with fullA := false, fullB := false } ∧ u.rif = s.rif ∧
    u.rpu = s.rpu ∧ u.moe = s.moe ∧ u.dru = s.dru ∧ u.mga = s.mga ∧ u.test = s.test := by
  have henv := enterRest_env (st := .boarding) rfl (some i) false s
  simp [henv, enterRest_adu]

end

/-! ### The obligation -/

/-- The four blocks take the update of the Motion Estimator (R10). -/
theorem motionUpdate_blocks (s : State) : motionUpdate s =
    hlcUpdate (druUpdate (brsUpdate (envUpdate { s with moe := (motionUpdate s).moe }))) := by
  have hstored : storeMotion (judgeStill s) = { s with moe := (motionUpdate s).moe } := by
    rw [motionUpdate_moe]
    rfl
  rw [← hstored]
  rfl

/-- Supervision ended by STILL (R50). -/
def State.unsupervised (t : State) (still : Bool) : State :=
  if still then t.withBrs { t.brs with sup := t.brs.sup.ended } else t

/-- The Brake Supervisor's judgements in order, and the end of supervision (R44, R50, R51, R53, R68, R71). -/
theorem brsUpdate_eq (s : State) : brsUpdate s =
    (judgeTest (judgeLoss (if s.hlc.state ≠ .tripped ∧ s.overruns then trip .overrun (judgeTier s)
      else judgeTier s))).unsupervised s.moe.last.still := by
  have hoverruns : (judgeTier s).overruns = s.overruns := by simp [State.overruns, State.line, State.stops]
  have hmoe : (judgeTest (judgeLoss (if s.hlc.state ≠ .tripped ∧ s.overruns then trip .overrun (judgeTier s)
      else judgeTier s))).moe = s.moe := by split <;> simp
  simp only [brsUpdate, hoverruns, hmoe]
  rfl

/-- Settles O36: the update is the composition of the blocks; the withdrawal is `Withdrawn` over the released
car-sides, and the ends of a run are the entries to rest. -/
theorem updatesWithdrawDoorsAndEndRuns : Obligations.UpdatesWithdrawDoorsAndEndRuns := by
  unfold Obligations.UpdatesWithdrawDoorsAndEndRuns
  refine ⟨fun s => ⟨motionUpdate_blocks s, motionUpdate_last s, motionUpdate_channel s⟩, fun s => ⟨fun h => ?_, fun h => ?_⟩,
    fun s => ⟨fun h => ?_, fun h => ?_⟩, fun s => rfl, fun s l hl => ⟨fun h => ?_, fun hstate hknown => ?_⟩, fun s =>
    ⟨hlcUpdate_of_moving, fun h => hlcUpdate_of_no_run h.1 h.2, fun hstill hstop => ⟨fun i st hi hst => ?_, fun hnone => ?_⟩,
      fun hstill hrun i st hi hst => ⟨fun hat => ?_, fun hshort => ?_⟩⟩⟩
  · rw [envUpdate, if_pos (by simpa [State.freezes] using h)]
  · rw [envUpdate, if_neg (by simpa [State.freezes] using h)]
  · have hpos := brsUpdate_eq s
    rw [if_pos ⟨h.1, (overruns_iff s).mpr h.2⟩] at hpos
    exact hpos
  · have hnot : ¬ (s.hlc.state ≠ .tripped ∧ s.overruns = true) := fun hboth =>
      h.elim hboth.1 fun hb => hb ((overruns_iff s).mp hboth.2)
    have hneg := brsUpdate_eq s
    rw [if_neg hnot] at hneg
    exact hneg
  · rw [judgeWithdrawal, if_neg h]
  · have hw := judgeWithdrawal_withdrawn hl hstate hknown
    refine ⟨fun car side => ?_, hw.movingOpen, hw.reports, hw.slots, hw.txSeq, hw.fifo, hw.reply, hw.report, hw.rpu,
      hw.hlc, hw.brs, hw.env, hw.moe, hw.adu, hw.mga, hw.test⟩
    rw [hw.door]
    simp only [List.mem_filter, mem_carSides, true_and]
    rfl
  · exact ⟨_, by rw [hlcUpdate_of_stopped hstill hstop, endServiceStop_of_berth hi, raiseArrived_of_stop hst],
      enterRest_boarding s i⟩
  · simp only [hlcUpdate_of_stopped hstill hstop, endServiceStop_of_no_berth hnone]
    have henv := enterRest_env (st := .parked) rfl none false s
    simp [henv, enterRest_adu]
  · exact ⟨_, by rw [hlcUpdate_of_arrival hstill hrun hi ((atTarget_iff hi hst).mpr hat), raiseArrived_of_stop hst],
      enterRest_boarding s i⟩
  · refine hlcUpdate_of_short hrun (Bool.eq_false_iff.mpr fun hat => ?_)
    exact absurd ((atTarget_iff hi hst).mp hat) (Nat.not_le.mpr hshort)

end Sys2Proof.Machine

end

/-! ## REINIT (R25, R42, R53, R65, R79, R102, R119, R138, R154, R186) -/

section

namespace Sys2Proof.Machine

/-! ### An evaluation at rest (R36, R43) -/

/-- The Brake Supervisor with the thresholds of E 0 in mode OFF (R43). -/
def Brs.atZero (b : Brs) : Option Line → Brs
  | some l => { b with tWarn := l.cw, tSvc := l.cs, tEmg := min l.ce l.vTripAbs }
  | none => { b with tWarn := 0, tSvc := 0, tEmg := 0 }

theorem recomputeThresholds_of_zero {s : State} (hmode : s.env.mode = .off) (he : s.env.e = 0) :
    recomputeThresholds s = s.withBrs (s.brs.atZero s.line) := by
  unfold recomputeThresholds
  cases hl : s.line <;>
    simp [Brs.atZero, warnThreshold, serviceThreshold, emergencyThreshold, withMargin, hmode, he]

theorem Brs.eq_self_of_thresholds {b : Brs} {x y z : Nat} (hx : b.tWarn = x) (hy : b.tSvc = y) (hz : b.tEmg = z) :
    ({ b with tWarn := x, tSvc := y, tEmg := z } : Brs) = b := by
  subst hx hy hz
  rfl

/-- The thresholds are those of the envelope in force, so recomputing them changes nothing. -/
theorem recomputeThresholds_of_follow {s : State} (h : s.thresholdsFollow) : recomputeThresholds s = s := by
  unfold State.thresholdsFollow at h
  unfold recomputeThresholds
  cases hl : s.line with
  | none =>
    simp only [hl] at h ⊢
    rw [Brs.eq_self_of_thresholds h.1 h.2.1 h.2.2]
    rfl
  | some l =>
    simp only [hl] at h ⊢
    rw [Brs.eq_self_of_thresholds h.1 h.2.1 h.2.2]
    rfl

theorem recomputeThresholds_follow (s : State) : (recomputeThresholds s).thresholdsFollow := by
  unfold State.thresholdsFollow recomputeThresholds
  cases hl : s.line <;> simp [State.line, show s.mga.active.line = _ from hl]

theorem handOn_of_other {mode : EnvMode} {e : Nat} {s : State} (h : mode ≠ s.env.mode ∨ e ≠ s.env.e) :
    handOn mode e s = recomputeThresholds (s.withEnv { s.env with mode := mode, e := e }) :=
  if_pos h

theorem handOn_of_same {mode : EnvMode} {e : Nat} {s : State} (hmode : s.env.mode = mode) (he : s.env.e = e) :
    handOn mode e s = s := by
  subst hmode he
  exact if_neg (by simp)

theorem evaluateIn_off (s : State) : evaluateIn .off s = handOn .off 0 s := rfl

/-- An evaluation at rest of an envelope that is OFF puts E 0 and its thresholds in force. -/
theorem envEvaluate_of_off {s : State} (hrest : s.hlc.state.atRest = true) (hmode : s.env.mode = .off)
    (h : s.thresholdsFollow) : envEvaluate s =
      (s.withEnv { s.env with mode := .off, e := 0 }).withBrs (s.brs.atZero s.line) := by
  have hsettled : s.settledMode = .off := by rw [State.settledMode, if_pos hrest]
  have hzero : recomputeThresholds (s.withEnv { s.env with mode := .off, e := 0 }) =
      (s.withEnv { s.env with mode := .off, e := 0 }).withBrs (s.brs.atZero s.line) :=
    recomputeThresholds_of_zero rfl rfl
  rw [envEvaluate, hsettled, evaluateIn_off, ← hzero]
  by_cases he : s.env.e = 0
  · have henv : s.withEnv { s.env with mode := .off, e := 0 } = s := by rw [← hmode, ← he]; rfl
    rw [handOn_of_same hmode he, henv, recomputeThresholds_of_follow h]
  · rw [handOn_of_other (.inr (Ne.symm he))]

/-! ### A motion update without speed in PARKED or TRIPPED -/

theorem judgeTier_of_rest {s : State} (h : s.hlc.state.atRest = true) : judgeTier s = s := by
  simp [judgeTier, h]

theorem judgeLoss_of_rest {s : State} (h : s.hlc.state.atRest = true) : judgeLoss s = s := by
  obtain h | h | h := (HaulState.atRest_iff _).mp h <;> simp [judgeLoss, h]

theorem judgeTest_of_idle {s : State} (hsvc : s.test.svc.status = .idle) (hemg : s.test.emg.status = .idle) :
    judgeTest s = s := by
  simp [judgeTest, hsvc, hemg]

theorem envUpdate_of_off {s : State} (h : s.env.mode = .off) : envUpdate s = envEvaluate s := by
  simp [envUpdate, State.freezes, h]

theorem judgeWithdrawal_of_not_boarding {s : State} (h : s.hlc.state ≠ .boarding) : judgeWithdrawal s = s := by
  simp [judgeWithdrawal, h]

/-- Without speed no door is open while moving (R115). -/
theorem judgeMovingOpen_of_stopped {s : State} (h : s.moe.last.v = 0) : judgeMovingOpen false s =
    s.withDru { s.dru with movingOpen := if s.line = none then s.dru.movingOpen else false } := by
  unfold judgeMovingOpen
  cases hl : s.line with
  | none => rfl
  | some l =>
    have hslow : s.movingOpenNow l = false := by simp [State.movingOpenNow, h]
    simp [hslow, setMovingOpen]

/-- The overrun trip as an update at rest judges it (R53). -/
def judgeOverrun (s : State) : State := if s.hlc.state ≠ .tripped ∧ s.overruns then trip .overrun s else s

/-- The Brake Supervisor at rest, with no test in progress and STILL clear, judges the overrun alone. -/
theorem brsUpdate_of_rest {s : State} (hrest : s.hlc.state.atRest = true)
    (hrest' : (judgeOverrun s).hlc.state.atRest = true) (hsvc : (judgeOverrun s).test.svc.status = .idle)
    (hemg : (judgeOverrun s).test.emg.status = .idle) (hstill : s.moe.last.still = false) :
    brsUpdate s = judgeOverrun s := by
  have htier := judgeTier_of_rest hrest
  have heq := brsUpdate_eq s
  rw [htier] at heq
  rw [heq, hstill]
  change (judgeTest (judgeLoss (judgeOverrun s))).unsupervised false = _
  rw [judgeLoss_of_rest hrest', judgeTest_of_idle hsvc hemg]
  rfl

/-- A motion update in PARKED or TRIPPED that carries no speed and no STILL, with the envelope OFF and no test in
progress: the envelope's evaluation, the overrun judgement and the moving-open flag are all that is left of it. -/
theorem motionUpdate_of_rest {s : State} (hmode : s.env.mode = .off)
    (hstate : s.hlc.state = .parked ∨ s.hlc.state = .tripped) (hv : (motionUpdate s).moe.last.v = 0)
    (hstill : (motionUpdate s).moe.last.still = false)
    {u w : State} (hu : envEvaluate { s with moe := (motionUpdate s).moe } = u) (hw : judgeOverrun u = w)
    (huhlc : u.hlc = s.hlc) (humoe : u.moe = (motionUpdate s).moe) (hwmoe : w.moe = u.moe)
    (hwstate : w.hlc.state = .parked ∨ w.hlc.state = .tripped)
    (hsvc : w.test.svc.status = .idle) (hemg : w.test.emg.status = .idle) :
    motionUpdate s = w.withDru { w.dru with movingOpen := if w.line = none then w.dru.movingOpen else false } := by
  have hrest : ∀ st : HaulState, st = .parked ∨ st = .tripped → st.atRest = true := by
    rintro _ (rfl | rfl) <;> rfl
  have hbrs : brsUpdate u = w := by
    rw [← hw] at hwstate hsvc hemg ⊢
    exact brsUpdate_of_rest (hrest _ (by rw [huhlc]; exact hstate)) (hrest _ hwstate) hsvc hemg (by rw [humoe, hstill])
  have hwv : w.moe.last.v = 0 := by rw [hwmoe, humoe, hv]
  have hboarding : w.hlc.state ≠ .boarding := by obtain h | h := hwstate <;> simp [h]
  have hblocks := motionUpdate_blocks s
  rw [envUpdate_of_off (by exact hmode), hu, hbrs, druUpdate, judgeMovingOpen_of_stopped hwv,
    judgeWithdrawal_of_not_boarding (by simpa using hboarding),
    hlcUpdate_of_moving (by simpa [hwmoe, humoe] using hstill)] at hblocks
  exact hblocks

end Sys2Proof.Machine

end

section

namespace Sys2Proof.Machine

/-! ### The Motion Estimator at REINIT (R25) -/

/-- The Motion Estimator after the update of REINIT: no channel, no speed. -/
def Moe.cleared (m : Moe) : Moe :=
  { m.reinit with last := { v := 0, known := false, dir := .none, posA := m.posA, held := true, status := m.status,
                            still := false } }

theorem motionUpdate_moe_of_reinit {s : State} {m : Moe} (h : s.moe = m.reinit) :
    (motionUpdate s).moe = m.cleared := by
  have hmoving : s.stillCondition s.moe.motion = false := by
    rw [State.stillCondition, h]
    cases s.line <;> rfl
  rw [motionUpdate_moe, judgeStill_of_moving hmoving, h]
  rfl

/-! ### Up to the update -/

/-- The state that the update of REINIT meets. -/
def State.reinitialized (s : State) : State :=
  { s with
    hlc := { s.hlc with berth := s.reinitBerth, target := none, dir := .none, origin := none, stopCause := none,
                        further := 0 }
    env := s.env.reinit, brs := (recomputeThresholds (s.withEnv s.env.reinit)).brs, test := s.test.reinit,
    adu := s.adu.reinit, mga := { s.mga with pendingMask := none }, moe := s.moe.reinit }

theorem recomputeThresholds_eq (s : State) : recomputeThresholds s = s.withBrs (recomputeThresholds s).brs := rfl

theorem reinit_eq (s : State) : reinit s = motionUpdate s.reinitialized := by
  have hbrs : (recomputeThresholds ((reinitHlc s).withEnv (reinitHlc s).env.reinit)).brs =
      (recomputeThresholds (s.withEnv s.env.reinit)).brs := rfl
  simp only [reinit, State.reinitialized]
  rw [recomputeThresholds_eq, hbrs]
  generalize (recomputeThresholds (s.withEnv s.env.reinit)).brs = b
  refine congrArg motionUpdate ?_
  simp only [State.withMoe, State.withMga, State.withAdu, State.withTest, State.withBrs, State.withEnv, reinitHlc,
    State.withHlc]

/-- The state in which the update of REINIT judges the overrun: the envelope is evaluated. -/
def State.reinitJudged (s : State) : State :=
  { s with
    hlc := { s.hlc with berth := s.reinitBerth, target := none, dir := .none, origin := none, stopCause := none,
                        further := 0 }
    env := { mode := .off, e := 0, loadClass := 0, load := 0, target := none, dir := .none }
    brs := s.brs.atZero s.line, test := s.test.reinit, adu := s.adu.reinit, mga := { s.mga with pendingMask := none },
    moe := s.moe.cleared }

theorem Brs.atZero_recomputed (s : State) (o : Option Line) : (recomputeThresholds s).brs.atZero o = s.brs.atZero o := by
  unfold recomputeThresholds
  cases s.line <;> cases o <;> rfl

/-- The evaluation of the update of REINIT (R36, R42, R43). -/
theorem envEvaluate_reinitialized {s : State} (hmode : s.env.mode = .off)
    (hstate : s.hlc.state = .parked ∨ s.hlc.state = .tripped) :
    envEvaluate { s.reinitialized with moe := (motionUpdate s.reinitialized).moe } = s.reinitJudged := by
  have hrest : s.hlc.state.atRest = true := by obtain h | h := hstate <;> rw [h] <;> rfl
  have hfollow : State.thresholdsFollow { s.reinitialized with moe := (motionUpdate s.reinitialized).moe } :=
    recomputeThresholds_follow (s.withEnv s.env.reinit)
  rw [envEvaluate_of_off (by exact hrest) (by exact hmode) hfollow, motionUpdate_moe_of_reinit (m := s.moe) rfl]
  have hbrs : s.reinitialized.brs.atZero s.line = s.brs.atZero s.line := Brs.atZero_recomputed _ _
  change ((_ : State).withEnv _).withBrs (s.reinitialized.brs.atZero s.line) = _
  rw [hbrs]
  rfl

/-! ### A trip at rest (R55, R56) -/

section

variable {s : State} {cause : TripCause}

theorem trip_of_no_stage (h : s.test.svc.status = .idle) :
    trip cause s = if s.brs.trip.latched then addTrip cause s else latchTrip cause s := by
  have htest : ∀ u : State, u.test = s.test → testOnTrip cause u = u := fun u hu => by
    simp [testOnTrip, hu, h]
  unfold trip
  split
  · exact htest _ (by simp)
  · exact htest _ (by simp)

theorem latchTrip_hlc : (latchTrip cause s).hlc =
    { s.hlc with state := .tripped, berth := none, boardingOpen := false, armTimer := none } := by
  simp [latchTrip, enterTripped, raiseTrip]

theorem latchTrip_env : (latchTrip cause s).env = { s.env with mode := .off, e := 0 } := by
  have henv := fun u => enterRest_env (st := .tripped) rfl none false u
  simp [latchTrip, enterTripped, raiseTrip, henv]

theorem latchTrip_adu : (latchTrip cause s).adu = s.adu := by
  simp [latchTrip, enterTripped, raiseTrip, enterRest_adu]

theorem latchTrip_trip : (latchTrip cause s).brs.trip =
    { latched := true, first := some cause, causes := cause.bit, posA := s.moe.last.posA, v := s.moe.last.signed,
      time := s.clock } := by
  simp [latchTrip, enterTripped, raiseTrip]

/-- A trip with the envelope OFF at E 0 leaves every block but the haul, the Brake Supervisor and the two that send. -/
theorem trip_leaves {w : State} {b : Bool} (hmode : s.env.mode = .off) (he : s.env.e = 0)
    (hw : w = if b then addTrip cause s else latchTrip cause s) :
    w.moe = s.moe ∧ w.env = s.env ∧ w.test = s.test ∧ w.adu = s.adu ∧ w.mga = s.mga := by
  have henv : ({ s.env with mode := .off, e := 0 } : Env) = s.env := by rw [← hmode, ← he]
  subst hw
  split
  · simp
  · simp [latchTrip_env, latchTrip_adu, henv]

end

/-! ### The update -/

/-- The Door Release Unit at REINIT (R119). -/
def State.reinitDru (s : State) : Dru :=
  { s.dru with movingOpen := if s.line = none then s.dru.movingOpen else false }

/-- REINIT without an overrun to judge. -/
theorem reinit_of_within {s : State} (hmode : s.env.mode = .off)
    (hstate : s.hlc.state = .parked ∨ s.hlc.state = .tripped)
    (h : s.hlc.state = .tripped ∨ ¬ s.reinitJudged.Beyond) : reinit s = s.reinitJudged.withDru s.reinitDru := by
  have hquiet : judgeOverrun s.reinitJudged = s.reinitJudged :=
    if_neg fun hboth => h.elim hboth.1 fun hb => hb ((overruns_iff _).mp hboth.2)
  have hmoe := motionUpdate_moe_of_reinit (s := s.reinitialized) (m := s.moe) rfl
  have hupdate := motionUpdate_of_rest (s := s.reinitialized) hmode hstate (by rw [hmoe]; rfl) (by rw [hmoe]; rfl)
    (envEvaluate_reinitialized hmode hstate) hquiet rfl hmoe.symm rfl hstate rfl rfl
  rw [reinit_eq, hupdate]
  rfl

/-- REINIT of a haul that is PARKED beyond the stops (R53). -/
theorem reinit_of_beyond {s : State} (hmode : s.env.mode = .off) (hstate : s.hlc.state = .parked)
    (h : s.reinitJudged.Beyond) : ∃ w, reinit s = w.withDru s.reinitDru ∧
      w = (if s.brs.trip.latched then addTrip .overrun s.reinitJudged else latchTrip .overrun s.reinitJudged) ∧
      Undisturbed s.reinitJudged w := by
  have hparked : s.reinitJudged.hlc.state = .parked := hstate
  have htrips : judgeOverrun s.reinitJudged = trip .overrun s.reinitJudged :=
    if_pos ⟨by simp [hparked], (overruns_iff _).mpr h⟩
  have hlatched : s.reinitJudged.brs.trip.latched = s.brs.trip.latched := by
    cases hl : s.line <;> simp [State.reinitJudged, Brs.atZero, hl]
  have htrip : trip .overrun s.reinitJudged =
      if s.brs.trip.latched then addTrip .overrun s.reinitJudged else latchTrip .overrun s.reinitJudged := by
    rw [trip_of_no_stage rfl, hlatched]
  have htest : (trip .overrun s.reinitJudged).test = s.reinitJudged.test := by
    rw [htrip]; split <;> simp
  have hhlc : (trip .overrun s.reinitJudged).hlc.state = .parked ∨
      (trip .overrun s.reinitJudged).hlc.state = .tripped := by
    rw [htrip]; split
    · exact .inl (by simpa using hparked)
    · exact .inr (by rw [latchTrip_hlc])
  have hmoe := motionUpdate_moe_of_reinit (s := s.reinitialized) (m := s.moe) rfl
  refine ⟨trip .overrun s.reinitJudged, ?_, htrip, Undisturbed.trip _ _⟩
  have hupdate := motionUpdate_of_rest (s := s.reinitialized) hmode (.inl hstate) (by rw [hmoe]; rfl)
    (by rw [hmoe]; rfl) (envEvaluate_reinitialized hmode (.inl hstate)) htrips rfl hmoe.symm (by simp) hhlc
    (by rw [htest]; rfl) (by rw [htest]; rfl)
  rw [reinit_eq, hupdate]
  simp only [State.line, (trip_frame _ _).2.2.2.2.2.2.1, (trip_frame _ _).2.2.2.2.2.2.2.2]
  rfl

/-! ### The obligation -/

section

variable {s : State} {arr : Arrival} {tag : Byte}

theorem rowAct_reinit (h : ManagerArrives s arr [0x10, tag])
    (hstate : s.hlc.state = .parked ∨ s.hlc.state = .tripped) :
    rowAct (.reinit arr tag []) (begin arr.elapsed s) =
      (reinit (s.asked arr)).replied s arr 0x10 tag 0x00 [] := by
  have hd : decideRequest 0x10 [] (s.asked arr) = accept [] (reinit (s.asked arr)) := if_pos hstate
  have hact := rowAct_of_manager (c := .reinit arr tag []) (body := []) rfl h
  rw [hd] at hact
  exact hact

/-- The state after an accepted REINIT that trips nothing, block by block. -/
theorem reinitJudged_replied (s : State) (arr : Arrival) (tag : Byte) :
    ((s.asked arr).reinitJudged.withDru (s.asked arr).reinitDru).replied s arr 0x10 tag 0x00 [] =
      { begin arr.elapsed s with
        rif := s.answered (mgmtReply s arr 0x10 tag 0x00 []), moe := s.moe.cleared
        env := { mode := .off, e := 0, loadClass := 0, load := 0, target := none, dir := .none }
        test := s.test.reinit
        hlc := { s.hlc with berth := s.reinitBerth, target := none, dir := .none, origin := none, stopCause := none,
                            further := 0 }
        dru := s.reinitDru, adu := s.adu.reinit, mga := { s.mga with pendingMask := none }
        brs := s.brs.atZero s.line } := rfl

end

/-- Settles O58: REINIT is the update of `State.reinitialized`, of which the envelope's evaluation, the overrun judgement
and the moving-open flag are left. -/
theorem reinitClearsTheRunAndTheCounts : Obligations.ReinitClearsTheRunAndTheCounts := by
  unfold Obligations.ReinitClearsTheRunAndTheCounts
  intro s arr tag h
  refine ⟨fun hstate => exec_of_refused (r := .state) rfl rfl h (if_neg hstate), fun hstate hmode => ⟨fun hwithin => ?_,
    fun hparked hbeyond => ?_⟩⟩
  · have hact := rowAct_reinit h hstate
    rw [reinit_of_within (s := s.asked arr) hmode hstate hwithin, reinitJudged_replied] at hact
    rw [exec_of_running (e := arr.elapsed) rfl h.running, hact]
    refine congrArg Host.Outcome.next ((settle_of_none rfl).trans ?_)
    simp only [State.reinitDru]
    cases hl : s.line <;> rfl
  · have hact := rowAct_reinit h hstate
    obtain ⟨w, hw, htrip, hkept⟩ := reinit_of_beyond (s := s.asked arr) hmode hparked hbeyond
    obtain ⟨hmoe, henv, htest, hadu, hmga⟩ := trip_leaves rfl rfl htrip
    have hsettle : settle (begin arr.elapsed s) ((w.withDru (s.asked arr).reinitDru).replied s arr 0x10 tag 0x00 []) =
        (w.withDru (s.asked arr).reinitDru).replied s arr 0x10 tag 0x00 [] := settle_of_none (by simp [hmga]; rfl)
    rw [hw] at hact
    refine ⟨_, (exec_of_running (e := arr.elapsed) rfl h.running).trans (congrArg Host.Outcome.next
      ((congrArg _ hact).trans hsettle)), hmoe, henv, htest, rfl, hadu, hmga, ?_, hkept.fifo, fun hlatched => ?_⟩
    · exact congrArg (· ++ [mgmtReply s arr 0x10 tag 0x00 []]) hkept.reply
    · have hlatch : w = latchTrip .overrun (s.asked arr).reinitJudged := by
        rw [htrip, if_neg (by simp [hlatched])]
      have hhlc := congrArg State.hlc hlatch
      have hrecord := congrArg (·.brs.trip) hlatch
      rw [latchTrip_hlc] at hhlc
      simp only [latchTrip_trip] at hrecord
      exact ⟨hhlc, hrecord⟩

end Sys2Proof.Machine

end

/-! ## A new LINE record in the Motion Estimator (R7, R12, R13, R21) -/

section

namespace Sys2Proof.Machine

/-! ### The relined records -/

@[simp] theorem Moe.relined_channel (m : Moe) (l : Line) (ch : ChannelId) :
    (m.relined l).channel ch = (m.channel ch).relined l ch := by
  cases ch <;> simp [Moe.relined]

@[simp] theorem Moe.relined_frame (m : Moe) (l : Line) :
    (m.relined l).source = m.source ∧ (m.relined l).posA = m.posA ∧ (m.relined l).gap = m.gap ∧
    (m.relined l).status = m.status ∧ (m.relined l).still = m.still ∧ (m.relined l).candidate = m.candidate ∧
    (m.relined l).stillTimer = m.stillTimer ∧ (m.relined l).counters = m.counters := by
  simp [Moe.relined]

/-- Both sheaves with a history are re-based at posA, which stays (R21). -/
theorem Moe.relined_reference {m : Moe} {sh : Sheave} {newest : Sample} (l : Line)
    (h : (m.channel sh.channel).history.getLast? = some newest) :
    (m.relined l).reference sh = { count := newest.count, pos := m.posA } := by
  rw [← Moe.moveTo_reference h m.posA]
  cases sh <;> rfl

/-- A new record moves no history. -/
theorem Channel.relined_history (c : Channel) (l : Line) (ch : ChannelId) : (c.relined l ch).history = c.history := by
  have hest : (c.estimated (l.channel ch)).history = c.history := by rw [Channel.estimated_eq]
  simp only [Channel.relined]
  (repeat' split) <;> simp [hest]

/-! ### Expiries at once -/

theorem bumpBy_get {n : Nat} (v : Vector (BitVec 16) n) (i j : Fin n) (k : Nat) :
    (bumpBy v i k)[j] = if j = i then satAdd v[j] k else v[j] := by
  by_cases h : j = i
  · simp [bumpBy, h]
  · simp [bumpBy, h, Fin.val_inj, Ne.symm h]

theorem expired_idx_inj {ch ch' : ChannelId} :
    (MotionCounter.channel ch .expired).idx = (MotionCounter.channel ch' .expired).idx ↔ ch = ch' := by
  cases ch <;> cases ch' <;> decide

@[simp] theorem Moe.setSlip_reference (m : Moe) (car : Car) (p : Persistence) (sh : Sheave) :
    (m.setSlip car p).reference sh = m.reference sh := by
  cases sh <;> simp [Moe.reference]

@[simp] theorem Moe.expiring_rest (m : Moe) (ch : ChannelId) :
    (m.expiring ch).still = m.still ∧ (m.expiring ch).candidate = m.candidate ∧
    (m.expiring ch).stillTimer = m.stillTimer ∧ (m.expiring ch).ref1 = m.ref1 ∧ (m.expiring ch).ref2 = m.ref2 := by
  simp [Moe.expiring]

@[simp] theorem expireChannel_still (s : State) (ch : ChannelId) :
    (expireChannel ch s).moe.still = s.moe.still ∧ (expireChannel ch s).moe.candidate = s.moe.candidate ∧
    (expireChannel ch s).moe.stillTimer = s.moe.stillTimer := by
  cases h : carOfChannel ch with
  | some car => simp [expireChannel_of_car h]
  | none => simp [expireChannel_of_sheave h]

/-- The expiry of a car leaves source, gap mark, status and references. -/
theorem expireChannel_car_kept {ch : ChannelId} {car : Car} (h : carOfChannel ch = some car) (s : State) :
    (expireChannel ch s).moe.source = s.moe.source ∧ (expireChannel ch s).moe.gap = s.moe.gap ∧
    (expireChannel ch s).moe.status = s.moe.status ∧
    ∀ sh, (expireChannel ch s).moe.reference sh = s.moe.reference sh := by
  rw [expireChannel_of_car h]
  exact ⟨by simp, by simp, by simp, fun sh => by cases sh <;> simp [Moe.reference]⟩

/-- The references stand at a position, at the counts of the given newest entries. -/
def Moe.Rebased (newest : Sheave → Option Sample) (pos : Int) (m : Moe) : Prop :=
  ∀ sh x, newest sh = some x → m.reference sh = { count := x.count, pos := pos }

/-- The re-choice of the source re-bases at posA, so it keeps references that stand there. -/
theorem Moe.Rebased.chooseSource {newest : Sheave → Option Sample} {m : Moe} (h : m.Rebased newest m.posA)
    (hch : ∀ sh, (m.channel sh.channel).history = [] ∨ (m.channel sh.channel).history.getLast? = newest sh) :
    m.chooseSource.Rebased newest m.posA := by
  intro sh x hx
  rw [Moe.chooseSource_reference]
  split
  · obtain hnil | hlast := hch sh
    · rw [Moe.rebase, hnil]
      exact h sh x hx
    · exact Moe.rebase_reference (hlast.trans hx) _
  · exact h sh x hx

/-- An expiry brings no source. -/
theorem expireChannel_held {s : State} (hs : s.moe.Sound) (ch : ChannelId) (h : s.moe.source = none) :
    (expireChannel ch s).moe.source = none := by
  have hstate : ∀ c, ((expireChannel ch s).moe.channel c).state = .fresh → (s.moe.channel c).state = .fresh := fun c => by
    rw [expireChannel_channel]
    split
    · simp [Channel.expired]
    · exact id
  obtain ⟨h1, h2⟩ := (Moe.choice_eq_none _).mp (hs.source.symm.trans h)
  rw [(hs.expireChannel ch).source, Moe.choice_eq_none]
  exact ⟨mt (hstate .s1) h1, mt (hstate .s2) h2⟩

/-- The channels of a list expired at once where they are due in s (R21; log 16). -/
structure AtOnce (s : State) (done : List ChannelId) (t : State) : Prop where
  sound : t.moe.Sound
  clock : t.clock = s.clock
  channel : ∀ ch, t.moe.channel ch =
    if ch ∈ done ∧ s.channelDue ch then (s.moe.channel ch).expired else s.moe.channel ch
  expired : ∀ ch, t.moe.counters[(MotionCounter.channel ch .expired).idx] =
    if ch ∈ done ∧ s.channelDue ch then satAdd s.moe.counters[(MotionCounter.channel ch .expired).idx] 1
    else s.moe.counters[(MotionCounter.channel ch .expired).idx]
  posA : t.moe.posA = s.moe.posA
  still : t.moe.still = s.moe.still ∧ t.moe.candidate = s.moe.candidate ∧ t.moe.stillTimer = s.moe.stillTimer
  reference : ∀ newest : Sheave → Option Sample, (∀ sh, newest sh = (s.moe.channel sh.channel).history.getLast?) →
    s.moe.Rebased newest s.moe.posA → t.moe.Rebased newest s.moe.posA
  held : s.moe.source = none → t.moe.source = none
  gap : s.moe.gap = false → t.moe.status = s.moe.status ∧
    (t.moe.gap = true ↔ t.moe.source = none ∧ s.moe.source ≠ none ∧ s.moe.status.trusted = true)

theorem AtOnce.nil {s : State} (h : s.moe.Sound) : AtOnce s [] s where
  sound := h
  clock := rfl
  channel _ := by simp
  expired _ := by simp
  posA := rfl
  still := ⟨rfl, rfl, rfl⟩
  reference _ _ h := h
  held h := h
  gap hgap := ⟨rfl, by simp only [hgap, Bool.false_eq_true, false_iff]; exact fun h => h.2.1 h.1⟩

/-- A channel that is not due is passed over. -/
theorem AtOnce.skip {s t : State} {done : List ChannelId} {ch : ChannelId} (h : AtOnce s done t)
    (hdue : s.channelDue ch = false) : AtOnce s (ch :: done) t := by
  have hiff : ∀ ch', (ch' ∈ ch :: done ∧ s.channelDue ch' = true) ↔ (ch' ∈ done ∧ s.channelDue ch' = true) := by
    intro ch'
    by_cases he : ch' = ch
    · simp [he, hdue]
    · simp [he]
  exact { h with
    channel := fun ch' => by simp only [hiff]; exact h.channel ch'
    expired := fun ch' => by simp only [hiff]; exact h.expired ch' }

section

variable {s t : State} {done : List ChannelId} {ch : ChannelId}

/-- The channels after one more expiry. -/
theorem AtOnce.expire_channel (h : AtOnce s done t) (hnew : ch ∉ done) (hdue : s.channelDue ch = true)
    (ch' : ChannelId) : (expireChannel ch t).moe.channel ch' =
      if ch' ∈ ch :: done ∧ s.channelDue ch' then (s.moe.channel ch').expired else s.moe.channel ch' := by
  rw [expireChannel_channel]
  by_cases he : ch' = ch
  · subst he
    simp [h.channel, hnew, hdue]
  · simp [he, h.channel]

theorem AtOnce.expire_count (h : AtOnce s done t) (hnew : ch ∉ done) (hdue : s.channelDue ch = true)
    (ch' : ChannelId) : (expireChannel ch t).moe.counters[(MotionCounter.channel ch' .expired).idx] =
      if ch' ∈ ch :: done ∧ s.channelDue ch' then satAdd s.moe.counters[(MotionCounter.channel ch' .expired).idx] 1
      else s.moe.counters[(MotionCounter.channel ch' .expired).idx] := by
  rw [(expireChannel_moe_kept t ch).2, bumpBy_get, h.expired]
  by_cases he : ch' = ch
  · subst he
    simp [hnew, hdue]
  · simp [he, expired_idx_inj]

/-- The references after one more expiry. -/
theorem AtOnce.expire_reference (h : AtOnce s done t) (hnew : ch ∉ done) (hdue : s.channelDue ch = true)
    {newest : Sheave → Option Sample} (hnewest : ∀ sh, newest sh = (s.moe.channel sh.channel).history.getLast?)
    (hs : s.moe.Rebased newest s.moe.posA) : (expireChannel ch t).moe.Rebased newest s.moe.posA := by
  have ht := h.reference newest hnewest hs
  cases hcar : carOfChannel ch with
  | some car =>
    intro sh x hx
    rw [(expireChannel_car_kept hcar t).2.2.2 sh]
    exact ht sh x hx
  | none =>
    have hposA : ({ t.moe.expiring ch with disagree := .clear } : Moe).posA = s.moe.posA := by simp [h.posA]
    have hchannel : ∀ c, ({ t.moe.expiring ch with disagree := .clear } : Moe).channel c =
        (expireChannel ch t).moe.channel c := fun c => by
      rw [expireChannel_of_sheave hcar, State.withMoe_moe, Moe.chooseSource_channel]
    rw [expireChannel_of_sheave hcar, State.withMoe_moe, ← hposA]
    refine Moe.Rebased.chooseSource (fun sh x hx => ?_) fun sh => ?_
    · rw [hposA, ← ht sh x hx]
      cases sh <;> simp [Moe.reference]
    · rw [hchannel, h.expire_channel hnew hdue, hnewest]
      split
      · exact .inl rfl
      · exact .inr rfl

/-- Gap mark and status after one more expiry, where no gap mark stood (R13). -/
theorem AtOnce.expire_gap (h : AtOnce s done t) (hgap : s.moe.gap = false) :
    (expireChannel ch t).moe.status = s.moe.status ∧ ((expireChannel ch t).moe.gap = true ↔
      (expireChannel ch t).moe.source = none ∧ s.moe.source ≠ none ∧ s.moe.status.trusted = true) := by
  obtain ⟨hstatus, hiff⟩ := h.gap hgap
  cases hcar : carOfChannel ch with
  | some car =>
    obtain ⟨hsource, hgap', hstatus', -⟩ := expireChannel_car_kept hcar t
    rw [hsource, hgap', hstatus']
    exact ⟨hstatus, hiff⟩
  | none =>
    have hheld : t.moe.source = none → (expireChannel ch t).moe.source = none := expireChannel_held h.sound ch
    have hsource : s.moe.source = none → t.moe.source = none := h.held
    obtain ⟨m, hm, hmsource, hmgap, hmstatus⟩ : ∃ m : Moe, (expireChannel ch t).moe = m.chooseSource ∧
        m.source = t.moe.source ∧ m.gap = t.moe.gap ∧ m.status = s.moe.status :=
      ⟨_, by rw [expireChannel_of_sheave hcar, State.withMoe_moe], by simp, by simp, by simp [hstatus]⟩
    rw [hm] at hheld ⊢
    rw [Moe.chooseSource_status, Moe.chooseSource_gap, (Moe.chooseSource_frame m).2.2.2.2.1] at *
    cases hchoice : m.choice with
    | some sh =>
      have hsome : t.moe.source ≠ none := fun hnone => by simpa [hchoice] using hheld hnone
      have hnogap : t.moe.gap = false := Bool.eq_false_iff.mpr fun hg => hsome (hiff.mp hg).1
      simp [hmgap, hnogap, hmstatus]
    | none =>
      simp only [Option.isSome_none, Bool.false_and, Bool.false_eq_true, if_false, hmgap, hmsource, hmstatus,
        true_and, Bool.or_eq_true, hiff, Bool.and_eq_true, Option.isSome_iff_ne_none]
      constructor
      · rintro (hg | ⟨hsome, htrusted⟩)
        · exact hg.2
        · exact ⟨mt hsource hsome, htrusted⟩
      · intro hs
        by_cases hnone : t.moe.source = none
        · exact .inl ⟨hnone, hs⟩
        · exact .inr ⟨hnone, hs.2⟩

/-- One more channel of the list. -/
theorem AtOnce.step (h : AtOnce s done t) (hnew : ch ∉ done) : AtOnce s (ch :: done) (expireIfDue t ch) := by
  have hsame : t.channelDue ch = s.channelDue ch := by
    simp [State.channelDue, h.channel, h.clock, hnew]
  unfold expireIfDue
  rw [hsame]
  cases hdue : s.channelDue ch with
  | false => exact h.skip hdue
  | true =>
    obtain ⟨hstill, hcandidate, htimer⟩ := h.still
    exact
      { sound := h.sound.expireChannel ch
        clock := by simp [h.clock]
        channel := h.expire_channel hnew hdue
        expired := h.expire_count hnew hdue
        posA := by simp [h.posA]
        still := by simp [hstill, hcandidate, htimer]
        reference := fun _ hnewest hs => h.expire_reference hnew hdue hnewest hs
        held := fun hnone => expireChannel_held h.sound ch (h.held hnone)
        gap := h.expire_gap }

end

/-- The four channels under a new record (R21). -/
theorem atOnce_allChannels {s : State} (h : s.moe.Sound) :
    AtOnce s [.cb, .ca, .s2, .s1] (allChannels.foldl expireIfDue s) :=
  (((AtOnce.nil h).step (by simp)).step (by simp)).step (by simp) |>.step (by simp)

end Sys2Proof.Machine

end

/-! ## New tables taking effect (R21, R43, R98, R105, R180, R189, R192) -/

section

namespace Sys2Proof.Machine

/-! ### A motion update in PARKED or TRIPPED -/

/-- The haul is PARKED or TRIPPED, and the envelope OFF at E 0. -/
structure Resting (s : State) : Prop where
  state : s.hlc.state = .parked ∨ s.hlc.state = .tripped
  mode : s.env.mode = .off
  e : s.env.e = 0

/-- The haul stays where it was or is TRIPPED, the envelope OFF, and the Admission Unit and the doors stand. -/
structure Rested (s t : State) : Prop where
  state : t.hlc.state = s.hlc.state ∨ t.hlc.state = .tripped
  env : t.env = s.env
  adu : t.adu = s.adu
  door : ∀ car side, t.dru.door car side = s.dru.door car side

theorem Resting.atRest {s : State} (h : Resting s) : s.hlc.state.atRest = true := by
  obtain h | h := h.state <;> rw [h] <;> rfl

namespace Rested

theorem refl (s : State) : Rested s s := ⟨.inl rfl, rfl, rfl, fun _ _ => rfl⟩

theorem trans {s t u : State} (h1 : Rested s t) (h2 : Rested t u) : Rested s u where
  state := by
    obtain h | h := h2.state
    · rw [h]; exact h1.state
    · exact .inr h
  env := h2.env.trans h1.env
  adu := h2.adu.trans h1.adu
  door car side := (h2.door car side).trans (h1.door car side)

/-- The envelope and the haul stay at rest. -/
theorem resting {s t : State} (h : Rested s t) (hs : Resting s) : Resting t where
  state := by
    obtain h | h := h.state
    · rw [h]; exact hs.state
    · exact .inr h
  mode := by rw [h.env, hs.mode]
  e := by rw [h.env, hs.e]

theorem of_same {s t : State} (h : t.hlc = s.hlc ∧ t.env = s.env ∧ t.adu = s.adu ∧ t.dru = s.dru) : Rested s t := by
  obtain ⟨hhlc, henv, hadu, hdru⟩ := h
  exact ⟨.inl (by rw [hhlc]), henv, hadu, fun _ _ => by rw [hdru]⟩

theorem trip {s : State} (hs : Resting s) (cause : TripCause) : Rested s (trip cause s) := by
  have htest : ∀ u : State, Rested u (testOnTrip cause u) := fun u => by
    unfold testOnTrip
    (repeat' split)
    · exact of_same (by simp)
    · exact refl u
    · exact of_same (by simp [abortService])
    · exact refl u
  have henv : ({ s.env with mode := .off, e := 0 } : Env) = s.env := by rw [← hs.mode, ← hs.e]
  unfold Machine.trip
  refine Rested.trans ?_ (htest _)
  split
  · exact of_same (by simp)
  · exact ⟨.inr (by rw [latchTrip_hlc]), by rw [latchTrip_env, henv], latchTrip_adu, fun _ _ => by simp⟩

theorem judgeTest {s : State} (hs : Resting s) : Rested s (judgeTest s) := by
  have htrigger : ∀ id, Machine.judgeTrigger id s = s := fun id => by
    obtain h | h := hs.state <;> simp [Machine.judgeTrigger, h]
  have hstop : ∀ id, Rested s (Machine.judgeStopEnd id s) := fun id => by
    unfold Machine.judgeStopEnd
    split
    · exact of_same (by simp)
    · exact refl s
  unfold Machine.judgeTest
  split
  · rw [htrigger]; exact refl s
  · exact hstop _
  · rw [htrigger]; exact refl s
  · exact hstop _
  · exact refl s

theorem unsupervised (s : State) (still : Bool) : Rested s (s.unsupervised still) := by
  unfold State.unsupervised
  split
  · exact of_same (by simp)
  · exact refl s

theorem brsUpdate {s : State} (hs : Resting s) : Rested s (brsUpdate s) := by
  rw [brsUpdate_eq, judgeTier_of_rest hs.atRest]
  have htrip : Rested s (if s.hlc.state ≠ .tripped ∧ s.overruns then Machine.trip .overrun s else s) := by
    split
    · exact trip hs _
    · exact refl s
  have hresting := htrip.resting hs
  rw [judgeLoss_of_rest hresting.atRest]
  exact (htrip.trans (judgeTest hresting)).trans (unsupervised _ _)

theorem druUpdate {s : State} (hs : Resting s) : Rested s (druUpdate s) := by
  have hset : ∀ b, Rested s (setMovingOpen b s) := fun b => ⟨.inl rfl, rfl, rfl, setMovingOpen_door b s⟩
  have hmoving : Rested s (judgeMovingOpen false s) := by
    unfold judgeMovingOpen
    (repeat' split)
    · exact hset true
    · exact (hset true).trans (trip ((hset true).resting hs) _)
    · exact hset false
    · exact refl s
  have hboarding : (judgeMovingOpen false s).hlc.state ≠ .boarding := by
    obtain h | h := (hmoving.resting hs).state <;> simp [h]
  rw [Machine.druUpdate, judgeWithdrawal_of_not_boarding hboarding]
  exact hmoving

end Rested

/-- A motion update in PARKED or TRIPPED with the envelope OFF. -/
theorem motionUpdate_rested {s : State} (hstate : s.hlc.state = .parked ∨ s.hlc.state = .tripped)
    (hmode : s.env.mode = .off) : Resting (motionUpdate s) ∧
      ((motionUpdate s).hlc.state = s.hlc.state ∨ (motionUpdate s).hlc.state = .tripped) ∧
      (motionUpdate s).adu = s.adu ∧ ∀ car side, (motionUpdate s).dru.door car side = s.dru.door car side := by
  have hrest : s.hlc.state.atRest = true := by obtain h | h := hstate <;> rw [h] <;> rfl
  obtain ⟨u, hu⟩ : ∃ u, u = envEvaluate { s with moe := (motionUpdate s).moe } := ⟨_, rfl⟩
  have henv : u.env = { s.env with mode := .off, e := 0 } := by rw [hu]; exact envEvaluate_env_of_rest hrest
  have hhlc : u.hlc = s.hlc := by simp [hu]
  have hadu : u.adu = s.adu := by simp [hu]
  have hdru : u.dru = s.dru := by simp [hu]
  have hresting : Resting u := ⟨by rw [hhlc]; exact hstate, by rw [henv], by rw [henv]⟩
  have hbrs := Rested.brsUpdate hresting
  have hdone := hbrs.trans (Rested.druUpdate (hbrs.resting hresting))
  have hend := hdone.resting hresting
  have hblocks := motionUpdate_blocks s
  rw [envUpdate_of_off (by exact hmode), ← hu,
    hlcUpdate_of_no_run (by obtain h | h := hend.state <;> simp [h]) (by obtain h | h := hend.state <;> simp [h])]
    at hblocks
  rw [hblocks]
  refine ⟨hend, ?_, hdone.adu.trans hadu, fun car side => by rw [hdone.door, hdru]⟩
  rw [← hhlc]
  exact hdone.state

/-! ### The cars' reports under a new LINE record (R105) -/

theorem satAdd_zero (c : BitVec 16) : satAdd c 0 = c := by
  apply BitVec.eq_of_toNat_eq
  have := c.isLt
  simp only [satAdd, BitVec.toNat_ofNat]
  omega

theorem satAdd_satAdd (c : BitVec 16) (m n : Nat) : satAdd (satAdd c m) n = satAdd c (m + n) := by
  apply BitVec.eq_of_toNat_eq
  have := c.isLt
  simp only [satAdd, BitVec.toNat_ofNat]
  omega

/-- A car's reports under a new record: the expiry is moved, and idle where it is reached. -/
def CarReport.lined (x : CarReport) (l : Line) (now : Time) : CarReport :=
  match x.report with
  | some r => { report := some r, expiry := unlessReached { start := r.arrival, dur := l.tDoorFresh } now }
  | none => x

/-- A car's moved expiry is reached. -/
def CarReport.lapses (x : CarReport) (l : Line) (now : Time) : Bool :=
  x.report.any fun r => Timer.reached { start := r.arrival, dur := l.tDoorFresh } now

theorem Dru.reports_setReports (d : Dru) (car car' : Car) (r : CarReport) :
    (d.setReports car r).reports car' = if car' = car then r else d.reports car' := by
  cases car <;> cases car' <;> rfl

/-- What a car's lapse at rest leaves. -/
structure DoorLined (l : Line) (car : Car) (s t : State) : Prop where
  hlc : t.hlc = s.hlc
  env : t.env = s.env
  adu : t.adu = s.adu
  brs : t.brs = s.brs
  beacon : t.rpu.beacon = s.rpu.beacon
  clock : t.clock = s.clock
  door : ∀ car side, t.dru.door car side = s.dru.door car side
  reports : ∀ car', t.dru.reports car' =
    if car' = car then (s.dru.reports car).lined l s.clock else s.dru.reports car'
  count : ∀ k : Fin 28, t.rpu.slots[k].count = if k = EventKind.doorStateLost.code ∧
    (s.dru.reports car).lapses l s.clock = true then satAdd s.rpu.slots[k].count 1 else s.rpu.slots[k].count

theorem lapse_of_rest {s : State} (h : s.hlc.state.atRest = true) (car : Car) : lapse car s =
    raise .doorStateLost (detail4 (carCode car) s.hlc.state.code 0 0)
      (s.withDru (s.dru.setReports car { s.dru.reports car with expiry := none })) := by
  simp [lapse, h]

theorem applyLineDoor_lined {s : State} (h : s.hlc.state.atRest = true) (l : Line) (car : Car) :
    DoorLined l car s (applyLineDoor l s car) := by
  cases hr : (s.dru.reports car).report with
  | none =>
    have hsame : applyLineDoor l s car = s := by simp only [applyLineDoor, hr]
    rw [hsame]
    refine ⟨rfl, rfl, rfl, rfl, rfl, rfl, fun _ _ => rfl, fun car' => ?_, fun k => ?_⟩
    · simp only [CarReport.lined, hr]
      split
      · rename_i he; rw [he]
      · rfl
    · simp [CarReport.lapses, hr]
  | some r =>
    obtain ⟨timer, htimer⟩ : ∃ t : Timer, t = { start := r.arrival, dur := l.tDoorFresh } := ⟨_, rfl⟩
    obtain ⟨moved, hmoved⟩ : ∃ u, u = s.withDru (s.dru.setReports car
      { s.dru.reports car with expiry := some timer }) := ⟨_, rfl⟩
    cases hreached : timer.reached s.clock with
    | false =>
      have heq : applyLineDoor l s car = moved := by
        simp only [applyLineDoor, hr, ← htimer, hreached, hmoved]
        rfl
      rw [heq, hmoved]
      refine ⟨rfl, rfl, rfl, rfl, rfl, rfl, fun _ _ => by simp, fun car' => ?_, fun k => ?_⟩
      · simp [Dru.reports_setReports, CarReport.lined, hr, ← htimer, unlessReached, hreached]
      · simp [CarReport.lapses, hr, ← htimer, hreached]
    | true =>
      have heq : applyLineDoor l s car = lapse car moved := by
        simp only [applyLineDoor, hr, ← htimer, hreached, hmoved]
        rfl
      rw [heq, lapse_of_rest (by rw [hmoved]; exact h), hmoved]
      refine ⟨by simp, by simp, by simp, by simp, by simp, by simp, fun _ _ => by simp, fun car' => ?_, fun k => ?_⟩
      · by_cases he : car' = car <;>
          simp [Dru.reports_setReports, CarReport.lined, hr, ← htimer, unlessReached, hreached, he]
      · rw [raise_count]
        simp [CarReport.lapses, hr, ← htimer, hreached]

end Sys2Proof.Machine

end

section

namespace Sys2Proof.Machine

/-! ### The Motion Estimator under a new LINE record (R21) -/

/-- The state whose motion update a new record forms. -/
def State.lineJudged (s : State) (l : Line) : State :=
  let t := allChannels.foldl expireIfDue (s.withMoe (s.moe.relined l))
  t.withMoe (({ t.moe with disagree := .clear, slipA := .clear, slipB := .clear } : Moe).restill l t.clock)

theorem applyLineMoe_eq (l : Line) (s : State) : applyLineMoe l s = motionUpdate (s.lineJudged l) := rfl

@[simp] theorem lineJudged_frame (s : State) (l : Line) :
    (s.lineJudged l).clock = s.clock ∧ (s.lineJudged l).mga = s.mga ∧ (s.lineJudged l).env = s.env ∧
    (s.lineJudged l).hlc = s.hlc ∧ (s.lineJudged l).dru = s.dru ∧ (s.lineJudged l).adu = s.adu := by
  simp [State.lineJudged, allChannels]

/-- An expiry counts CAR_CHANNEL_LOST at most. -/
theorem expireIfDue_count (s : State) (ch : ChannelId) {k : Fin 28} (hk : k ≠ EventKind.carChannelLost.code) :
    (expireIfDue s ch).rpu.slots[k].count = s.rpu.slots[k].count := by
  unfold expireIfDue
  split
  · cases h : carOfChannel ch with
    | some car =>
      rw [expireChannel_of_car h, raise_count, if_neg hk]
      rfl
    | none => rw [expireChannel_of_sheave h]; rfl
  · rfl

theorem lineJudged_count (s : State) (l : Line) {k : Fin 28} (hk : k ≠ EventKind.carChannelLost.code) :
    (s.lineJudged l).rpu.slots[k].count = s.rpu.slots[k].count := by
  have hfold : ∀ (chs : List ChannelId) (u : State),
      (chs.foldl expireIfDue u).rpu.slots[k].count = u.rpu.slots[k].count := by
    intro chs
    induction chs with
    | nil => exact fun _ => rfl
    | cons ch rest ih => exact fun u => (ih _).trans (expireIfDue_count u ch hk)
  simp only [State.lineJudged, State.withMoe_rpu]
  rw [hfold, State.withMoe_rpu]

@[simp] theorem Moe.restill_frame (m : Moe) (l : Line) (now : Time) :
    (m.restill l now).s1 = m.s1 ∧ (m.restill l now).s2 = m.s2 ∧ (m.restill l now).ca = m.ca ∧
    (m.restill l now).cb = m.cb ∧ (m.restill l now).ref1 = m.ref1 ∧ (m.restill l now).ref2 = m.ref2 ∧
    (m.restill l now).source = m.source ∧ (m.restill l now).posA = m.posA ∧ (m.restill l now).gap = m.gap ∧
    (m.restill l now).status = m.status ∧ (m.restill l now).candidate = m.candidate ∧
    (m.restill l now).disagree = m.disagree ∧ (m.restill l now).slipA = m.slipA ∧
    (m.restill l now).slipB = m.slipB ∧ (m.restill l now).counters = m.counters := by
  cases hcandidate : m.candidate with
  | none => simp [Moe.restill, hcandidate]
  | some start =>
    simp only [Moe.restill, hcandidate]
    split <;> simp

theorem Moe.restill_of_none {m : Moe} (h : m.candidate = none) (l : Line) (now : Time) : m.restill l now = m := by
  simp only [Moe.restill, h]

/-- The candidate kept under a new t_still (R21). -/
theorem Moe.restill_of_some {m : Moe} {start : Time} (h : m.candidate = some start) (l : Line) (now : Time) :
    (m.restill l now).still = (m.still || decide (l.tStill ≤ (now - start).toNat)) ∧
    (m.restill l now).stillTimer = if decide (l.tStill ≤ (now - start).toNat) then none
      else some { start := start, dur := l.tStill } := by
  simp only [Moe.restill, h]
  cases hreached : Timer.reached { start := start, dur := l.tStill } now with
  | true =>
    have hpast : decide (l.tStill ≤ (now - start).toNat) = true := hreached
    rw [hpast]
    simp
  | false =>
    have hpast : decide (l.tStill ≤ (now - start).toNat) = false := hreached
    rw [hpast]
    simp

section

variable {s : State} {l : Line}

/-- The records that the update meets: the channels expired at once, and the still candidate kept (R21). -/
theorem lineJudged_atOnce (h : s.moe.Sound) : ∃ t : State,
    AtOnce (s.withMoe (s.moe.relined l)) [.cb, .ca, .s2, .s1] t ∧ (s.lineJudged l).moe =
      ({ t.moe with disagree := .clear, slipA := .clear, slipB := .clear } : Moe).restill l s.clock := by
  have hall := atOnce_allChannels (s := s.withMoe (s.moe.relined l)) (h.relined l)
  simp only [State.lineJudged]
  generalize allChannels.foldl expireIfDue (s.withMoe (s.moe.relined l)) = t at hall ⊢
  exact ⟨t, hall, by rw [State.withMoe_moe, hall.clock, State.withMoe_clock]⟩

theorem mem_allChannels (ch : ChannelId) : ch ∈ [ChannelId.cb, .ca, .s2, .s1] := by
  cases ch <;> decide

/-- A channel is due under the new record where its last arrival lies past the new staleness limit. -/
theorem relined_channelDue (ch : ChannelId) (hf : (s.moe.channel ch).state = .fresh) {a : Time}
    (ha : (s.moe.channel ch).lastArrival = some a) :
    (s.withMoe (s.moe.relined l)).channelDue ch = decide (l.stale ch ≤ (s.clock - a).toNat) := by
  simp only [State.channelDue, State.withMoe_moe, Moe.relined_channel, Channel.relined_of_fresh hf, ha]
  rw [hf]
  rfl

theorem relined_not_due (ch : ChannelId) (hs : s.moe.Sound) (hf : (s.moe.channel ch).state ≠ .fresh) :
    (s.withMoe (s.moe.relined l)).channelDue ch = false := by
  have hstate := ((hs.channel ch).relined l ch).2
  simp [State.channelDue, hstate, hf]

/-- The channels, the position, the references and the source after the update of a new record. -/
theorem applyLineMoe_records (h : s.moe.Sound) :
    let m := (applyLineMoe l s).moe
    (∀ ch, m.channel ch = if (s.withMoe (s.moe.relined l)).channelDue ch = true then
      ((s.moe.channel ch).relined l ch).expired else (s.moe.channel ch).relined l ch) ∧
    (∀ ch, m.counters[(MotionCounter.channel ch .expired).idx] =
      if (s.withMoe (s.moe.relined l)).channelDue ch = true then
        satAdd s.moe.counters[(MotionCounter.channel ch .expired).idx] 1
      else s.moe.counters[(MotionCounter.channel ch .expired).idx]) ∧
    m.posA = s.moe.posA ∧ m.source = m.choice ∧
    (∀ sh newest, (s.moe.channel sh.channel).history.getLast? = some newest →
      m.reference sh = { count := newest.count, pos := s.moe.posA }) ∧
    (s.moe.gap = false → m.status = s.moe.status ∧
      (m.gap = true ↔ m.source = none ∧ s.moe.source ≠ none ∧ s.moe.status.trusted = true)) ∧
    m.disagree = .clear ∧ m.slipA = .clear ∧ m.slipB = .clear := by
  obtain ⟨t, ht, hm⟩ := lineJudged_atOnce (l := l) h
  have hchannel : ∀ ch, (s.lineJudged l).moe.channel ch = t.moe.channel ch := fun ch => by
    rw [hm]; exact Moe.channel_congr (by simp) (by simp) (by simp) (by simp) ch
  have hreference : ∀ sh, (s.lineJudged l).moe.reference sh = t.moe.reference sh := fun sh => by
    rw [hm]; cases sh <;> simp [Moe.reference]
  have hsound := h.applyLineMoe l
  rw [applyLineMoe_eq] at hsound
  simp only [applyLineMoe_eq, motionUpdate_channel, motionUpdate_reference, hchannel, hreference]
  refine ⟨fun ch => ?_, fun ch => ?_, by simp [hm, ht.posA], hsound.source, fun sh newest hnewest => ?_,
    fun hgap => ?_, by simp [hm], by simp [hm], by simp [hm]⟩
  · rw [ht.channel]
    simp only [mem_allChannels, true_and, State.withMoe_moe, Moe.relined_channel]
  · have hexpired := ht.expired ch
    simp only [mem_allChannels, true_and, State.withMoe_moe, (Moe.relined_frame s.moe l).2.2.2.2.2.2.2] at hexpired
    simpa [hm] using hexpired
  · have hposA : (s.moe.relined l).posA = s.moe.posA := by simp
    have hrebased := ht.reference (fun sh => (s.moe.channel sh.channel).history.getLast?)
      (fun sh => by simp [Channel.relined_history]) (fun sh x hx => by
        rw [State.withMoe_moe, hposA]; exact Moe.relined_reference l hx)
    rw [hrebased sh newest hnewest, State.withMoe_moe, hposA]
  · have hgap' := ht.gap (by simpa using hgap)
    simpa [hm] using hgap'

end

/-- The update that is stored is that of the records as they then stand. -/
theorem motionUpdate_last_motion (s : State) : (motionUpdate s).moe.last = (motionUpdate s).moe.motion := by
  rw [motionUpdate_moe]
  rfl

/-- STILL and its timer under a new record (R18, R21). -/
theorem applyLineMoe_still {s : State} {l : Line} (h : s.moe.Sound) (hl : s.line = some l) :
    let m := (applyLineMoe l s).moe
    let still := m.last.known = true ∧ m.last.v ≤ l.vStill
    (¬ still → m.still = false ∧ m.candidate = none ∧ m.stillTimer = none) ∧
    (still → s.moe.candidate = none → m.still = false ∧ m.candidate = some s.clock ∧
      m.stillTimer = some ⟨s.clock, l.tStill⟩) ∧
    (still → ∀ start, s.moe.candidate = some start → m.candidate = some start ∧
      m.still = (s.moe.still || decide (l.tStill ≤ (s.clock - start).toNat)) ∧
      m.stillTimer = if decide (l.tStill ≤ (s.clock - start).toNat) then none else some ⟨start, l.tStill⟩) := by
  obtain ⟨t, ht, hm⟩ := lineJudged_atOnce (l := l) h
  obtain ⟨hstill, hcandidate, -⟩ : t.moe.still = s.moe.still ∧ t.moe.candidate = s.moe.candidate ∧ True := by
    obtain ⟨h1, h2, -⟩ := ht.still
    exact ⟨by simpa using h1, by simpa using h2, trivial⟩
  have hline : (s.lineJudged l).line = some l := by simpa [State.line] using hl
  have hcondition : (s.lineJudged l).stillCondition (s.lineJudged l).moe.motion = true ↔
      (applyLineMoe l s).moe.last.known = true ∧ (applyLineMoe l s).moe.last.v ≤ l.vStill := by
    rw [applyLineMoe_eq, motionUpdate_last, State.stillCondition, hline]
    simp
  have hupdate : (applyLineMoe l s).moe =
      { (judgeStill (s.lineJudged l)).moe with last := (judgeStill (s.lineJudged l)).moe.motion } := by
    rw [applyLineMoe_eq, motionUpdate_moe]
  have hclock : (s.lineJudged l).clock = s.clock := by simp
  simp only [← hcondition]
  generalize s.lineJudged l = v at *
  refine ⟨fun hmoving => ?_, fun hslow hnone => ?_, fun hslow start hsome => ?_⟩
  · rw [hupdate, judgeStill_of_moving (Bool.eq_false_iff.mpr hmoving)]
    exact ⟨rfl, rfl, rfl⟩
  · have hcand : v.moe.candidate = none := by simp [hm, hcandidate, hnone]
    have hnot : s.moe.still = false := Bool.eq_false_iff.mpr fun hs => by simpa [hnone] using h.still hs
    have hkept : v.moe.still = false := by
      rw [hm, Moe.restill_of_none (by simp [hcandidate, hnone])]
      simp [hstill, hnot]
    rw [hupdate, judgeStill_of_starting hslow hcand]
    simp [hkept, hclock, State.param, hline]
  · have hcand : v.moe.candidate = some start := by simp [hm, hcandidate, hsome]
    have hkept := Moe.restill_of_some (m := { t.moe with disagree := .clear, slipA := .clear, slipB := .clear })
      (start := start) (by simp [hcandidate, hsome]) l s.clock
    rw [← hm] at hkept
    rw [hupdate, judgeStill_of_candidate hslow (by simp [hcand])]
    refine ⟨hcand, ?_, hkept.2⟩
    rw [← hstill]
    exact hkept.1

/-! ### The notices of a new LINE record at rest -/

/-- The drive record under a new record (R98). -/
def Drive.lined (x : Drive) (l : Line) (now : Time) : Drive :=
  match x.arrival with
  | some a => { x with expiry := unlessReached { start := a, dur := l.tDriveFresh } now }
  | none => x

theorem applyLineDrive_hlc (l : Line) (s : State) :
    (applyLineDrive l s).hlc = { s.hlc with drive := s.hlc.drive.lined l s.clock } := by
  unfold applyLineDrive Drive.lined
  cases h : s.hlc.drive.arrival <;> simp [h]

/-- The number of cars whose moved expiry is reached. -/
def State.lapsed (s : State) (l : Line) : Nat :=
  ([Car.a, Car.b].filter fun car => (s.dru.reports car).lapses l s.clock).length

/-- What a new record does at rest beside the Motion Estimator (R43, R98, R105, R192). -/
structure LineApplied (l : Line) (s t : State) : Prop where
  state : t.hlc.state = s.hlc.state ∨ t.hlc.state = .tripped
  adu : t.adu = s.adu
  door : ∀ car side, t.dru.door car side = s.dru.door car side
  thresholds : t.brs.tWarn = l.cw ∧ t.brs.tSvc = l.cs ∧ t.brs.tEmg = min l.ce l.vTripAbs
  drive : t.hlc.drive = s.hlc.drive.lined l s.clock
  reports : ∀ car, t.dru.reports car = (s.dru.reports car).lined l s.clock
  lost : t.rpu.slots[EventKind.doorStateLost.code].count =
    satAdd s.rpu.slots[EventKind.doorStateLost.code].count (s.lapsed l)
  activated : t.rpu.slots[EventKind.tableActivated.code].count = s.rpu.slots[EventKind.tableActivated.code].count
  beacon : t.rpu.beacon = if l.tBeacon = 0 then none else some ⟨s.clock, l.tBeacon * 1000⟩

/-- The state in which the cars' reports are judged. -/
theorem applyLine_judged {s : State} {l : Line} (hl : s.line = some l)
    (hstate : s.hlc.state = .parked ∨ s.hlc.state = .tripped) (hmode : s.env.mode = .off) :
    let t := applyLineDrive l (recomputeThresholds (applyLineMoe l s))
    t.hlc.state.atRest = true ∧ (t.hlc.state = s.hlc.state ∨ t.hlc.state = .tripped) ∧ t.adu = s.adu ∧
    (∀ car side, t.dru.door car side = s.dru.door car side) ∧
    (t.brs.tWarn = l.cw ∧ t.brs.tSvc = l.cs ∧ t.brs.tEmg = min l.ce l.vTripAbs) ∧
    t.hlc.drive = s.hlc.drive.lined l s.clock ∧ (∀ car, t.dru.reports car = s.dru.reports car) ∧ t.clock = s.clock ∧
    ∀ k : Fin 28, k ∉ updateCodes → k ≠ EventKind.carChannelLost.code →
      t.rpu.slots[k].count = s.rpu.slots[k].count := by
  obtain ⟨hresting, hhlc, hadu, hdoor⟩ := motionUpdate_rested (s := s.lineJudged l) (by simpa using hstate)
    (by simpa using hmode)
  have hkept := Undisturbed.motionUpdate (s.lineJudged l)
  rw [← applyLineMoe_eq] at hresting hhlc hadu hdoor hkept
  have hline : (applyLineMoe l s).line = some l := by simpa [State.line] using hl
  have hbrs := recomputeThresholds_of_zero hresting.mode hresting.e
  rw [hline] at hbrs
  simp only [applyLineDrive_hlc, applyLineDrive_frame, recomputeThresholds_frame]
  refine ⟨hresting.atRest, by simpa using hhlc, by simpa using hadu, by simpa using hdoor, ?_, ?_, fun car => ?_,
    by simp, fun k hk hcar => ?_⟩
  · rw [hbrs]
    exact ⟨rfl, rfl, rfl⟩
  · rw [hkept.drive]
    simp
  · obtain ⟨ha, hb⟩ := hkept.reports
    cases car
    · simpa [Dru.reports] using ha
    · simpa [Dru.reports] using hb
  · rw [hkept.count k hk, lineJudged_count s l hcar]

theorem satAdd_lapsed (c : BitVec 16) (a b : Bool) :
    (if b = true then satAdd (if a = true then satAdd c 1 else c) 1 else (if a = true then satAdd c 1 else c)) =
      satAdd c ((if a then 1 else 0) + (if b then 1 else 0)) := by
  cases a <;> cases b <;> simp [satAdd_satAdd, satAdd_zero]

theorem lapsed_eq (s : State) (l : Line) : s.lapsed l =
    (if (s.dru.reports .a).lapses l s.clock then 1 else 0) + (if (s.dru.reports .b).lapses l s.clock then 1 else 0) := by
  unfold State.lapsed
  cases ha : (s.dru.reports .a).lapses l s.clock <;> cases hb : (s.dru.reports .b).lapses l s.clock <;> simp [ha, hb]

theorem applyLine_applied {s : State} {l : Line} (hl : s.line = some l)
    (hstate : s.hlc.state = .parked ∨ s.hlc.state = .tripped) (hmode : s.env.mode = .off) :
    LineApplied l s (applyLine l s) := by
  obtain ⟨hrest, hhlc, hadu, hdoor, hthresholds, hdrive, hreports, hclock, hcount⟩ := applyLine_judged hl hstate hmode
  simp only [applyLine, List.foldl_cons, List.foldl_nil]
  generalize applyLineDrive l (recomputeThresholds (applyLineMoe l s)) = t at *
  have ha := applyLineDoor_lined hrest l .a
  have hb := applyLineDoor_lined (s := applyLineDoor l t .a) (by rw [ha.hlc]; exact hrest) l .b
  have hreportB : (applyLineDoor l t .a).dru.reports .b = s.dru.reports .b := by
    rw [ha.reports, if_neg (by decide), hreports]
  generalize applyLineDoor l t .a = u at *
  generalize applyLineDoor l u .b = w at *
  have hboth : w.hlc = t.hlc ∧ w.adu = t.adu ∧ w.brs = t.brs ∧ w.clock = s.clock :=
    ⟨hb.hlc.trans ha.hlc, hb.adu.trans ha.adu, hb.brs.trans ha.brs, (hb.clock.trans ha.clock).trans hclock⟩
  obtain ⟨hwhlc, hwadu, hwbrs, hwclock⟩ := hboth
  have hcounts : ∀ k : Fin 28, w.rpu.slots[k].count = if k = EventKind.doorStateLost.code
      then satAdd t.rpu.slots[k].count (s.lapsed l) else t.rpu.slots[k].count := fun k => by
    rw [hb.count, ha.count, hreportB, hreports, ha.clock, hclock]
    by_cases hk : k = EventKind.doorStateLost.code
    · simp only [hk, true_and, if_true]
      rw [satAdd_lapsed, lapsed_eq]
    · simp [hk]
  have hset : (setBeaconTimer l w).rpu.slots = w.rpu.slots := rfl
  have hdru : (setBeaconTimer l w).dru = w.dru := rfl
  exact
    { state := by simpa [hwhlc] using hhlc
      adu := by simp [hwadu, hadu]
      door := fun car side => by simp [hb.door, ha.door, hdoor]
      thresholds := by simpa [hwbrs] using hthresholds
      drive := by simp [hwhlc, hdrive]
      reports := fun car => by
        rw [hdru, hb.reports, hreportB, ha.clock, hclock]
        cases car with
        | a => rw [if_neg (by decide), ha.reports, if_pos rfl, hreports, hclock]
        | b => rw [if_pos rfl]
      lost := by
        rw [hset, hcounts, if_pos rfl, hcount _ (by decide) (by decide)]
      activated := by
        rw [hset, hcounts, if_neg (by decide), hcount _ (by decide) (by decide)]
      beacon := by rw [setBeaconTimer, hwclock]; rfl }

end Sys2Proof.Machine

end

section

namespace Sys2Proof.Machine

/-! ### Masks (R172, R177) -/

theorem names_line_of_low {mask : Byte} (h : mask &&& 0x1F = 0) : names mask .line = false := by
  have hbit := congrArg (·.getLsbD 3) h
  simpa [names, TableId.idx] using hbit

theorem names_reportLevel_of_haul {mask : Byte} (h : haulMask mask = true) : names mask .reportLevel = false := by
  have hbit := congrArg (·.getLsbD 7) (beq_iff_eq.mp h)
  simpa [names, TableId.idx] using hbit

/-! ### Taking effect (R180) -/

/-- The state in which the notices of new tables are taken: TABLE_ACTIVATED is raised. -/
def State.activated (s : State) (mask : Byte) (wasPending : Bool) : State :=
  raise .tableActivated (mask ++ (if wasPending then (1 : Byte) else (0 : Byte)) ++ s.hlc.state.code ++ (0 : Byte))
    { s with mga := { s.mga with active := s.mga.after mask } }

@[simp] theorem activated_frame (s : State) (mask : Byte) (wasPending : Bool) :
    (s.activated mask wasPending).mga = { s.mga with active := s.mga.after mask } ∧
    (s.activated mask wasPending).moe = s.moe ∧ (s.activated mask wasPending).hlc = s.hlc ∧
    (s.activated mask wasPending).env = s.env ∧ (s.activated mask wasPending).dru = s.dru ∧
    (s.activated mask wasPending).adu = s.adu ∧ (s.activated mask wasPending).clock = s.clock ∧
    (s.activated mask wasPending).rpu.beacon = s.rpu.beacon := by
  simp [State.activated]

theorem activated_count (s : State) (mask : Byte) (wasPending : Bool) (k : Fin 28) :
    (s.activated mask wasPending).rpu.slots[k].count = if k = EventKind.tableActivated.code
      then satAdd s.rpu.slots[k].count 1 else s.rpu.slots[k].count :=
  raise_count _ _ _ _

theorem takeEffect_of_no_levels {mask : Byte} (h : names mask .reportLevel = false) (wasPending : Bool) (s : State) :
    takeEffect mask wasPending s = noticeTables mask (s.activated mask wasPending) := by
  simp only [takeEffect, h, Bool.false_eq_true, if_false]
  rfl

theorem noticeTables_of_line {mask : Byte} {s : State} {l : Line} (h : names mask .line = true) (hl : s.line = some l) :
    noticeTables mask s = applyLine l s := by
  simp only [noticeTables, h, hl]

theorem noticeTables_of_no_line {mask : Byte} (h : names mask .line = false) (s : State) :
    noticeTables mask s = if haulMask mask then motionUpdate s else s := by
  simp only [noticeTables, h]

@[simp] theorem applyLine_moe (l : Line) (s : State) : (applyLine l s).moe = (applyLineMoe l s).moe := by
  simp [applyLine]

/-! ### The channels (R7, R21) -/

section

variable {s : State} {l : Line} {ch : ChannelId}

/-- A channel without samples stands under a new record. -/
theorem applyLineMoe_of_not_fresh (h : s.moe.Sound) (hf : (s.moe.channel ch).state ≠ .fresh) :
    (applyLineMoe l s).moe.channel ch = s.moe.channel ch ∧
    (applyLineMoe l s).moe.counters[(MotionCounter.channel ch .expired).idx] =
      s.moe.counters[(MotionCounter.channel ch .expired).idx] := by
  obtain ⟨hchannel, hcount, -⟩ := applyLineMoe_records (l := l) h
  have hnil : (s.moe.channel ch).history = [] := by simpa [hf] using (h.channel ch).fresh
  have hdue := relined_not_due (l := l) ch h hf
  constructor
  · rw [hchannel, hdue, if_neg Bool.false_ne_true, Channel.relined_of_not_fresh hf hnil]
  · rw [hcount, hdue, if_neg Bool.false_ne_true]

variable {a : Time}

/-- A FRESH channel is re-estimated and its expiry moved. -/
theorem applyLineMoe_of_early (h : s.moe.Sound) (hf : (s.moe.channel ch).state = .fresh)
    (ha : (s.moe.channel ch).lastArrival = some a) (hpast : decide (l.stale ch ≤ (s.clock - a).toNat) = false) :
    (applyLineMoe l s).moe.channel ch = { s.moe.channel ch with
      expiry := some { start := a, dur := l.stale ch }
      estimate := if 2 ≤ (s.moe.channel ch).history.length
        then (estimateOf (l.channel ch) (s.moe.channel ch).history).map (·.1) else (s.moe.channel ch).estimate
      saturated := if 2 ≤ (s.moe.channel ch).history.length
        then ((estimateOf (l.channel ch) (s.moe.channel ch).history).map (·.2)).getD false
        else (s.moe.channel ch).saturated } := by
  rw [(applyLineMoe_records h).1, relined_channelDue ch hf ha, hpast, if_neg Bool.false_ne_true,
    Channel.relined_of_fresh hf]
  simp only [ha, Option.map_some]

/-- A FRESH channel whose moved expiry is reached is STALE, and counted. -/
theorem applyLineMoe_of_late (h : s.moe.Sound) (hf : (s.moe.channel ch).state = .fresh)
    (ha : (s.moe.channel ch).lastArrival = some a) (hpast : decide (l.stale ch ≤ (s.clock - a).toNat) = true) :
    (applyLineMoe l s).moe.channel ch = (s.moe.channel ch).expired ∧
    (applyLineMoe l s).moe.counters[(MotionCounter.channel ch .expired).idx] =
      satAdd s.moe.counters[(MotionCounter.channel ch .expired).idx] 1 := by
  obtain ⟨hchannel, hcount, -⟩ := applyLineMoe_records (l := l) h
  constructor
  · rw [hchannel, relined_channelDue ch hf ha, hpast, if_pos rfl, Channel.relined_of_fresh hf]
    rfl
  · rw [hcount, relined_channelDue ch hf ha, hpast, if_pos rfl]

end

/-! ### The obligation -/

/-- A new REPORTLEVEL table: the slots it leaves (R189). -/
def State.levelled (s : State) (mask : Byte) : Vector EventSlot 28 :=
  Vector.ofFn fun k : Fin 28 => if byteAt (s.mga.after mask).reportLevel k = 0
    then { count := s.rpu.slots[k].count, entry := none } else s.rpu.slots[k]

theorem levelled_get (s : State) (mask : Byte) (k : Fin 28) : (s.levelled mask)[k] =
    if byteAt (s.mga.after mask).reportLevel k = 0 then { count := s.rpu.slots[k].count, entry := none }
    else s.rpu.slots[k] := by
  simp [State.levelled]

theorem applyReportLevel_copied (s : State) (mask : Byte) : applyReportLevel (copyTables mask s) =
    selectReports { s with mga := { s.mga with active := s.mga.after mask },
                           rpu := { s.rpu with slots := s.levelled mask } } := by
  have hlevel : ∀ k : Fin 28, (copyTables mask s).level k = 0 ↔ byteAt (s.mga.after mask).reportLevel k = 0 :=
    fun k => by rw [BitVec.toNat_eq]; rfl
  simp only [applyReportLevel, hlevel]
  rfl

theorem lined_drive_of_arrival {x : Drive} {a : Time} (h : x.arrival = some a) (l : Line) (now : Time) :
    x.lined l now = { x with
      expiry := if decide (l.tDriveFresh ≤ (now - a).toNat) then none else some ⟨a, l.tDriveFresh⟩ } := by
  simp only [Drive.lined, h]
  rfl

theorem lined_of_report {x : CarReport} {r : DoorReport} (h : x.report = some r) (l : Line) (now : Time) :
    x.lined l now = ⟨some r,
      if decide (l.tDoorFresh ≤ (now - r.arrival).toNat) then none else some ⟨r.arrival, l.tDoorFresh⟩⟩ := by
  simp only [CarReport.lined, h]
  rfl

/-- A haul mask without LINE and REPORTLEVEL, and one without haul tables. -/
theorem takeEffect_of_no_line {mask : Byte} (hhaul : haulMask mask = true) (hline : names mask .line = false)
    (wasPending : Bool) (s : State) : takeEffect mask wasPending s = motionUpdate (s.activated mask wasPending) := by
  rw [takeEffect_of_no_levels (names_reportLevel_of_haul hhaul), noticeTables_of_no_line hline, if_pos hhaul]

theorem takeEffect_of_line {mask : Byte} {s : State} {l : Line} (hhaul : haulMask mask = true)
    (hline : names mask .line = true) (hl : (s.mga.after mask).line = some l) (wasPending : Bool) :
    takeEffect mask wasPending s = applyLine l (s.activated mask wasPending) := by
  rw [takeEffect_of_no_levels (names_reportLevel_of_haul hhaul), noticeTables_of_line hline]
  simpa [State.line] using hl

theorem noticeTables_of_report {mask : Byte} (hline : names mask .line = false) (hhaul : haulMask mask = false)
    (s : State) : noticeTables mask s = s := by
  rw [noticeTables_of_no_line hline, hhaul]
  rfl

theorem takeEffect_of_levels {mask : Byte} (hline : names mask .line = false) (hhaul : haulMask mask = false)
    (hlevel : names mask .reportLevel = true) (wasPending : Bool) (s : State) : takeEffect mask wasPending s =
      raise .tableActivated (mask ++ (if wasPending then (1 : Byte) else (0 : Byte)) ++ s.hlc.state.code ++ (0 : Byte))
        (selectReports { s with mga := { s.mga with active := s.mga.after mask },
                                rpu := { s.rpu with slots := s.levelled mask } }) := by
  simp only [takeEffect, hlevel, if_true]
  rw [noticeTables_of_report hline hhaul, applyReportLevel_copied]
  simp only [raiseActivated, selectReports_frame]
  rfl

/-- Settles O56: the notices of LINE at rest are `applyLine` on the part that has raised TABLE_ACTIVATED, taken apart
by the facts on its channels (`AtOnce`) and on the other blocks (`LineApplied`). -/
theorem newTablesAreAppliedAtTheTakeEffect : Obligations.NewTablesAreAppliedAtTheTakeEffect := by
  refine ⟨fun s mask wasPending l hline hhaul hl hsound hstate hmode => ?_,
    fun s mask wasPending hline hhaul => ?_, fun s mask wasPending hlow hhigh => ?_⟩
  · have hs : s.moe.Sound := motionSound_iff.mp hsound
    rw [takeEffect_of_line hhaul hline hl]
    obtain ⟨umga, umoe, uhlc, uenv, udru, uadu, uclock, -⟩ := activated_frame s mask wasPending
    have hcount := activated_count s mask wasPending
    have hu : (s.activated mask wasPending).line = some l := by simpa [State.line] using hl
    have hdef : s.activated mask wasPending = raise .tableActivated
      (mask ++ (if wasPending then (1 : Byte) else (0 : Byte)) ++ s.hlc.state.code ++ (0 : Byte))
      { s with mga := { s.mga with active := s.mga.after mask } } := rfl
    generalize s.activated mask wasPending = u at *
    rw [← umoe] at hs
    have happ := applyLine_applied hu (by rw [uhlc]; exact hstate) (by rw [uenv]; exact hmode)
    obtain ⟨-, -, hposA, hsource, hreference, hgap, hdisagree, hslipA, hslipB⟩ := applyLineMoe_records (l := l) hs
    have hstill := applyLineMoe_still hs hu
    have hlast := motionUpdate_last_motion (u.lineJudged l)
    rw [← applyLineMoe_eq] at hlast
    simp only [← applyLine_moe, umoe, uclock] at hposA hsource hreference hgap hdisagree hslipA hslipB hstill hlast
    refine ⟨fun _ => by rw [hdef], by simp [umga], by rw [happ.adu, uadu], by simp [uclock],
      by simpa [uhlc] using happ.state, fun ch => ⟨fun hf => ?_, fun hf a ha => ⟨fun hpast => ?_, fun hpast => ?_⟩⟩,
      hposA, hsource, hreference, hgap, hdisagree, hslipA, hslipB, hlast, hstill, happ.thresholds.1,
      happ.thresholds.2.1, happ.thresholds.2.2, fun hnone => ?_, fun a ha => ?_,
      fun car side => by rw [happ.door, udru], fun car hnone => ?_, fun car r hr => ?_, ?_, ?_, ?_⟩
    · simpa [umoe] using applyLineMoe_of_not_fresh (l := l) hs (ch := ch) (by rw [umoe]; exact hf)
    · simpa [umoe] using applyLineMoe_of_early (l := l) hs (ch := ch) (a := a) (by rw [umoe]; exact hf)
        (by rw [umoe]; exact ha) (by rw [uclock]; exact hpast)
    · simpa [umoe, Channel.expired] using applyLineMoe_of_late (l := l) hs (ch := ch) (a := a) (by rw [umoe]; exact hf)
        (by rw [umoe]; exact ha) (by rw [uclock]; exact hpast)
    · rw [happ.drive, uhlc, Drive.lined, hnone]
    · rw [happ.drive, uhlc, uclock, lined_drive_of_arrival ha]
    · rw [happ.reports, udru, CarReport.lined, hnone]
    · rw [happ.reports, udru, uclock, lined_of_report hr]
    · rw [happ.lost, hcount, if_neg (by decide), State.lapsed, udru, uclock]
      rfl
    · rw [happ.activated, hcount, if_pos rfl]
    · rw [happ.beacon, uclock]
  · rw [takeEffect_of_no_line hhaul hline]
    obtain ⟨umga, umoe, uhlc, -, udru, -, -, ubeacon⟩ := activated_frame s mask wasPending
    have hkept := Undisturbed.motionUpdate (s.activated mask wasPending)
    obtain ⟨ha, hb⟩ := hkept.reports
    refine ⟨fun _ => rfl, by simp, fun ch => by simp, by simp, by simp, by simp, by simp, by simp, by simp,
      motionUpdate_last_motion _, by rw [hkept.drive, uhlc], fun car => ?_, by rw [hkept.beacon, ubeacon]⟩
    cases car
    · rw [← udru]; exact ha
    · rw [← udru]; exact hb
  · have hline := names_line_of_low hlow
    have hhaul : haulMask mask = false := beq_false_of_ne hhigh
    constructor
    · intro hlevel
      rw [takeEffect_of_no_levels hlevel, noticeTables_of_report hline hhaul]
      rfl
    · intro hlevel
      exact ⟨s.levelled mask, takeEffect_of_levels hline hhaul hlevel wasPending s, levelled_get s mask⟩

end Sys2Proof.Machine

end

/-! ## Evaluations of the envelope and its arming (R27–R29, R37, R38, R43)

An evaluation is `handOn` of a mode and of the E that this mode computes, so its envelope and thresholds are said once;
the entry to ARMED is one more evaluation. -/

section

namespace Sys2Proof.Machine

/-! ### Evaluations (R27, R43) -/

@[simp] theorem handOn_env (mode : EnvMode) (e : Nat) (s : State) :
    (handOn mode e s).env = { s.env with mode := mode, e := e } := by
  simp only [handOn]
  split <;> simp

theorem thresholdsFollow_congr {s t : State} (h : s.thresholdsFollow) (hline : t.line = s.line)
    (hbrs : t.brs.tWarn = s.brs.tWarn ∧ t.brs.tSvc = s.brs.tSvc ∧ t.brs.tEmg = s.brs.tEmg)
    (henv : t.env.e = s.env.e ∧ t.env.mode = s.env.mode) : t.thresholdsFollow := by
  obtain ⟨hw, hs, he⟩ := hbrs
  simpa only [State.thresholdsFollow, hline, hw, hs, he, henv.1, henv.2] using h

/-- Thresholds that follow the envelope follow what is handed on (R27, R43). -/
theorem handOn_thresholdsFollow {s : State} (h : s.thresholdsFollow) (mode : EnvMode) (e : Nat) :
    (handOn mode e s).thresholdsFollow := by
  by_cases hsame : s.env.mode = mode ∧ s.env.e = e
  · rw [handOn_of_same hsame.1 hsame.2]
    exact h
  · rw [handOn_of_other]
    · exact recomputeThresholds_follow _
    · rcases not_and_or.mp hsame with hmode | he
      · exact .inl (Ne.symm hmode)
      · exact .inr (Ne.symm he)

/-- E as a mode computes it, under the target, direction and load class in force (R29, R33–R35). -/
def State.eIn (s : State) (mode : EnvMode) : Nat := (s.withEnv { s.env with mode := mode }).computeE

@[simp] theorem evaluateIn_env (mode : EnvMode) (s : State) :
    (evaluateIn mode s).env = { s.env with mode := mode, e := s.eIn mode } :=
  handOn_env _ _ _

@[simp] theorem eIn_off (s : State) : s.eIn .off = 0 := rfl

@[simp] theorem eIn_frozen (s : State) : s.eIn .frozen = s.env.e := rfl

/-- E stays within v_line_max (R38). -/
theorem eIn_le_vLineMax {s : State} (h : s.env.e ≤ s.param (·.vLineMax) 0) (mode : EnvMode) :
    s.eIn mode ≤ s.param (·.vLineMax) 0 := by
  cases mode with
  | off => exact Nat.zero_le _
  | normal => exact Nat.min_le_right _ _
  | creep => exact Nat.min_le_right _ _
  | frozen => exact h

/-! ### Arming (R28, R37) -/

/-- The load class of a run in a direction (R37). -/
def State.loadClass (s : State) (dir : Direction) : Fin 4 :=
  (s.line.map fun l => loadClassOf l (s.outOfBalance dir)).getD 0

/-- The envelope record with what an entry to ARMED latches (R28, R37). -/
def State.armedEnv (s : State) : Env :=
  { s.env with target := s.hlc.target, dir := s.hlc.dir, load := s.outOfBalance s.hlc.dir,
               loadClass := s.loadClass s.hlc.dir }

/-- The mode of a run, by the position status of the latest update (R28). -/
def PositionStatus.armMode (x : PositionStatus) : EnvMode := if x.trusted then .normal else .creep

theorem armMode_ne_off (x : PositionStatus) : x.armMode ≠ .off := by
  cases x <;> decide

theorem envArm_eq (s : State) : envArm s = evaluateIn s.moe.last.status.armMode (s.withEnv s.armedEnv) := by
  unfold envArm State.armedEnv State.loadClass
  cases s.line <;> rfl

end Sys2Proof.Machine
end

/-! ## The laws of the haul are kept (R29, R38, R43, R45, R55, R57, R60, R80, R88, R99)

Between the copying of a LINE record and the recomputing of the thresholds (R43, R180) these do not follow the envelope,
so the laws are kept in a form that leaves this open: `HaulLaws q` ties the thresholds where q holds. A change of haul
state brings the envelope under its laws by the evaluation that goes with it, so `StateLaws` says what must hold before
that evaluation, and `StandingLaws` what an entry to rest needs of the state it leaves. -/

section

namespace Sys2Proof.Machine

/-! ### The laws, by what they read -/

/-- The run judgements of the Brake Supervisor are reset (R45, R50, R51). -/
def Brs.Quiet (b : Brs) : Prop :=
  b.tier = .normal ∧ b.aboveService = false ∧ b.lossFlag = false ∧ b.lossTimer = none ∧ b.sup.active = false

/-- The laws that do not read the haul state. -/
structure StandingLaws (q : Prop) (s : State) : Prop where
  limit : s.env.e ≤ s.param (·.vLineMax) 0
  thresholds : q → s.thresholdsFollow
  history : s.brs.history.length ≤ 8

/-- With the laws that tie the trip, the doors and the Brake Supervisor to the haul state. -/
structure StateLaws (q : Prop) (s : State) : Prop extends StandingLaws q s where
  latched : s.brs.trip.latched = true ↔ s.hlc.state = .tripped
  doors : s.hlc.state = .armed ∨ s.hlc.state = .running → s.dru.allLocked = true
  boarding : s.hlc.boardingOpen = true → s.hlc.state = .boarding
  berth : s.hlc.state = .running ∨ s.hlc.state = .serviceStop ∨ s.hlc.state = .tripped → s.hlc.berth = none
  arm : s.hlc.state ≠ .armed → s.hlc.armTimer = none
  quiet : s.hlc.state.atRest = true → s.brs.Quiet

/-- With the laws of the envelope's mode and of ESTOP_LATCHED: all the laws of the haul. -/
structure HaulLaws (q : Prop) (s : State) : Prop extends StateLaws q s where
  estop : s.brs.estopLatched = true → s.brs.trip.latched = true
  mode : s.env.mode = .off ↔ s.hlc.state.atRest = true
  envelope : s.hlc.state.atRest = true → s.env.e = 0

theorem haulSound_iff {s : State} : HaulSound s ↔ HaulLaws True s := by
  constructor
  · intro h
    exact { h with thresholds := fun _ => h.thresholds, quiet := h.tier }
  · intro h
    exact { h with thresholds := h.thresholds trivial, tier := h.quiet }

/-- The laws read no more than this of the state. -/
theorem HaulLaws.congr {q : Prop} {s t : State} (h : HaulLaws q s)
    (he : (t.brs.trip.latched = s.brs.trip.latched ∧ t.brs.estopLatched = s.brs.estopLatched ∧
        t.brs.history.length = s.brs.history.length ∧ t.brs.tWarn = s.brs.tWarn ∧ t.brs.tSvc = s.brs.tSvc ∧
        t.brs.tEmg = s.brs.tEmg) ∧
      (t.brs.tier = s.brs.tier ∧ t.brs.aboveService = s.brs.aboveService ∧ t.brs.lossFlag = s.brs.lossFlag ∧
        t.brs.lossTimer = s.brs.lossTimer ∧ t.brs.sup.active = s.brs.sup.active) ∧
      (t.hlc.state = s.hlc.state ∧ t.hlc.boardingOpen = s.hlc.boardingOpen ∧ t.hlc.berth = s.hlc.berth ∧
        t.hlc.armTimer = s.hlc.armTimer) ∧
      t.env.mode = s.env.mode ∧ t.env.e = s.env.e ∧ t.dru.allLocked = s.dru.allLocked ∧
      t.mga.active.line = s.mga.active.line) : HaulLaws q t := by
  obtain ⟨⟨hlatched, hestop, hhistory, hw, hs, hemg⟩, ⟨htier, habove, hflag, htimer, hsup⟩,
    ⟨hstate, hopen, hberth, harm⟩, hmode, henv, hdoors, hline⟩ := he
  have hline' : t.line = s.line := hline
  constructor
  · constructor
    · constructor
      · simpa only [State.param, henv, hline'] using h.limit
      · exact fun hq => thresholdsFollow_congr (h.thresholds hq) hline' ⟨hw, hs, hemg⟩ ⟨henv, hmode⟩
      · rw [hhistory]; exact h.history
    · rw [hlatched, hstate]; exact h.latched
    · rw [hstate, hdoors]; exact h.doors
    · rw [hopen, hstate]; exact h.boarding
    · rw [hstate, hberth]; exact h.berth
    · rw [hstate, harm]; exact h.arm
    · simpa only [Brs.Quiet, hstate, htier, habove, hflag, htimer, hsup] using h.quiet
  · rw [hestop, hlatched]; exact h.estop
  · rw [hmode, hstate]; exact h.mode
  · rw [hstate, henv]; exact h.envelope

section

variable {q : Prop} {s : State}

/-- An evaluation whose mode suits the haul state brings the envelope under its laws (R27–R29). -/
theorem StateLaws.evaluateIn (h : StateLaws q s) {mode : EnvMode} (hmode : mode = .off ↔ s.hlc.state.atRest = true)
    (hestop : s.brs.estopLatched = true → s.brs.trip.latched = true) : HaulLaws q (evaluateIn mode s) where
  limit := by
    have hle := eIn_le_vLineMax h.limit mode
    simpa [State.param, State.line] using hle
  thresholds hq := handOn_thresholdsFollow (h.thresholds hq) _ _
  history := by simpa using h.history
  latched := by simpa using h.latched
  doors := by simpa using h.doors
  boarding := by simpa using h.boarding
  berth := by simpa using h.berth
  arm := by simpa using h.arm
  quiet := by simpa [Brs.Quiet] using h.quiet
  estop := by simpa using hestop
  mode := by simpa using hmode
  envelope hrest := by
    have hoff : mode = .off := hmode.mpr (by simpa using hrest)
    simp [hoff]

theorem HaulLaws.settledMode (h : HaulLaws q s) : s.settledMode = .off ↔ s.hlc.state.atRest = true := by
  unfold State.settledMode
  split
  · simpa using by assumption
  · rename_i hrun
    simpa [hrun] using fun hoff => hrun (h.mode.mp hoff)

theorem HaulLaws.envEvaluate (h : HaulLaws q s) : HaulLaws q (envEvaluate s) :=
  h.toStateLaws.evaluateIn h.settledMode h.estop

/-- An entry to rest brings every law about, of whatever state the haul leaves (R36, R45, R50, R51). -/
theorem StandingLaws.enterRest (h : StandingLaws q s) {st : HaulState} (hrest : st.atRest = true)
    (hlatched : s.brs.trip.latched = true ↔ st = .tripped)
    (hestop : s.brs.estopLatched = true → s.brs.trip.latched = true) {berth : Option Nat}
    (hberth : st = .tripped → berth = none) {boardingOpen : Bool} (hopen : boardingOpen = true → st = .boarding) :
    HaulLaws q (enterRest st berth boardingOpen s) := by
  obtain ⟨u, hu⟩ : ∃ u, u = (s.withHlc { s.hlc with
    state := st, berth := berth, boardingOpen := boardingOpen, armTimer := none }).withBrs s.brs.atRest := ⟨_, rfl⟩
  have hlaws : StateLaws q u := by
    subst hu
    exact { h with
      latched := hlatched
      doors := by rintro (rfl | rfl) <;> cases hrest
      boarding := hopen
      berth := by
        rintro (rfl | rfl | rfl)
        · cases hrest
        · cases hrest
        · exact hberth rfl
      arm := fun _ => rfl
      quiet := fun _ => ⟨rfl, rfl, rfl, rfl, rfl⟩ }
  have hmode : u.settledMode = .off ↔ u.hlc.state.atRest = true := by
    subst hu
    simp [State.settledMode, hrest]
  have heval : HaulLaws q (Machine.envEvaluate u) := hlaws.evaluateIn hmode (by subst hu; exact hestop)
  unfold Machine.enterRest
  simp only [State.withHlc_brs, ← hu]
  split
  · exact heval.congr (by simp)
  · exact heval

/-- On a run the judgements of the Brake Supervisor are free. -/
theorem HaulLaws.withBrs (h : HaulLaws q s) (hrun : s.hlc.state.atRest = false) {b : Brs}
    (hb : b.trip.latched = s.brs.trip.latched ∧ b.estopLatched = s.brs.estopLatched ∧ b.history = s.brs.history ∧
      b.tWarn = s.brs.tWarn ∧ b.tSvc = s.brs.tSvc ∧ b.tEmg = s.brs.tEmg) : HaulLaws q (s.withBrs b) := by
  obtain ⟨hlatched, hestop, hhistory, hthresholds⟩ := hb
  exact { h with
    thresholds := fun hq => thresholdsFollow_congr (h.thresholds hq) rfl hthresholds ⟨rfl, rfl⟩
    history := by simpa [hhistory] using h.history
    latched := by simpa [hlatched] using h.latched
    quiet := fun hrest => by simp [hrun] at hrest
    estop := by simpa [hlatched, hestop] using h.estop }

/-- A run goes on, or comes to its service stop. -/
theorem HaulLaws.onRun (h : HaulLaws q s) (hfrom : s.hlc.state = .armed ∨ s.hlc.state = .running) {x : Hlc}
    (hto : x.state = .running ∨ x.state = .serviceStop) (hopen : x.boardingOpen = s.hlc.boardingOpen)
    (hberth : x.berth = none) (harm : x.armTimer = none) : HaulLaws q (s.withHlc x) := by
  have hrun : s.hlc.state.atRest = false := by obtain h | h := hfrom <;> rw [h] <;> rfl
  have hrun' : x.state.atRest = false := by obtain h | h := hto <;> rw [h] <;> rfl
  have hclosed : s.hlc.boardingOpen = false := by
    by_contra hne
    have hboarding := h.boarding (by simpa using hne)
    simp [hboarding] at hfrom
  have hfree : ¬ s.hlc.state = .tripped := by obtain h | h := hfrom <;> simp [h]
  have hfree' : ¬ x.state = .tripped := by obtain h | h := hto <;> simp [h]
  exact { h with
    latched := by simpa [hfree'] using fun hl => hfree (h.latched.mp hl)
    doors := fun _ => h.doors hfrom
    boarding := by simp [hopen, hclosed]
    berth := fun _ => hberth
    arm := fun _ => harm
    quiet := by simp [hrun']
    mode := by simpa [hrun', hrun] using h.mode
    envelope := by simp [hrun'] }

end

end Sys2Proof.Machine

end

section

namespace Sys2Proof.Machine

section

variable {q : Prop} {s : State}

/-! ### Trips and demands (R55, R56, R90, R93, R94) -/

theorem HaulLaws.raise (h : HaulLaws q s) (k : EventKind) (detail : BitVec 32) : HaulLaws q (raise k detail s) :=
  h.congr (by simp)

theorem HaulLaws.placeForce (h : HaulLaws q s) : HaulLaws q (placeForce s) := h.congr (by simp)

theorem HaulLaws.testOnTrip (h : HaulLaws q s) (cause : TripCause) : HaulLaws q (testOnTrip cause s) :=
  h.congr (by simp)

@[simp] theorem onNewest_length (f : TripEntry → TripEntry) (entries : List TripEntry) :
    (onNewest f entries).length = entries.length := by
  fun_induction onNewest f entries with
  | case1 => rfl
  | case2 e => rfl
  | case3 e rest hrest ih => simp [ih]

theorem appendHistory_length_le {entries : List TripEntry} (h : entries.length ≤ 8) (e : TripEntry) :
    (appendHistory entries e).length ≤ 8 := by
  unfold appendHistory
  split
  · simp; omega
  · omega

/-- A trip brings every law about that ESTOP_LATCHED may have broken (R55, R56, R60). -/
theorem HaulLaws.trip_of_estop {b : Bool} (h : HaulLaws q (s.withBrs { s.brs with estopLatched := b }))
    (cause : TripCause) : HaulLaws q (trip cause s) := by
  have hstanding : StandingLaws q s := ⟨h.limit, h.thresholds, h.history⟩
  unfold Machine.trip
  refine HaulLaws.testOnTrip ?_ cause
  split
  · rename_i hlatched
    have hs : HaulLaws q s := { h with estop := fun _ => hlatched }
    exact hs.congr (by simp [addTrip, Brs.addCause])
  · have hrecord : StandingLaws q (raiseTrip cause 1 (s.withBrs { s.brs with
        trip := { latched := true, first := some cause, causes := cause.bit, posA := s.moe.last.posA,
                  v := s.moe.last.signed, time := s.clock }
        history := appendHistory s.brs.history
          { first := some cause, causes := cause.bit, posA := s.moe.last.posA, v := s.moe.last.signed,
            time := s.clock, cleared := false } })) :=
      ⟨by simpa [State.param, State.line] using hstanding.limit,
        fun hq => thresholdsFollow_congr (hstanding.thresholds hq) (by simp [State.line]) (by simp) (by simp),
        by simpa using appendHistory_length_le hstanding.history _⟩
    have htripped := hrecord.enterRest (st := .tripped) rfl (by simp) (by simp) (berth := none) (fun _ => rfl)
      (boardingOpen := false) (by simp)
    exact htripped.placeForce

theorem HaulLaws.trip (h : HaulLaws q s) (cause : TripCause) : HaulLaws q (trip cause s) :=
  HaulLaws.trip_of_estop (b := s.brs.estopLatched) h cause

theorem HaulLaws.not_latched (h : HaulLaws q s) (hst : s.hlc.state ≠ .tripped) : s.brs.trip.latched = false := by
  simpa using fun hl => hst (h.latched.mp hl)

/-- An entry to PARKED or BOARDING from any state but TRIPPED. -/
theorem HaulLaws.enterRest (h : HaulLaws q s) (hfree : s.hlc.state ≠ .tripped) {st : HaulState}
    (hst : st = .parked ∨ st = .boarding) (berth : Option Nat) {boardingOpen : Bool}
    (hopen : boardingOpen = true → st = .boarding) : HaulLaws q (enterRest st berth boardingOpen s) := by
  have hrest : st.atRest = true := by obtain rfl | rfl := hst <;> rfl
  have hst' : ¬ st = .tripped := by obtain rfl | rfl := hst <;> decide
  exact h.toStandingLaws.enterRest hrest (by simp [h.not_latched hfree, hst']) h.estop (fun ht => absurd ht hst')
    hopen

theorem Origin.toState_cases (o : Origin) : o.toState = .parked ∨ o.toState = .boarding := by
  cases o <;> decide

theorem HaulLaws.returnToOrigin (h : HaulLaws q s) (hst : s.hlc.state = .armed) :
    HaulLaws q (returnToOrigin s) := by
  have hreturned : ∀ st : HaulState, st = .parked ∨ st = .boarding →
      HaulLaws q (Machine.placeForce (Machine.enterRest st s.hlc.berth false s)) := fun st hto =>
    (h.enterRest (by simp [hst]) hto _ (by simp)).placeForce
  unfold Machine.returnToOrigin
  cases s.hlc.origin with
  | some o => exact hreturned _ o.toState_cases
  | none => exact hreturned _ (.inl rfl)

theorem HaulLaws.enterServiceStop (h : HaulLaws q s) (hst : s.hlc.state = .running) (cause : StopCause) :
    HaulLaws q (enterServiceStop cause s) := by
  have hstopped := h.onRun (x := { s.hlc with state := .serviceStop, stopCause := some cause, further := 0 })
    (.inr hst) (.inr rfl) rfl (h.berth (.inl hst)) (h.arm (by simp [hst]))
  exact hstopped.envEvaluate.placeForce.withBrs (by simp [HaulState.atRest]) (by simp)

theorem HaulLaws.demand (h : HaulLaws q s) (cause : StopCause) : HaulLaws q (demand cause s) := by
  cases hst : s.hlc.state <;> simp only [Machine.demand, hst]
  case armed => exact (h.returnToOrigin hst).raise _ _
  case running => exact (h.enterServiceStop hst cause).raise _ _
  case serviceStop =>
    split
    · exact h.congr (by simp [hst])
    · exact h.congr (by simp [hst])
  all_goals exact h.raise _ _

/-- A demand on a run leads to, or stays in, SERVICE_STOP (R93). -/
theorem demand_state_of_run (hst : s.hlc.state = .running ∨ s.hlc.state = .serviceStop) (cause : StopCause) :
    (demand cause s).hlc.state = .serviceStop := by
  obtain hst | hst := hst <;> simp only [demand, hst]
  · simp [enterServiceStop]
  · split <;> simp

/-! ### The judgements of the Brake Supervisor (R44, R51, R53, R68–R71) -/

theorem HaulLaws.setTier (h : HaulLaws q s) (hrun : s.hlc.state.atRest = false) (tier : Tier) (above : Bool) :
    HaulLaws q (setTier tier above s) :=
  h.withBrs hrun (by simp)

theorem HaulLaws.warn (h : HaulLaws q s) (hrun : s.hlc.state.atRest = false) (above : Bool) :
    HaulLaws q (warn above s) := by
  simp only [Machine.warn]
  split
  · exact (h.setTier hrun _ _).raise _ _
  · exact h.setTier hrun _ _

theorem HaulLaws.tierCases (h : HaulLaws q s) (hrun : s.hlc.state.atRest = false) : HaulLaws q (tierCases s) := by
  simp only [Machine.tierCases]
  split
  · exact h.trip _
  split
  · split
    · exact h.warn hrun _
    · exact (h.warn hrun _).demand _
  split
  · exact h.warn hrun _
  split
  · exact h.setTier hrun _ _
  · exact h.setTier hrun _ _

theorem HaulLaws.judgeTier (h : HaulLaws q s) : HaulLaws q (judgeTier s) := by
  unfold Machine.judgeTier
  split
  · rename_i hrun
    exact h.tierCases (by simp_all)
  · exact h

theorem HaulLaws.startLossTimer (h : HaulLaws q s) (hrun : s.hlc.state.atRest = false) :
    HaulLaws q (startLossTimer s) :=
  h.withBrs hrun (by simp)

theorem HaulLaws.followLoss (h : HaulLaws q s) (hrun : s.hlc.state.atRest = false) : HaulLaws q (followLoss s) := by
  have htimer : HaulLaws q (if s.sheaveFresh then s.withBrs { s.brs with lossTimer := none }
      else if s.brs.lossTimer.isNone then Machine.startLossTimer s else s) := by
    split
    · exact h.withBrs hrun (by simp)
    split
    · exact h.startLossTimer hrun
    · exact h
  simp only [Machine.followLoss]
  split
  · refine htimer.withBrs ?_ (by simp)
    (repeat' split) <;> simpa using hrun
  · exact htimer

theorem HaulLaws.takeLoss (h : HaulLaws q s) (hst : s.hlc.state = .running ∨ s.hlc.state = .serviceStop) :
    HaulLaws q (takeLoss s) := by
  have hrun : s.hlc.state.atRest = false := by obtain h | h := hst <;> rw [h] <;> rfl
  have hstate := demand_state_of_run (s := s.withBrs { s.brs with lossFlag := true }) hst .speedLost
  have hlost := ((h.withBrs hrun (b := { s.brs with lossFlag := true }) (by simp)).demand .speedLost).raise
    .speedLost (BitVec.ofInt 32 s.moe.last.posA)
  simp only [Machine.takeLoss]
  split
  · exact hlost
  · exact hlost.startLossTimer (by simp [hstate, HaulState.atRest])

theorem HaulLaws.judgeLoss (h : HaulLaws q s) : HaulLaws q (judgeLoss s) := by
  unfold Machine.judgeLoss
  split
  · rename_i hst
    split
    · exact h.followLoss (by obtain h | h := hst <;> rw [h] <;> rfl)
    split
    · exact h
    · exact h.takeLoss hst
  · exact h

theorem HaulLaws.judgeTest (h : HaulLaws q s) : HaulLaws q (judgeTest s) := by
  have htrigger : ∀ id, HaulLaws q (judgeTrigger id s) := fun id => by
    unfold judgeTrigger
    split
    · cases id with
      | service => exact HaulLaws.demand (h.congr (by simp)) _
      | emergency => exact HaulLaws.trip (h.congr (by simp)) _
    · exact h
  have hstop : ∀ id, HaulLaws q (judgeStopEnd id s) := fun id => h.congr (by simp)
  unfold Machine.judgeTest
  split
  · exact htrigger _
  · exact hstop _
  · exact htrigger _
  · exact hstop _
  · exact h

theorem HaulLaws.unsupervised (h : HaulLaws q s) (still : Bool) : HaulLaws q (s.unsupervised still) := by
  unfold State.unsupervised
  split
  · have hquiet : s.hlc.state.atRest = true → ({ s.brs with sup := s.brs.sup.ended } : Brs).Quiet := fun hrest => by
      obtain ⟨htier, habove, hflag, htimer, -⟩ := h.quiet hrest
      exact ⟨htier, habove, hflag, htimer, rfl⟩
    exact { h with quiet := hquiet }
  · exact h

theorem HaulLaws.brsUpdate (h : HaulLaws q s) : HaulLaws q (brsUpdate s) := by
  have htrip : HaulLaws q (if s.hlc.state ≠ .tripped ∧ s.overruns then Machine.trip .overrun (Machine.judgeTier s)
      else Machine.judgeTier s) := by
    split
    · exact h.judgeTier.trip _
    · exact h.judgeTier
  rw [brsUpdate_eq]
  exact htrip.judgeLoss.judgeTest.unsupervised _

/-- The Envelope Unit: frozen in NORMAL, which no haul at rest is in (R35). -/
theorem HaulLaws.envUpdate (h : HaulLaws q s) : HaulLaws q (envUpdate s) := by
  unfold Machine.envUpdate
  split
  · rename_i hfreeze
    have hnormal : s.env.mode = .normal := by simp_all [State.freezes]
    have hrun : s.hlc.state.atRest = false := by simpa [hnormal] using h.mode
    exact (h.toStateLaws.evaluateIn (mode := .frozen) (by simp [hrun]) h.estop).demand _
  · exact h.envEvaluate

end

end Sys2Proof.Machine

end

section

namespace Sys2Proof.Machine

theorem Dru.allLocked_iff (d : Dru) : d.allLocked = true ↔ ∀ car side, (d.door car side).state = .locked := by
  constructor
  · intro h
    simp only [Dru.allLocked, Bool.and_eq_true, beq_iff_eq] at h
    obtain ⟨⟨⟨hal, har⟩, hbl⟩, hbr⟩ := h
    rintro (_ | _) (_ | _) <;> assumption
  · intro h
    simp only [Dru.allLocked, Bool.and_eq_true, beq_iff_eq]
    exact ⟨⟨⟨h .a .left, h .a .right⟩, h .b .left⟩, h .b .right⟩

@[simp] theorem Dru.allLocked_setReports (d : Dru) (car : Car) (r : CarReport) :
    (d.setReports car r).allLocked = d.allLocked := by
  cases car <;> rfl

section

variable {q : Prop} {s : State}

/-! ### The doors (R99, R103–R117) -/

/-- Out of ARMED and RUNNING the door records are free. -/
theorem HaulLaws.withDru (h : HaulLaws q s) {d : Dru}
    (hd : s.hlc.state = .armed ∨ s.hlc.state = .running → d.allLocked = true) : HaulLaws q (s.withDru d) :=
  { h with doors := hd }

/-- The reports and the moving-open flag are no law's matter. -/
theorem HaulLaws.storeReports (h : HaulLaws q s) (car : Car) (r : CarReport) :
    HaulLaws q (s.withDru (s.dru.setReports car r)) :=
  h.withDru fun hrun => by simpa using h.doors hrun

theorem HaulLaws.setMovingOpen (h : HaulLaws q s) (b : Bool) : HaulLaws q (setMovingOpen b s) :=
  h.withDru h.doors

/-- A record of a haul that is neither ARMED nor RUNNING changes freely. -/
theorem HaulLaws.setDoor (h : HaulLaws q s) (hrun : ¬ (s.hlc.state = .armed ∨ s.hlc.state = .running)) (car : Car)
    (side : Side) (r : DoorRecord) : HaulLaws q (setDoor car side r s) :=
  h.withDru fun hst => absurd hst hrun

theorem HaulLaws.faultDoor (h : HaulLaws q s) (hrun : ¬ (s.hlc.state = .armed ∨ s.hlc.state = .running)) (car : Car)
    (side : Side) (why : DoorFaultReason) (judgedIn : HaulState) : HaulLaws q (faultDoor car side why judgedIn s) :=
  (h.setDoor hrun car side _).raise _ _

/-- A record that is not LOCKED stands in no haul that is ARMED or RUNNING (R99). -/
theorem HaulLaws.not_run_of_unlocked (h : HaulLaws q s) {car : Car} {side : Side}
    (hd : (s.dru.door car side).state ≠ .locked) : ¬ (s.hlc.state = .armed ∨ s.hlc.state = .running) :=
  fun hst => hd ((Dru.allLocked_iff _).mp (h.doors hst) car side)

theorem HaulLaws.withdraw (h : HaulLaws q s) (hrun : ¬ (s.hlc.state = .armed ∨ s.hlc.state = .running)) (car : Car)
    (side : Side) : HaulLaws q (withdraw car side s) :=
  HaulLaws.setDoor (s := placeDoor car side .withdraw s) (h.congr (by simp)) (by simpa using hrun) car side _

theorem HaulLaws.judgeMovingOpen (h : HaulLaws q s) (tripped : Bool) : HaulLaws q (judgeMovingOpen tripped s) := by
  unfold Machine.judgeMovingOpen
  split
  · split
    · split
      · exact h.setMovingOpen _
      · exact (h.setMovingOpen _).trip _
    · exact h.setMovingOpen _
  · exact h

theorem HaulLaws.foldl_withdrawReleased (h : HaulLaws q s) (hst : s.hlc.state = .boarding)
    (css : List (Car × Side)) : HaulLaws q (css.foldl withdrawReleased s) := by
  induction css generalizing s with
  | nil => exact h
  | cons cs rest ih =>
    refine ih ?_ (by simpa using hst)
    rw [withdrawReleased_eq]
    split
    · exact h.withdraw (by simp [hst]) _ _
    · exact h

theorem HaulLaws.judgeWithdrawal (h : HaulLaws q s) : HaulLaws q (judgeWithdrawal s) := by
  unfold Machine.judgeWithdrawal
  split
  · rename_i hst
    exact h.foldl_withdrawReleased hst.1 _
  · exact h

theorem trip_state (cause : TripCause) (s : State) :
    (trip cause s).hlc.state = if s.brs.trip.latched then s.hlc.state else .tripped := by
  unfold trip
  split <;> simp [latchTrip_hlc]

/-- A record judged in a haul that is not ARMED, which judging does not arm. -/
theorem HaulLaws.judgeSide (h : HaulLaws q s) (hst : s.hlc.state ≠ .armed) (car : Car) (side : Side)
    (x : SideStatus) : HaulLaws q (judgeSide car side x s).1 ∧ (judgeSide car side x s).1.hlc.state ≠ .armed := by
  have hfree : ∀ {st}, (s.dru.door car side).state = st → st ≠ .locked → ∀ st',
      HaulLaws q (settleDoor car side st' s) ∧ (settleDoor car side st' s).hlc.state ≠ .armed := fun hr hne st' =>
    ⟨h.setDoor (h.not_run_of_unlocked (by rw [hr]; exact hne)) car side _, by simpa using hst⟩
  cases hr : (s.dru.door car side).state <;> simp only [Machine.judgeSide, hr]
  case locked =>
    split
    · exact ⟨h, hst⟩
    split
    · rename_i hrun
      have htripped : (Machine.trip .doorOpenMoving s).hlc.state = .tripped := by
        rw [trip_state, if_neg]
        have hnot := h.not_latched (by obtain h | h := hrun <;> simp [h])
        simp [hnot]
      exact ⟨(h.trip _).faultDoor (by simp [htripped]) _ _ _ _, by simp [htripped]⟩
    · rename_i hrun
      exact ⟨h.faultDoor (by simp_all) _ _ _ _, by simpa using hst⟩
  case releasing =>
    split
    · exact ⟨h, hst⟩
    · exact hfree hr (by decide) _
  case released => exact ⟨h, hst⟩
  case closing =>
    split
    · exact hfree hr (by decide) _
    split
    · exact ⟨h.raise _ _, by simpa using hst⟩
    · exact ⟨h, hst⟩
  case fault =>
    split
    · exact hfree hr (by decide) _
    · exact ⟨h, hst⟩

/-- A LOCKED record judged secure is left alone. -/
theorem judgeSide_of_secure {car : Car} {side : Side} {x : SideStatus} (hr : (s.dru.door car side).state = .locked)
    (hx : x.secure = true) : judgeSide car side x s = (s, false) := by
  simp [judgeSide, hr, hx]

/-- A report that unlocks no LOCKED record changes none of an ARMED haul's; any other has sent it back (R99). -/
theorem HaulLaws.takeDoorReport (h : HaulLaws q s) (car : Car) (left right : SideStatus) :
    HaulLaws q (takeDoorReport car left right s) := by
  have hstored : HaulLaws q (storeReport car left right s) := h.storeReports car _
  simp only [Machine.takeDoorReport]
  generalize storeReport car left right s = u at hstored
  refine HaulLaws.judgeMovingOpen ?_ _
  split
  · rename_i harmed
    have hback : (Machine.returnToOrigin u).hlc.state ≠ .armed := by
      simp only [Machine.returnToOrigin]
      cases u.hlc.origin with
      | none => simp
      | some o => cases o <;> simp [Origin.toState]
    obtain ⟨hleft, hst⟩ := (hstored.returnToOrigin harmed.1).judgeSide hback car .left left
    exact (hleft.judgeSide hst car .right right).1
  · rename_i hstays
    by_cases harmed : u.hlc.state = .armed
    · have hlocked := (Dru.allLocked_iff _).mp (hstored.doors (.inl harmed)) car
      have hsecure : left.secure = true ∧ right.secure = true := by
        simpa [harmed, State.unlocks, hlocked] using hstays
      rw [judgeSide_of_secure (hlocked .left) hsecure.1, judgeSide_of_secure (hlocked .right) hsecure.2]
      exact hstored
    · obtain ⟨hleft, hst⟩ := hstored.judgeSide harmed car .left left
      exact (hleft.judgeSide hst car .right right).1

theorem HaulLaws.lapse (h : HaulLaws q s) (car : Car) : HaulLaws q (lapse car s) := by
  have hraised := (h.storeReports car { s.dru.reports car with expiry := none }).raise .doorStateLost
    (detail4 (carCode car) s.hlc.state.code 0 0)
  unfold Machine.lapse
  split
  · exact hraised
  · exact hraised.demand _

theorem HaulLaws.decideDoor (h : HaulLaws q s) (car side action : Byte) :
    HaulLaws q (decideDoor car side action s).2 := by
  have hopen : ∀ c d, HaulLaws q (openDoor c d s).2 := fun c d => by
    unfold openDoor
    split
    · rename_i haccepted
      have hst : s.hlc.state = .boarding := by
        by_contra hne
        simp [State.openResult, hne] at haccepted
      exact HaulLaws.judgeMovingOpen (HaulLaws.setDoor (s := placeDoor c d .release s) (h.congr (by simp))
        (by simp [hst]) c d _) _
    · exact h
  have hclose : ∀ c d, HaulLaws q (closeDoor c d s).2 := fun c d => by
    cases hr : (s.dru.door c d).state <;> simp only [closeDoor, hr]
    case locked => exact h
    case closing => exact h.congr (by simp)
    all_goals exact h.withdraw (h.not_run_of_unlocked (car := c) (side := d) (by simp [hr])) _ _
  unfold Machine.decideDoor
  split
  · split
    · exact hopen _ _
    split
    · exact hclose _ _
    · exact h
  · exact h

theorem HaulLaws.releaseExpiry (h : HaulLaws q s) (car : Car) (side : Side) :
    HaulLaws q (releaseExpiry car side s) := by
  simp only [Machine.releaseExpiry]
  split
  · rename_i hr
    exact h.faultDoor (h.not_run_of_unlocked (car := car) (side := side) (by simp [hr.1])) _ _ _ _
  · exact h

theorem HaulLaws.closeExpiry (h : HaulLaws q s) (car : Car) (side : Side) : HaulLaws q (closeExpiry car side s) := by
  simp only [Machine.closeExpiry]
  split
  · rename_i hr
    exact h.faultDoor (h.not_run_of_unlocked (car := car) (side := side) (by simp [hr.1])) _ _ _ _
  · exact h

theorem HaulLaws.freshnessExpiry (h : HaulLaws q s) (car : Car) : HaulLaws q (freshnessExpiry car s) := by
  unfold Machine.freshnessExpiry
  split
  · exact h.lapse car
  · exact h

/-! ### The motion update and what ends in one (R10) -/

theorem HaulLaws.hlcUpdate (h : HaulLaws q s) : HaulLaws q (hlcUpdate s) := by
  unfold Machine.hlcUpdate
  split
  · split
    · rename_i hst
      have hfree : s.hlc.state ≠ .tripped := by simp [hst]
      unfold endServiceStop
      split
      · exact (h.enterRest hfree (.inr rfl) _ (by simp)).raise _ _
      · exact h.enterRest hfree (.inl rfl) _ (by simp)
    split
    · rename_i hst
      unfold arrive
      split
      · exact (h.enterRest (by simp [hst.1]) (.inr rfl) _ (by simp)).raise _ _
      · exact h
    · exact h
  · exact h

theorem HaulLaws.motionUpdate (h : HaulLaws q s) : HaulLaws q (motionUpdate s) := by
  have hstored : HaulLaws q (storeMotion (judgeStill s)) := h.congr (by simp)
  exact (hstored.envUpdate.brsUpdate.judgeMovingOpen false).judgeWithdrawal.hlcUpdate

theorem HaulLaws.withMoe (h : HaulLaws q s) (m : Moe) : HaulLaws q (s.withMoe m) := { h with }

theorem HaulLaws.crossCheck (h : HaulLaws q s) (l : Line) (ch : ChannelId) : HaulLaws q (crossCheck l ch s) := by
  have hdisagree : ∀ {s : State}, HaulLaws q s → HaulLaws q (judgeDisagree l s) := fun h => by
    unfold judgeDisagree
    split
    · simp only
      split
      · exact ((h.withMoe _).raise _ _).demand _
      · exact h.withMoe _
    · exact h.withMoe _
  have hslip : ∀ car, HaulLaws q (judgeSlip l car s) := fun car => by
    unfold judgeSlip
    split
    · simp only
      split
      · exact ((h.withMoe _).raise _ _).demand _
      · exact h.withMoe _
    · exact h.withMoe _
  unfold Machine.crossCheck
  split
  · exact hslip _
  · exact hdisagree (h.congr (by simp))

theorem HaulLaws.takeSample (h : HaulLaws q s) (ch : ChannelId) (x : Sample) (health : Byte) :
    HaulLaws q (takeSample ch x health s) := by
  unfold Machine.takeSample
  split
  · exact h.withMoe _
  split
  · exact h.withMoe _
  · exact ((h.withMoe _).crossCheck _ ch).motionUpdate

theorem HaulLaws.takeMarker (h : HaulLaws q s) (id car : Byte) : HaulLaws q (takeMarker id car s) := by
  have happly : ∀ implied diff c, HaulLaws q (applyMarker implied diff c s) := fun _ _ _ =>
    ((h.withMoe _).raise _ _).motionUpdate
  unfold Machine.takeMarker
  split
  · split
    · exact h.withMoe _
    split
    · simp only [judgeMarker]
      split
      · split
        · exact happly _ _ _
        · exact ((h.withMoe _).raise _ _).motionUpdate
      · exact happly _ _ _
    · exact h
  · exact (h.withMoe _).raise _ _

theorem HaulLaws.channelExpiry (h : HaulLaws q s) (ch : ChannelId) : HaulLaws q (channelExpiry ch s) := by
  unfold Machine.channelExpiry
  split
  · exact HaulLaws.motionUpdate (h.congr (by simp))
  · exact h

theorem HaulLaws.stillTimerExpiry (h : HaulLaws q s) : HaulLaws q (stillTimerExpiry s) := by
  unfold Machine.stillTimerExpiry
  split
  · exact (h.withMoe _).motionUpdate
  · exact h

end

end Sys2Proof.Machine

end

section

namespace Sys2Proof.Machine

/-! ### New tables (R43, R180) -/

theorem ActiveTables.put_line_of_ne {t : TableId} (h : t ≠ .line) (a : ActiveTables) (es : List (List Byte)) :
    (a.put t es).line = a.line := by
  cases t with
  | line => exact absurd rfl h
  | _ => rfl

/-- No other table than LINE reaches the LINE record, and a LINE shadow that is no record leaves it. -/
theorem foldl_put_line (mask : Byte) (m : Mga) (ts : List TableId) (a : ActiveTables) :
    let b := ts.foldl (fun a t => if names mask t then a.put t (m.shadow t).entries else a) a
    b.line = a.line ∨ names mask .line = true ∧ b.line.isSome = true := by
  induction ts generalizing a with
  | nil => exact .inl rfl
  | cons t rest ih =>
    simp only [List.foldl_cons]
    obtain hsame | hnew := ih (if names mask t then a.put t (m.shadow t).entries else a)
    · rw [hsame]
      split
      · rename_i hnames
        by_cases ht : t = .line
        · subst ht
          cases hes : lineOfEntries (m.shadow .line).entries with
          | none => exact .inl (by simp [ActiveTables.put, hes])
          | some l => exact .inr ⟨hnames, by simp [ActiveTables.put, hes]⟩
        · exact .inl (ActiveTables.put_line_of_ne ht _ _)
      · exact .inl rfl
    · exact .inr hnew

/-- The LINE record changes only where the mask names LINE, and is then there (R180). -/
theorem after_line (m : Mga) (mask : Byte) :
    (m.after mask).line = m.active.line ∨ names mask .line = true ∧ (m.after mask).line.isSome = true :=
  foldl_put_line mask m allTables m.active

section

variable {q : Prop} {s : State}

/-- At rest, where E is 0, the LINE record is free but for the thresholds. -/
theorem HaulLaws.withTables (h : HaulLaws q s) (hrest : s.hlc.state.atRest = true) (m : Mga) :
    HaulLaws False (s.withMga m) :=
  { h with
    limit := by simp [h.envelope hrest]
    thresholds := False.elim }

/-- Thresholds recomputed follow whatever stood before (R43). -/
theorem HaulLaws.recomputeThresholds (h : HaulLaws q s) : HaulLaws True (recomputeThresholds s) where
  limit := by simpa [State.param, State.line] using h.limit
  thresholds _ := recomputeThresholds_follow s
  history := by simpa using h.history
  latched := by simpa using h.latched
  doors := by simpa using h.doors
  boarding := by simpa using h.boarding
  berth := by simpa using h.berth
  arm := by simpa using h.arm
  quiet := by simpa [Brs.Quiet] using h.quiet
  estop := by simpa using h.estop
  mode := by simpa using h.mode
  envelope := by simpa using h.envelope

theorem HaulLaws.applyLineDoor (h : HaulLaws q s) (l : Line) (car : Car) : HaulLaws q (applyLineDoor l s car) := by
  simp only [Machine.applyLineDoor]
  split
  · split
    · exact (h.storeReports _ _).lapse car
    · exact h.storeReports _ _
  · exact h

/-- The notices of a new LINE record bring the thresholds to it. -/
theorem HaulLaws.applyLine (h : HaulLaws q s) (l : Line) : HaulLaws True (applyLine l s) := by
  have hmoe : HaulLaws q (applyLineMoe l s) := by
    simp only [applyLineMoe]
    exact HaulLaws.motionUpdate (h.congr (by simp [allChannels]))
  have hdrive : HaulLaws True (applyLineDrive l (Machine.recomputeThresholds (applyLineMoe l s))) := by
    refine hmoe.recomputeThresholds.congr ?_
    unfold applyLineDrive
    split <;> simp
  exact ((hdrive.applyLineDoor l .a).applyLineDoor l .b).congr (by simp [Machine.applyLine])

/-- A mask takes effect at rest, or does not name LINE (R177, R180). -/
theorem HaulLaws.takeEffect (h : HaulLaws True s) {mask : Byte}
    (hwhen : s.hlc.state.atRest = true ∨ names mask .line = false) (wasPending : Bool) :
    HaulLaws True (takeEffect mask wasPending s) := by
  obtain ⟨u, hu⟩ : ∃ u, u = raiseActivated mask wasPending
      (if names mask .reportLevel then applyReportLevel (copyTables mask s) else copyTables mask s) := ⟨_, rfl⟩
  have hmga : u.mga = { s.mga with active := s.mga.after mask } := by
    rw [hu]; split <;> simp <;> rfl
  have hkept : ∀ {q : Prop}, HaulLaws q (copyTables mask s) → HaulLaws q u := fun hc => by
    refine hc.congr ?_
    rw [hu]; split <;> simp
  have hupdate : HaulLaws True u → HaulLaws True (if haulMask mask then Machine.motionUpdate u else u) := fun hl => by
    split
    · exact hl.motionUpdate
    · exact hl
  have hline := after_line s.mga mask
  simp only [Machine.takeEffect, ← hu]
  unfold noticeTables
  cases hn : names mask .line with
  | false =>
    have hsame : (s.mga.after mask).line = s.mga.active.line := by simpa [hn] using hline
    exact hupdate (hkept (h.congr (by simp [copyTables, hsame])))
  | true =>
    have hrest : s.hlc.state.atRest = true := by simpa [hn] using hwhen
    cases hl : u.line with
    | some l => exact (hkept (h.withTables hrest _)).applyLine l
    | none =>
      have hnone : (s.mga.after mask).line = none := by simpa [State.line, hmga] using hl
      have hsame : (s.mga.after mask).line = s.mga.active.line := by simpa [hnone] using hline
      exact hupdate (hkept (h.congr (by simp [copyTables, hsame])))

/-- The end of a step takes a pending activation in PARKED or TRIPPED alone (R178). -/
theorem HaulLaws.settle {before after : State} (h : HaulLaws True after) : HaulLaws True (settle before after) := by
  unfold Machine.settle
  split
  · rename_i hst
    have hrest : after.hlc.state.atRest = true := by obtain h | h := hst.2 <;> rw [h] <;> rfl
    split
    · rename_i mask _
      have hnone : HaulLaws True (after.withMga { after.mga with pendingMask := none }) := h.congr (by simp)
      simp only [takePending]
      split
      · exact hnone.raise _ _
      · exact hnone.takeEffect (.inl hrest) true
    · exact h
  · exact h

/-! ### Requests of the manager -/

theorem HaulLaws.decideActivate (h : HaulLaws True s) (mask : Byte) : HaulLaws True (decideActivate mask s).state := by
  unfold Machine.decideActivate
  split
  · exact h
  rename_i hmask
  split
  · exact h
  split
  · exact h
  split
  · rename_i hlow
    refine h.takeEffect (.inr (names_line_of_low ?_)) false
    simp_all [badMask, haulMask]
  split
  · rename_i hst
    unfold activateNow
    split
    · exact h.raise _ _
    · exact h.takeEffect (.inl (by obtain h | h := hst <;> rw [h] <;> rfl)) false
  · exact h.congr (by simp)

theorem HaulLaws.decideTripReset (h : HaulLaws q s) : HaulLaws q (decideTripReset s).state := by
  have hcleared : HaulLaws q (Machine.enterRest .parked none false (s.withBrs s.brs.cleared)) := by
    have hstanding : StandingLaws q (s.withBrs s.brs.cleared) :=
      ⟨h.limit, h.thresholds, by simpa [Brs.cleared] using h.history⟩
    exact hstanding.enterRest rfl (by simp [Brs.cleared]) (by simp [Brs.cleared]) (fun _ => rfl) (by simp)
  unfold Machine.decideTripReset
  split
  · exact h
  split
  · exact h
  split
  · exact h
  split
  · exact h
  split
  · exact h
  · exact hcleared

/-- REINIT clears a haul record that is PARKED or TRIPPED, and its thresholds follow the envelope (R42, R65, R102). -/
theorem HaulLaws.reinitialized (h : HaulLaws q s) (hst : s.hlc.state = .parked ∨ s.hlc.state = .tripped) :
    HaulLaws q s.reinitialized := by
  have henv : HaulLaws q (s.withEnv s.env.reinit) := { h with }
  have hrec : HaulLaws q (Machine.recomputeThresholds (s.withEnv s.env.reinit)) :=
    { henv.recomputeThresholds with thresholds := fun _ => recomputeThresholds_follow _ }
  have hberth : s.hlc.state = .tripped → s.reinitBerth = none := fun ht => by simp [State.reinitBerth, ht]
  exact { hrec with
    berth := by
      rintro (hr | hr | hr)
      · have hr' : s.hlc.state = .running := hr
        simp [hr'] at hst
      · have hr' : s.hlc.state = .serviceStop := hr
        simp [hr'] at hst
      · exact hberth hr }

theorem HaulLaws.decideReinit (h : HaulLaws q s) : HaulLaws q (decideReinit s).state := by
  unfold Machine.decideReinit
  split
  · rename_i hst
    have hreinit := (h.reinitialized hst).motionUpdate
    rw [← reinit_eq] at hreinit
    exact hreinit
  · exact h

theorem HaulLaws.decideReference (h : HaulLaws q s) (stop : Byte) : HaulLaws q (decideReference stop s).state := by
  unfold Machine.decideReference
  split
  · exact h
  split
  · exact h
  split
  · exact h
  split
  · exact h
  · exact (h.withMoe _).motionUpdate

theorem HaulLaws.decideAbort (h : HaulLaws q s) : HaulLaws q (decideAbort s).state := by
  unfold Machine.decideAbort
  (repeat' split)
  · exact h.congr (by simp [accept, abortWaiting])
  · exact h.congr (by simp [accept])
  · exact h
  · exact h

theorem HaulLaws.decideBrakeTest (h : HaulLaws q s) (mask : Byte) (v : Nat) :
    HaulLaws q (decideBrakeTest mask v s).state := by
  refine h.congr ?_
  unfold Machine.decideBrakeTest
  (repeat' split) <;> simp [refuse, accept]

theorem decideLoad_active (body : List Byte) (s : State) : (decideLoad body s).state.mga.active = s.mga.active := by
  unfold decideLoad
  split
  · simp only [loadTable]
    (repeat' split) <;> rfl
  · rfl

theorem decideCancel_active (s : State) : (decideCancel s).state.mga.active = s.mga.active := by
  unfold decideCancel
  split <;> rfl

theorem HaulLaws.decideRequest (h : HaulLaws True s) (code : Byte) (body : List Byte) :
    HaulLaws True (decideRequest code body s).state := by
  unfold Machine.decideRequest
  split
  · rename_i r _
    split
    · cases r with
      | activate => exact h.decideActivate _
      | reference => exact h.decideReference _
      | tripReset => exact h.decideTripReset
      | manualTrip => exact h.trip _
      | brakeTest => exact h.decideBrakeTest _ _
      | brakeTestAbort => exact h.decideAbort
      | reinit => exact h.decideReinit
      | load => exact h.congr (by simp [Request.decide, decideLoad_active])
      | cancelActivate => exact h.congr (by simp [Request.decide, decideCancel_active])
      | setDay => exact h.congr (by simp [Request.decide, decideSetDay, accept])
      | _ => exact h.congr (by simp [Request.decide])
    · exact h
  · exact h

end

end Sys2Proof.Machine

end

section

namespace Sys2Proof.Machine

section

variable {q : Prop} {s : State}

/-! ### Line commands (R84–R92) -/

theorem HaulLaws.openLine (h : HaulLaws q s) : HaulLaws q (openLine s).2 := by
  unfold Machine.openLine
  split
  · rename_i hst
    split
    · exact h
    split
    · exact h
    · exact h.enterRest (by simp [hst]) (.inr rfl) _ (fun _ => rfl)
  · rename_i hst
    split
    · exact h
    split
    · exact h
    · exact { h with boarding := fun _ => hst }
  all_goals exact h

theorem HaulLaws.closeBoarding (h : HaulLaws q s) : HaulLaws q (closeBoarding s).2 := by
  unfold Machine.closeBoarding
  split
  · exact { h with boarding := fun hopen => by cases hopen }
  · exact h

/-- The entry to ARMED, with every record LOCKED and boarding closed (R28, R86, R87). -/
theorem HaulLaws.enterArmed (h : HaulLaws q s) (hst : s.hlc.state = .boarding ∨ s.hlc.state = .parked)
    (hdoors : s.dru.allLocked = true) (hclosed : s.hlc.boardingOpen = false) (target : Nat) (dir : Direction) :
    HaulLaws q (enterArmed target dir s) := by
  have hfree := h.not_latched (by obtain h | h := hst <;> simp [h])
  have hlatched : ∀ x : Hlc, x.state = .armed → x.boardingOpen = s.hlc.boardingOpen →
      StateLaws q ((s.withHlc x).withEnv (s.withHlc x).armedEnv) := fun x hx hopen =>
    { h with
      latched := by simp [hx, hfree]
      doors := fun _ => hdoors
      boarding := by simp [hopen, hclosed]
      berth := by simp [hx]
      arm := by simp [hx]
      quiet := by simp [hx, HaulState.atRest] }
  simp only [Machine.enterArmed, envArm_eq]
  refine StateLaws.evaluateIn (hlatched _ (by rfl) (by rfl)) ?_ h.estop
  simp [armMode_ne_off, HaulState.atRest]

theorem departResult_accepted {target : Nat} {st : Stop} (h : s.departResult target st = .accepted) :
    s.hlc.boardingOpen = false ∧ s.dru.allLocked = true := by
  unfold State.departResult at h
  split at h
  · cases h
  split at h
  · cases h
  split at h
  · cases h
  split at h
  · cases h
  · simp_all

theorem HaulLaws.departLine (h : HaulLaws q s) (target : Nat) : HaulLaws q (departLine target s).2 := by
  unfold Machine.departLine
  split
  · exact h
  · rename_i hst
    split
    · exact h
    · split
      · rename_i haccepted
        obtain ⟨hclosed, hdoors⟩ := departResult_accepted haccepted
        exact h.enterArmed (not_not.mp hst) hdoors hclosed _ _
      · exact h

theorem HaulLaws.stopLine (h : HaulLaws q s) : HaulLaws q (stopLine s).2 := by
  cases hst : s.hlc.state <;> simp only [Machine.stopLine, hst]
  case armed => exact h.returnToOrigin hst
  case running => exact h.demand _
  case serviceStop => exact h.demand _
  all_goals exact h

theorem HaulLaws.parkLine (h : HaulLaws q s) : HaulLaws q (parkLine s).2 := by
  unfold Machine.parkLine
  split
  · exact h
  rename_i hst
  split
  · exact h
  · have hparked := h.enterRest (st := .parked) (by simp_all) (.inl rfl) s.hlc.berth (boardingOpen := false) (by simp)
    exact hparked.congr (by simp)

theorem HaulLaws.decideLine (h : HaulLaws q s) (command argument : Byte) :
    HaulLaws q (decideLine command argument s).2 := by
  unfold Machine.decideLine
  split
  · exact h.openLine
  split
  · exact h.closeBoarding
  split
  · exact h.departLine _
  split
  · exact h.stopLine
  split
  · exact h.parkLine
  · exact h

/-! ### Expiries, the drive and the inputs (R49, R52, R59, R60, R89, R98) -/

theorem HaulLaws.armExpiry (h : HaulLaws q s) : HaulLaws q (armExpiry s) := by
  unfold Machine.armExpiry
  split
  · rename_i hst
    exact (h.returnToOrigin hst.1).raise _ _
  · exact h

theorem HaulLaws.driveLost (h : HaulLaws q s) : HaulLaws q (driveLost s) := by
  unfold Machine.driveLost
  split
  · exact h
  · exact h.demand _

theorem HaulLaws.withDrive (h : HaulLaws q s) (d : Drive) : HaulLaws q (s.withHlc { s.hlc with drive := d }) :=
  { h with }

theorem HaulLaws.takeDrive (h : HaulLaws q s) (p : List Byte) : HaulLaws q (takeDrive p s) := by
  simp only [Machine.takeDrive]
  split
  · exact h.withDrive _
  · exact (h.withDrive _).driveLost

theorem HaulLaws.driveExpiry (h : HaulLaws q s) : HaulLaws q (driveExpiry s) := by
  unfold Machine.driveExpiry
  split
  · exact (h.withDrive _).driveLost
  · exact h

/-- Supervision that is ACTIVE is supervision of a run. -/
theorem HaulLaws.supervisionExpiry (h : HaulLaws q s) : HaulLaws q (supervisionExpiry s) := by
  unfold Machine.supervisionExpiry
  split
  · split
    · rename_i hactive
      have hrun : s.hlc.state.atRest = false := by
        by_contra hrest
        obtain ⟨-, -, -, -, hidle⟩ := h.quiet (by simpa using hrest)
        simp [hidle] at hactive
      simp only [judgePeriod]
      split
      · exact h.withBrs hrun (by simp)
      split
      · exact h.withBrs hrun (by simp)
      · exact (h.withBrs hrun (by simp)).trip _
    · exact h
  · exact h

theorem HaulLaws.lossExpiry (h : HaulLaws q s) : HaulLaws q (lossExpiry s) := by
  unfold Machine.lossExpiry
  split
  · have hidle : HaulLaws q (s.withBrs { s.brs with lossTimer := none }) :=
      { h with quiet := fun hrest => by
                obtain ⟨htier, habove, hflag, -, hsup⟩ := h.quiet hrest
                exact ⟨htier, habove, hflag, rfl, hsup⟩ }
    exact hidle.trip _
  · exact h

theorem HaulLaws.setPin (h : HaulLaws q s) (p : Pin) (x : InputPin) : HaulLaws q (s.withBrs (s.brs.setPin p x)) := by
  cases p <;> exact { h with }

theorem HaulLaws.rawChange (h : HaulLaws q s) (p : Pin) (level : Level) : HaulLaws q (rawChange p level s) := by
  unfold Machine.rawChange
  split
  · exact h
  · exact h.setPin _ _

/-- A chain that opens sets ESTOP_LATCHED ahead of its trip (R60). -/
theorem HaulLaws.chainOpened (h : HaulLaws q s) : HaulLaws q (chainOpened s) := by
  simp only [Machine.chainOpened]
  exact HaulLaws.trip_of_estop (b := s.brs.estopLatched) (h.congr (by simp)) _

theorem HaulLaws.debounceExpiry (h : HaulLaws q s) (p : Pin) : HaulLaws q (debounceExpiry p s) := by
  simp only [Machine.debounceExpiry]
  split
  · split
    · exact (h.setPin _ _).chainOpened
    · exact h.setPin _ _
  · exact h

/-! ### The ring (R88) -/

theorem HaulLaws.withRif (h : HaulLaws q s) (r : Rif) : HaulLaws q (s.withRif r) := { h with }

theorem HaulLaws.startRun (h : HaulLaws q s) (hst : s.hlc.state = .armed) : HaulLaws q (startRun s) := by
  have hrun := h.onRun (x := { s.hlc with state := .running, berth := none, armTimer := none }) (.inl hst) (.inl rfl)
    rfl rfl rfl
  exact (hrun.envEvaluate.raise _ _).judgeLoss

theorem HaulLaws.sendForward (h : HaulLaws q s) (x : FifoEntry) : HaulLaws q (sendForward x s) := by
  unfold Machine.sendForward
  split
  case h_4 =>
    simp only [sendConsole]
    have hsent : ∀ f, HaulLaws q (countRing .rewritten (putOut f true s)) := fun f => h.congr (by simp)
    split
    · rename_i hst
      exact (hsent _).startRun (by simpa using hst.1)
    · exact hsent _
  all_goals exact h.congr (by simp)

theorem HaulLaws.boundary (h : HaulLaws q s) : HaulLaws q (boundary s) := by
  have hsent : HaulLaws q (s.withRif { s.rif with sending := none }) := h.withRif _
  simp only [Machine.boundary]
  generalize s.withRif { s.rif with sending := none } = u at hsent
  split
  · unfold arbitrateFault
    split
    · exact HaulLaws.sendForward (hsent.congr (by simp)) _
    · exact hsent.congr (by simp)
  · unfold arbitrate
    dsimp only
    split
    · exact hsent.congr (by simp)
    · split
      · exact hsent.congr (by simp)
      · simp only [sendOldest]
        exact HaulLaws.sendForward (hsent.congr (by simp)) _
    · split <;> exact hsent.congr (by simp)

/-! ### Every step -/

theorem HaulLaws.of_sameBlocks {t : State} (h : HaulLaws q s) (hu : SameBlocks s t) : HaulLaws q t :=
  h.congr (by simp [hu.dru, hu.brs, hu.hlc, hu.env, hu.mga])

theorem HaulLaws.placeReply (h : HaulLaws q s) (req : Frame) (kind : Byte) (payload : List Byte) :
    HaulLaws q (placeReply req kind payload s) :=
  h.withRif _

theorem HaulLaws.frameAct {t : State} (h : HaulLaws True s) (ht : FrameAct s t) : HaulLaws True t := by
  cases ht with
  | ring hu => exact h.of_sameBlocks hu
  | sample hu ch x health => exact (h.of_sameBlocks hu).takeSample ch x health
  | marker hu id car => exact (h.of_sameBlocks hu).takeMarker id car
  | drive hu p => exact (h.of_sameBlocks hu).takeDrive p
  | doorReport hu car left right => exact (h.of_sameBlocks hu).takeDoorReport car left right
  | lineCmd hu f => exact ((h.of_sameBlocks hu).decideLine _ _).placeReply _ _ _
  | doorReq hu f => exact ((h.of_sameBlocks hu).decideDoor _ _ _).placeReply _ _ _
  | request hu f => exact ((h.of_sameBlocks hu).decideRequest _ _).placeReply _ _ _

theorem HaulLaws.rowAct (h : HaulLaws True s) (c : Instr) : HaulLaws True (rowAct c s) := by
  unfold Machine.rowAct
  split
  · exact h.frameAct (frameAct_takeFrame _ s)
  · cases c with
    | rawLevelChange _ pin level => exact h.rawChange pin level
    | debounceExpiry _ pin => exact h.debounceExpiry pin
    | channelExpiry _ ch => exact h.channelExpiry ch
    | stillTimerExpiry _ => exact h.stillTimerExpiry
    | lossTimerExpiry _ => exact h.lossExpiry
    | supervisionPeriodExpiry _ => exact h.supervisionExpiry
    | armExpiry _ => exact h.armExpiry
    | driveExpiry _ => exact h.driveExpiry
    | doorStateLost _ car => exact h.freshnessExpiry car
    | releaseExpiry _ car side => exact h.releaseExpiry car side
    | closeExpiry _ car side => exact h.closeExpiry car side
    | outBoundary _ => exact h.boundary
    | frameForward _ rx => exact h.frameAct (frameAct_takeFrame rx s)
    | _ => exact h.congr (by simp [edgeAct])

end

/-- The release of reset latches a trip and enters TRIPPED (R64, R101). -/
theorem powerOn_haulLaws (oa ma : BitVec 6) (chain key : Level) (s : State) :
    HaulLaws True (powerOn oa ma chain key s) := by
  obtain ⟨henv, -, hhlc, hdru, -, hmga, hbrs⟩ := powerOn_blocks oa ma chain key s
  obtain ⟨htier, habove, hwarn, hsvc, hemg, hsup, hflag, htimer, -, -, -⟩ :=
    brsAtReset_frame (strapsBad oa ma) chain key
  obtain ⟨htrip, hhistory⟩ := brsAtReset_trip (strapsBad oa ma) chain key
  have hline : (powerOn oa ma chain key s).line = none := by simp [State.line, hmga, Mga.reset]
  constructor
  · constructor
    · constructor
      · simp [henv, Env.reset]
      · intro _
        simp [State.thresholdsFollow, hline, hbrs, hwarn, hsvc, hemg]
      · simp [hbrs, hhistory]
    · simp [hbrs, htrip, hhlc, Hlc.reset]
    · simp [hhlc, Hlc.reset]
    · simp [hhlc, Hlc.reset]
    · simp [hhlc, Hlc.reset]
    · simp [hhlc, Hlc.reset]
    · simp [Brs.Quiet, hbrs, htier, habove, hflag, htimer, hsup, Supervision.idle]
  · simp [hbrs, htrip]
  · simp [henv, hhlc, Env.reset, Hlc.reset, HaulState.atRest]
  · simp [henv, Env.reset]

/-- Settles O6: the laws are kept by every act; only between the copying of a LINE record and the recomputing of the
thresholds do these not follow, and that is at rest. -/
theorem everyStepKeepsTheHaulLaws : Obligations.EveryStepKeepsTheHaulLaws := by
  unfold Obligations.EveryStepKeepsTheHaulLaws
  intro s t h ht
  rw [haulSound_iff] at h ⊢
  refine step_keeps (P := HaulLaws True) powerOn_haulLaws (fun _ h => h.congr (by simp [holdInReset]))
    (fun _ _ h => { h with }) (fun elapsed c s h => ?_) h ht
  have hbegun : HaulLaws True (begin elapsed s) := { h with }
  exact (hbegun.rowAct c).settle

end Sys2Proof.Machine

end

/-! ## The integer root, the segment in use and the approach curve (R30–R32) -/

section

namespace Sys2Proof.Machine

/-! ### The integer root (R31) -/

/-- A root known to its bits from k up is completed to the exact one. -/
theorem isqrtFrom_exact {k r x : Nat} (hlow : r * r ≤ x) (hhigh : x < (r + 2 ^ k) * (r + 2 ^ k)) :
    isqrtFrom k r x * isqrtFrom k r x ≤ x ∧ x < (isqrtFrom k r x + 1) * (isqrtFrom k r x + 1) := by
  induction k generalizing r with
  | zero => exact ⟨hlow, hhigh⟩
  | succ k ih =>
    have hdouble : r + 2 ^ (k + 1) = r + 2 ^ k + 2 ^ k := by rw [Nat.pow_succ]; omega
    rw [hdouble] at hhigh
    unfold isqrtFrom
    split
    · exact ih (by assumption) hhigh
    · exact ih hlow (Nat.not_le.mp (by assumption))

theorem isqrt_eq_sqrt {x : Nat} (h : x < 2 ^ 64) : isqrt x = Nat.sqrt x :=
  Nat.eq_sqrt.mpr (isqrtFrom_exact (Nat.zero_le x) (by simpa using h))

/-! ### The segment in use (R30) -/

/-- The segment taken is one of the table; while the first one tried starts beyond the position it is that one, and
else it is the last one that does not. -/
theorem segmentFrom_last (pos : Int) (best : Segment) (rest : List Segment)
    (hrising : rising ((best :: rest).map (·.start))) :
    segmentFrom pos best rest ∈ best :: rest ∧ (pos < best.start → segmentFrom pos best rest = best) ∧
    (best.start ≤ pos → (segmentFrom pos best rest).start ≤ pos ∧
      ∀ z ∈ best :: rest, z.start ≤ pos → z.start ≤ (segmentFrom pos best rest).start) := by
  induction rest generalizing best with
  | nil => simp [segmentFrom]
  | cons x rest ih =>
    simp only [rising, List.map_cons, List.pairwise_cons] at hrising ih
    obtain ⟨hbest, hx, hrest⟩ := hrising
    have hfirst : best.start < x.start := hbest _ (by simp)
    unfold segmentFrom
    split
    · rename_i hreached
      obtain ⟨hmem, -, hlast⟩ := ih x ⟨hx, hrest⟩
      obtain ⟨hle, hmax⟩ := hlast hreached
      refine ⟨List.mem_cons_of_mem _ hmem, fun hbeyond => by omega, fun _ => ⟨hle, fun z hz hzpos => ?_⟩⟩
      obtain rfl | hz := List.mem_cons.mp hz
      · exact le_trans (le_of_lt hfirst) (hmax x (by simp) hreached)
      · exact hmax z hz hzpos
    · rename_i hbeyond
      obtain ⟨hmem, hbelow, hlast⟩ := ih best ⟨fun z hz => hbest z (by simp [hz]), hrest⟩
      refine ⟨?_, hbelow, fun hreached => ⟨(hlast hreached).1, fun z hz hzpos => ?_⟩⟩
      · obtain h | h := List.mem_cons.mp hmem
        · simp [h]
        · simp [h]
      · obtain rfl | hz := List.mem_cons.mp hz
        · exact (hlast hreached).2 _ (by simp) hzpos
        · obtain rfl | hz := List.mem_cons.mp hz
          · exact absurd hzpos hbeyond
          · exact (hlast hreached).2 z (by simp [hz]) hzpos

/-! ### The approach curve (R31, R32) -/

section

variable {l : Line} {k : Fin 4} {half : Nat} {d : Int}

/-- Before the stop the argument of the root lies within its range. -/
theorem curveArgument_lt (hd : d < 2 ^ 32) (ha : l.aRef[k] < 2 ^ 16) :
    2 * l.aRef[k] * (d.toNat - l.stopMargin) < 2 ^ 64 := by
  have hdist : d.toNat - l.stopMargin ≤ 2 ^ 32 := by omega
  have hprod := Nat.mul_le_mul (Nat.le_of_lt ha) hdist
  rw [Nat.mul_assoc]
  omega

theorem curveSpeed_before (h0 : 0 ≤ d) (hd : d < 2 ^ 32) (ha : l.aRef[k] < 2 ^ 16) : curveSpeed l k half d =
    max (Nat.sqrt (2 * l.aRef[k] * (d.toNat - l.stopMargin))) l.vLand := by
  rw [curveSpeed, if_pos h0, isqrt_eq_sqrt (curveArgument_lt hd ha)]

/-- Before the stop the curve speed does not fall as the distance grows. -/
theorem curveSpeed_mono (h0 : 0 ≤ d) (ha : l.aRef[k] < 2 ^ 16) {d' : Int} (hd : d ≤ d') (hd' : d' < 2 ^ 32) :
    curveSpeed l k half d ≤ curveSpeed l k half d' := by
  rw [curveSpeed_before h0 (by omega) ha, curveSpeed_before (by omega) hd' ha]
  have hdist : d.toNat - l.stopMargin ≤ d'.toNat - l.stopMargin := by omega
  exact max_le_max (Nat.sqrt_le_sqrt (Nat.mul_le_mul_left _ hdist)) le_rfl

theorem curveSpeed_past (h : d < 0) : curveSpeed l k half d = if -d ≤ half then l.vLand else 0 := by
  have hwindow : ((-d).toNat ≤ half) = (-d ≤ half) := by rw [eq_iff_iff]; omega
  rw [curveSpeed, if_neg (by omega)]
  simp only [hwindow]

end

/-- Settles O18: the root is `Nat.sqrt`, so the curve is bounded and grows as it does. -/
theorem rootSegmentAndCurveBoundTheApproach : Obligations.RootSegmentAndCurveBoundTheApproach := by
  unfold Obligations.RootSegmentAndCurveBoundTheApproach
  refine ⟨fun x h => ?root, fun x rest pos hrising => segmentFrom_last pos x rest hrising,
    fun l k half d => ⟨fun h0 hd ha => ?curve, fun hpast hin => ?window, fun hpast hout => ?beyond⟩⟩
  case root =>
    rw [isqrt_eq_sqrt h]
    exact ⟨Nat.sqrt_le x, Nat.lt_succ_sqrt x⟩
  case curve =>
    refine ⟨?_, ?_, ?_, fun d' hle hd' => curveSpeed_mono h0 ha hle hd'⟩
    · rw [curveSpeed_before h0 hd ha]
      exact le_max_right _ _
    · rw [curveSpeed_before h0 hd ha]
      refine Nat.sqrt_lt.mp (Nat.lt_succ_of_le (le_max_left _ _))
    · intro hland
      rw [curveSpeed_before h0 hd ha] at hland ⊢
      rw [max_eq_left (by omega)]
      exact Nat.sqrt_le _
  case window => rw [curveSpeed_past hpast, if_pos hin]
  case beyond => rw [curveSpeed_past hpast, if_neg (by omega)]

end Sys2Proof.Machine

end

/-! ## The envelope by mode, load and position status (R27–R30, R33–R35, R37, R43) -/

section

namespace Sys2Proof.Machine

/-! ### Thresholds handed on (R27, R43) -/

/-- An evaluation that changes the envelope puts its thresholds in force. -/
theorem evaluateIn_thresholdsFollow_of_ne {mode : EnvMode} {s : State} (h : (evaluateIn mode s).env ≠ s.env) :
    (evaluateIn mode s).thresholdsFollow := by
  have hother : mode ≠ s.env.mode ∨ s.eIn mode ≠ s.env.e := by
    by_contra hsame
    obtain ⟨hmode, he⟩ := not_or.mp hsame
    refine h ?_
    rw [evaluateIn_env, not_not.mp he, not_not.mp hmode]
  have heval : evaluateIn mode s = handOn mode (s.eIn mode) s := rfl
  rw [heval, handOn_of_other hother]
  exact recomputeThresholds_follow _

theorem thresholdsFollow_of_line {s : State} {l : Line} (h : s.thresholdsFollow) (hl : s.line = some l) :
    s.brs.tWarn = s.env.e + s.env.e * l.pw / 1000 + l.cw ∧ s.brs.tSvc = s.env.e + s.env.e * l.ps / 1000 + l.cs ∧
    s.brs.tEmg = if s.env.mode = .frozen then l.vTripAbs
      else min (s.env.e + s.env.e * l.pe / 1000 + l.ce) l.vTripAbs := by
  simp only [State.thresholdsFollow, hl] at h
  exact h

theorem envEvaluate_env (s : State) :
    (envEvaluate s).env = { s.env with mode := s.settledMode, e := s.eIn s.settledMode } :=
  evaluateIn_env _ _

theorem settledMode_of_run {s : State} (h : s.hlc.state.atRest = false) : s.settledMode = s.env.mode := by
  simp [State.settledMode, h]

theorem HaulState.atRest_of_run {st : HaulState} (h : st = .armed ∨ st = .running ∨ st = .serviceStop) :
    st.atRest = false := by
  obtain rfl | rfl | rfl := h <;> rfl

/-! ### E by mode (R30, R33, R34) -/

section

variable {s : State} {l : Line}

theorem param_of_line (hl : s.line = some l) (f : Line → Nat) : s.param f 0 = f l := by
  simp [State.param, hl]

theorem eIn_creep (hl : s.line = some l) : s.eIn .creep = min l.vCreep l.vLineMax := by
  rw [← param_of_line hl (·.vCreep), ← param_of_line hl (·.vLineMax)]
  rfl

theorem Segment.ceiling_eq (y : Segment) (dir : Direction) : y.ceiling dir = if dir = .down then y.down else y.up := by
  cases dir <;> rfl

theorem rawDistance_eq (dir : Direction) (target pos : Int) :
    rawDistance dir target pos = if dir = .down then pos - target else target - pos := by
  cases dir <;> rfl

/-- E in NORMAL: the lowest of the step ceiling, the curve speed and v_line_max. -/
theorem eIn_normal {x : Segment} {rest : List Segment} {i : Nat} {st : Stop} {dir : Direction} {k : Fin 4}
    (hl : s.line = some l) (hp : s.mga.active.profile = some (x :: rest)) (ht : s.env.target = some i)
    (hst : s.stops[i]? = some st) (hdir : s.env.dir = dir) (hk : s.env.loadClass = k) :
    s.eIn .normal =
      min (min ((if dir = .down then (segmentFrom s.moe.last.posA x rest).down
          else (segmentFrom s.moe.last.posA x rest).up) * l.pct[k] / 100)
        (curveSpeed l k st.half (if dir = .down then s.moe.last.posA - st.pos else st.pos - s.moe.last.posA)))
        l.vLineMax := by
  have hstep : s.stepCeiling = (segmentFrom s.moe.last.posA x rest).ceiling dir * l.pct[k] / 100 := by
    simp only [State.stepCeiling, hp, hl, hdir, hk]
  have hcurve : s.curve = curveSpeed l k st.half (rawDistance dir st.pos s.moe.last.posA) := by
    simp only [State.curve, ht, Option.bind_some, hst, hl, hdir, hk]
  have heval : s.eIn .normal = min (min s.stepCeiling s.curve) (s.param (·.vLineMax) 0) := rfl
  rw [heval, hstep, hcurve, param_of_line hl, Segment.ceiling_eq, rawDistance_eq]

/-! ### A SUSPECT update in NORMAL (R35) -/

theorem envUpdate_of_suspect (hmode : s.env.mode = .normal) (hstatus : s.moe.last.status = .suspect) :
    envUpdate s = demand .positionSuspect (evaluateIn .frozen s) := by
  simp [envUpdate, State.freezes, hmode, hstatus]

theorem demand_of_armed (h : s.hlc.state = .armed) (cause : StopCause) :
    demand cause s = raiseStop cause .returned (returnToOrigin s) := by
  simp only [demand, h]

theorem demand_of_running (h : s.hlc.state = .running) (cause : StopCause) :
    demand cause s = raiseStop cause .entered (enterServiceStop cause s) := by
  simp only [demand, h]

/-- A demand met in SERVICE_STOP is counted, and touches the envelope no more than a rest does. -/
theorem demand_of_serviceStop (h : s.hlc.state = .serviceStop) (cause : StopCause) :
    (demand cause s).hlc = { s.hlc with further := min (s.hlc.further + 1) 255 } ∧
    (demand cause s).env = s.env := by
  simp only [demand, h]
  split <;> simp

theorem enterServiceStop_hlc (cause : StopCause) (s : State) : (enterServiceStop cause s).hlc =
    { s.hlc with state := .serviceStop, stopCause := some cause, further := 0 } := by
  simp [enterServiceStop]

/-- FROZEN outlasts the entry to SERVICE_STOP. -/
theorem enterServiceStop_env_of_frozen (hmode : s.env.mode = .frozen) (cause : StopCause) :
    (enterServiceStop cause s).env = s.env := by
  have hsettled : (s.withHlc { s.hlc with state := .serviceStop, stopCause := some cause, further := 0 }).settledMode
      = .frozen := hmode
  have heval : (enterServiceStop cause s).env = { s.env with mode := .frozen } := by
    simp only [enterServiceStop, superviseStop_frame, placeForce_frame, envEvaluate_env, hsettled]
    rfl
  rw [heval, ← hmode]

theorem enterServiceStop_thresholdsFollow (h : s.thresholdsFollow) (cause : StopCause) :
    (enterServiceStop cause s).thresholdsFollow := by
  have heval : (envEvaluate (s.withHlc { s.hlc with
      state := .serviceStop, stopCause := some cause, further := 0 })).thresholdsFollow := by
    refine handOn_thresholdsFollow ?_ _ _
    exact h
  exact thresholdsFollow_congr heval (by simp [enterServiceStop, State.line])
    (by simp [enterServiceStop, superviseStop]) (by simp [enterServiceStop])

theorem returnToOrigin_of_origin {o : Origin} (h : s.hlc.origin = some o) :
    (returnToOrigin s).hlc.state = o.toState ∧ (returnToOrigin s).env = { s.env with mode := .off, e := 0 } := by
  have hrest : o.toState.atRest = true := by cases o <;> rfl
  simp [returnToOrigin, h, enterRest_env hrest]

/-- A RUNNING haul is frozen and stopped. -/
theorem envUpdate_of_suspect_running (hl : s.line = some l) (hmode : s.env.mode = .normal)
    (hstatus : s.moe.last.status = .suspect) (hst : s.hlc.state = .running) :
    let t := envUpdate s
    t.env = { s.env with mode := .frozen } ∧ t.brs.tEmg = l.vTripAbs ∧
    t.brs.tWarn = s.env.e + s.env.e * l.pw / 1000 + l.cw ∧ t.brs.tSvc = s.env.e + s.env.e * l.ps / 1000 + l.cs ∧
    t.hlc = { s.hlc with state := .serviceStop, stopCause := some .positionSuspect, further := 0 } := by
  obtain ⟨u, hu⟩ : ∃ u, u = evaluateIn .frozen s := ⟨_, rfl⟩
  have hu_env : u.env = { s.env with mode := .frozen } := by simp [hu]
  have hu_hlc : u.hlc = s.hlc := by simp [hu]
  have hu_line : u.line = some l := by simpa [hu, State.line] using hl
  have hne : (evaluateIn .frozen s).env ≠ s.env := fun he => by
    have hfrozen := congrArg Env.mode he
    simp [hmode] at hfrozen
  have hfollow : u.thresholdsFollow := by rw [hu]; exact evaluateIn_thresholdsFollow_of_ne hne
  have ht : envUpdate s = raiseStop .positionSuspect .entered (enterServiceStop .positionSuspect u) := by
    rw [envUpdate_of_suspect hmode hstatus, ← hu, demand_of_running (by rw [hu_hlc, hst])]
  have hstopped := enterServiceStop_env_of_frozen (s := u) (by rw [hu_env]) .positionSuspect
  obtain ⟨hwarn, hsvc, hemg⟩ := thresholdsFollow_of_line
    (enterServiceStop_thresholdsFollow hfollow .positionSuspect) (l := l) (by simpa [State.line] using hu_line)
  simp only [hstopped, hu_env, if_true] at hwarn hsvc hemg
  simp [ht, hstopped, hu_env, hwarn, hsvc, hemg, enterServiceStop_hlc, hu_hlc]

/-! ### The entry to ARMED (R28, R37) -/

theorem outOfBalance_of_line (hl : s.line = some l) (dir : Direction) : s.outOfBalance dir =
    (if dir = .down then s.adu.aboardA + s.adu.unticketedA - (s.adu.aboardB + s.adu.unticketedB)
      else s.adu.aboardB + s.adu.unticketedB - (s.adu.aboardA + s.adu.unticketedA)) * l.mPass := by
  rw [State.outOfBalance, param_of_line hl]
  cases dir <;> rfl

/-- The grades of a load between ascending thresholds. -/
theorem loadClassOf_iff (h12 : l.th1 < l.th2) (h23 : l.th2 < l.th3) (o : Nat) :
    (loadClassOf l o = 0 ↔ o ≤ l.th1) ∧ (loadClassOf l o = 1 ↔ l.th1 < o ∧ o ≤ l.th2) ∧
    (loadClassOf l o = 2 ↔ l.th2 < o ∧ o ≤ l.th3) ∧ (loadClassOf l o = 3 ↔ l.th3 < o) := by
  unfold loadClassOf
  split
  · refine ⟨?_, ?_, ?_, ?_⟩ <;> simp <;> omega
  split
  · refine ⟨?_, ?_, ?_, ?_⟩ <;> simp <;> omega
  split
  · refine ⟨?_, ?_, ?_, ?_⟩ <;> simp <;> omega
  · refine ⟨?_, ?_, ?_, ?_⟩ <;> simp <;> omega

theorem loadClass_of_line (hl : s.line = some l) (dir : Direction) :
    s.loadClass dir = loadClassOf l (s.outOfBalance dir) := by
  simp [State.loadClass, hl]

/-- The envelope record that an arming leaves. -/
theorem envArm_env (s : State) :
    (envArm s).env.mode = s.moe.last.status.armMode ∧
    (envArm s).env.e = (s.withEnv s.armedEnv).eIn s.moe.last.status.armMode ∧
    (envArm s).env.loadClass = s.loadClass s.hlc.dir ∧ (envArm s).env.load = s.outOfBalance s.hlc.dir ∧
    (envArm s).env.target = s.hlc.target ∧ (envArm s).env.dir = s.hlc.dir := by
  rw [envArm_eq, evaluateIn_env]
  exact ⟨rfl, rfl, rfl, rfl, rfl, rfl⟩

theorem PositionStatus.armMode_eq (x : PositionStatus) :
    x.armMode = if x = .referenced ∨ x = .corrected then .normal else .creep := by
  cases x <;> rfl

end

/-- Settles O19: every evaluation is `handOn`, at rest of OFF and 0, on a run of the mode in force and the E it
computes; a freeze and an arming are evaluations in a new mode. -/
theorem envelopeFollowsTheModeAndTheLoad : Obligations.EnvelopeFollowsTheModeAndTheLoad := by
  unfold Obligations.EnvelopeFollowsTheModeAndTheLoad
  refine ⟨⟨fun s => ⟨fun hrest => ?rest, fun hoff hrun => ?off, fun l hl hne => ?thresholds⟩,
    fun s l x rest i st hl hp ht hst hrun => ?run⟩,
    fun s l hl hmode hstatus => ⟨fun hst => ?running, fun hst o ho => ?armed, fun hst => ?stopped⟩,
    fun s l hl h12 h23 => ?arm⟩
  case rest =>
    exact envEvaluate_env_of_rest ((HaulState.atRest_iff _).mpr hrest)
  case off =>
    have hrun' : s.hlc.state.atRest = false := by
      simpa using fun h => hrun ((HaulState.atRest_iff _).mp h)
    rw [envEvaluate_env, settledMode_of_run hrun', hoff, eIn_off, ← hoff]
  case thresholds =>
    exact thresholdsFollow_of_line (evaluateIn_thresholdsFollow_of_ne hne) (by simpa [State.line] using hl)
  case run =>
    rw [envEvaluate_env, settledMode_of_run (HaulState.atRest_of_run hrun)]
    refine ⟨rfl, fun hmode => ?_, fun hmode => ?_, fun hmode => ?_⟩
    · rw [hmode, eIn_frozen]
    · simp only [hmode, eIn_creep hl]
    · simp only [hmode, eIn_normal hl hp ht hst rfl rfl]
  case running =>
    obtain ⟨henv, hemg, hwarn, hsvc, hhlc⟩ := envUpdate_of_suspect_running hl hmode hstatus hst
    have hadu : (envUpdate s).adu = s.adu := by
      rw [envUpdate_of_suspect hmode hstatus, demand_of_running (by simpa using hst)]
      simp
    exact ⟨henv, hemg, hwarn, hsvc, hhlc, by simp, by simp, hadu, by simp⟩
  case armed =>
    rw [envUpdate_of_suspect hmode hstatus, demand_of_armed (by simpa using hst)]
    obtain ⟨hstate, henv⟩ := returnToOrigin_of_origin (s := evaluateIn .frozen s) (by simpa using ho)
    simp [hstate, henv]
  case stopped =>
    rw [envUpdate_of_suspect hmode hstatus]
    obtain ⟨hhlc, henv⟩ := demand_of_serviceStop (s := evaluateIn .frozen s) (by simpa using hst) .positionSuspect
    simp [hhlc, henv]
  case arm =>
    have hload := outOfBalance_of_line hl s.hlc.dir
    obtain ⟨h0, h1, h2, h3⟩ := loadClassOf_iff h12 h23 (s.outOfBalance s.hlc.dir)
    obtain ⟨hmode, he, hclass, hloaded, htarget, hdir⟩ := envArm_env s
    rw [← loadClass_of_line hl, ← hclass] at h0 h1 h2 h3
    simp only [← hload]
    refine ⟨hloaded, htarget, hdir, h0, h1, h2, h3, ?_, fun hcreep => ?_, fun x rest i st hp ht hst hnormal => ?_,
      by simp⟩
    · rw [hmode, PositionStatus.armMode_eq]
    · rw [he, ← hmode, hcreep, eIn_creep (s := s.withEnv s.armedEnv) hl]
    · rw [he, ← hmode, hnormal]
      simp only [hclass]
      exact eIn_normal (s := s.withEnv s.armedEnv) hl hp ht hst rfl rfl

end Sys2Proof.Machine

end

/-! ## Trips: the first cause and the further ones (R55–R57, R72, R73, R97) -/

section

namespace Sys2Proof.Machine

/-! ### The forced set-point and the selection of reports (R47, R190) -/

theorem placeKind_force (k : Fin 28) (s : State) : (placeKind k s).rif.force = s.rif.force := by
  unfold placeKind
  split <;> simp [placeReport]

theorem selectUpTo_force (n : Nat) (s : State) : (selectUpTo n s).rif.force = s.rif.force := by
  induction n generalizing s with
  | zero => rfl
  | succ n ih =>
    unfold selectUpTo
    split
    · cases s.nextKind with
      | some k => exact (ih _).trans (placeKind_force k s)
      | none => rfl
    · rfl

@[simp] theorem raise_force (k : EventKind) (detail : BitVec 32) (s : State) :
    (raise k detail s).rif.force = s.rif.force := by
  rw [raise_eq]
  split
  · rw [selectReports]
    split
    · rfl
    · exact selectUpTo_force _ _
  · rfl

theorem placeForce_force (s : State) : (placeForce s).rif.force = some (s.forcedZero s.rif.txSeq) := by
  simp only [placeForce, State.withRif_rif]
  split <;> rfl

theorem forcedZero_congr {s t : State} (hmga : t.mga = s.mga) (hoa : t.oa = s.oa) (seq : Byte) :
    t.forcedZero seq = s.forcedZero seq := by
  simp only [State.forcedZero, State.addressOf, State.oaByte, hmga, hoa]

/-! ### A SERVICE stage that brakes (R72, R73) -/

section

variable {s : State} {cause : TripCause}

theorem testOnTrip_of_no_braking (h : s.test.svc.status ≠ .braking) : testOnTrip cause s = s :=
  if_neg h

theorem testOnTrip_of_ineffective (h : s.test.svc.status = .braking) :
    testOnTrip .sbIneffective s = s.withTest { s.test with failureMark := true } := by
  rw [testOnTrip, if_pos h, if_pos rfl]

theorem testOnTrip_of_marked (h : s.test.svc.status = .braking) (hcause : cause ≠ .sbIneffective)
    (hmark : s.test.failureMark = true) : testOnTrip cause s = s := by
  rw [testOnTrip, if_pos h, if_neg hcause, if_pos hmark]

theorem testOnTrip_of_aborted (h : s.test.svc.status = .braking) (hcause : cause ≠ .sbIneffective)
    (hmark : s.test.failureMark = false) : testOnTrip cause s = abortService s := by
  rw [testOnTrip, if_pos h, if_neg hcause, if_neg (by simp [hmark])]

/-- The end of a stage raises no TRIP and places no set-point. -/
theorem testOnTrip_sends (cause : TripCause) (s : State) :
    (testOnTrip cause s).rpu.slots[EventKind.trip.code].count = s.rpu.slots[EventKind.trip.code].count ∧
    (testOnTrip cause s).rif.force = s.rif.force := by
  unfold testOnTrip
  split
  · split
    · exact ⟨rfl, rfl⟩
    split
    · exact ⟨rfl, rfl⟩
    · simp only [abortService, raise_count, raise_force]
      exact ⟨rfl, rfl⟩
  · exact ⟨rfl, rfl⟩

/-- A trip with the four outcomes for a SERVICE stage, from the state u in which the cause has been taken. -/
theorem trip_outcomes {u : State} (htrip : trip cause s = testOnTrip cause u) (hu : u.test = s.test) :
    (s.test.svc.status ≠ .braking → trip cause s = u) ∧
    (s.test.svc.status = .braking → cause = .sbIneffective →
      trip cause s = { u with test := { s.test with failureMark := true } }) ∧
    (s.test.svc.status = .braking → cause ≠ .sbIneffective → s.test.failureMark = true → trip cause s = u) ∧
    (s.test.svc.status = .braking → cause ≠ .sbIneffective → s.test.failureMark = false →
      trip cause s = raise .brakeTestResult ((1 : Byte) ++ (3 : Byte) ++ (0 : BitVec 16)) { u with test :=
        { s.test with state := .idle, abortPending := false,
                      svc := ⟨.aborted, s.test.svc.trigger, 0, 0, 0, 0, 0⟩ } }) := by
  rw [htrip, ← hu]
  refine ⟨testOnTrip_of_no_braking, fun h hc => ?_, testOnTrip_of_marked, fun h hc hmark => ?_⟩
  · subst hc
    exact testOnTrip_of_ineffective h
  · have htest : ({ u.test with state := .idle, abortPending := false, failureMark := false,
                                svc := u.test.svc.withoutResult .aborted } : BrakeTest) =
        { u.test with state := .idle, abortPending := false,
                      svc := ⟨.aborted, u.test.svc.trigger, 0, 0, 0, 0, 0⟩ } := by
      simp [hmark, Stage.withoutResult]
    rw [testOnTrip_of_aborted h hc hmark, abortService, htest]
    rfl

/-! ### The two ways of taking a cause (R55, R56) -/

theorem trip_of_free (h : s.brs.trip.latched = false) : trip cause s = testOnTrip cause (latchTrip cause s) := by
  rw [trip, if_neg (by simp [h])]

theorem trip_of_latched (h : s.brs.trip.latched = true) : trip cause s = testOnTrip cause (addTrip cause s) := by
  rw [trip, if_pos h]

/-- A further cause is all there is to it where no SERVICE stage brakes that the cause could still decide (R73). -/
theorem trip_of_settled (hlatched : s.brs.trip.latched = true)
    (h : s.test.svc.status ≠ .braking ∨ s.test.failureMark = true) : trip cause s = addTrip cause s := by
  obtain ⟨hidle, hineffective, hmarked, -⟩ := trip_outcomes (trip_of_latched (cause := cause) hlatched) (by simp)
  by_cases hbraking : s.test.svc.status = .braking
  · have hmark : s.test.failureMark = true := h.resolve_left (not_not.mpr hbraking)
    by_cases hcause : cause = .sbIneffective
    · have hkept : (addTrip cause s).test = s.test := by simp
      have hsame : ({ s.test with failureMark := true } : BrakeTest) = (addTrip cause s).test := by
        rw [← hmark, hkept]
      rw [hineffective hbraking hcause, hsame]
    · exact hmarked hbraking hcause hmark
  · exact hidle hbraking

theorem onNewest_concat (f : TripEntry → TripEntry) (older : List TripEntry) (newest : TripEntry) :
    onNewest f (older ++ [newest]) = older ++ [f newest] := by
  induction older with
  | nil => rfl
  | cons e rest ih =>
    rw [List.cons_append, onNewest, ih, List.cons_append]
    simp

/-- The Brake Supervisor after a further cause. -/
theorem addCause_of_history {b : Brs} {older : List TripEntry} {newest : TripEntry}
    (h : b.history = older ++ [newest]) (cause : TripCause) : b.addCause cause = { b with
      trip := { b.trip with causes := b.trip.causes ||| cause.bit }
      history := older ++ [{ newest with causes := b.trip.causes ||| cause.bit }] } := by
  simp only [Brs.addCause, h, onNewest_concat]

/-- What a latched trip sends: TRIP is counted, and the forced zero set-point waits (R47, R55). -/
theorem latchTrip_sends (cause : TripCause) (s : State) :
    (latchTrip cause s).rpu.slots[EventKind.trip.code].count = satAdd s.rpu.slots[EventKind.trip.code].count 1 ∧
    ∃ seq, (latchTrip cause s).rif.force = some (s.forcedZero seq) := by
  constructor
  · simp only [latchTrip, enterTripped_frame, raiseTrip, raise_count, if_true]
    rfl
  · simp only [latchTrip, enterTripped, placeForce_force]
    exact ⟨_, congrArg some (forcedZero_congr (by simp) (by simp) _)⟩

/-- The Brake Supervisor as a latched trip leaves it (R45, R50, R51, R55, R57). -/
theorem latchTrip_brs (cause : TripCause) (s : State) :
    (latchTrip cause s).brs.history = appendHistory s.brs.history
      ⟨some cause, cause.bit, s.moe.last.posA, s.moe.last.signed, s.clock, false⟩ ∧
    (latchTrip cause s).brs.tier = .normal ∧ (latchTrip cause s).brs.aboveService = false ∧
    (latchTrip cause s).brs.sup.active = false ∧ (latchTrip cause s).brs.sup.expiry = none ∧
    (latchTrip cause s).brs.lossFlag = false ∧ (latchTrip cause s).brs.lossTimer = none ∧
    (latchTrip cause s).brs.estopLatched = s.brs.estopLatched ∧ (latchTrip cause s).brs.chain = s.brs.chain ∧
    (latchTrip cause s).brs.key = s.brs.key := by
  simp [latchTrip, enterTripped, raiseTrip]

/-- A further cause counts a TRIP and leaves the classes that send as they are (R56). -/
theorem addTrip_sends (cause : TripCause) (s : State) :
    (addTrip cause s).rpu.slots[EventKind.trip.code].count = satAdd s.rpu.slots[EventKind.trip.code].count 1 ∧
    (addTrip cause s).rif.force = s.rif.force ∧ (addTrip cause s).rif.fifo = s.rif.fifo ∧
    (addTrip cause s).rif.reply = s.rif.reply := by
  simp only [addTrip, raiseTrip, raise_count, if_true]
  simp

end

/-- Settles O23: a trip is `latchTrip` or `addTrip`, then the outcome for a SERVICE stage that brakes. -/
theorem causesLatchOrJoinTheTrip : Obligations.CausesLatchOrJoinTheTrip := by
  unfold Obligations.CausesLatchOrJoinTheTrip
  refine ⟨fun cause s hfree => ?latches, fun cause s older newest hlatched htest hhistory => ?joins,
    fun cause s => ⟨fun hfree => ?latched, fun hlatched older newest hhistory => ?joined⟩⟩
  case latches =>
    obtain ⟨hhistory, htier, habove, hsup, hexpiry, hflag, htimer, hestop, hchain, hkey⟩ := latchTrip_brs cause s
    obtain ⟨hcount, seq, hforce⟩ := latchTrip_sends cause s
    obtain ⟨hcount', hforce'⟩ := testOnTrip_sends cause (latchTrip cause s)
    have htrip := trip_of_free (cause := cause) hfree
    obtain ⟨hidle, hineffective, -, haborted⟩ := trip_outcomes htrip (by simp)
    have hbrs : (trip cause s).brs = (latchTrip cause s).brs := by rw [htrip]; simp
    have hhlc : (trip cause s).hlc =
        { s.hlc with state := .tripped, berth := none, boardingOpen := false, armTimer := none } := by
      rw [htrip]; simp [latchTrip_hlc]
    have henv : (trip cause s).env = { s.env with mode := .off, e := 0 } := by rw [htrip]; simp [latchTrip_env]
    have hadu : (trip cause s).adu = s.adu := by rw [htrip]; simp [latchTrip_adu]
    simp only [hbrs]
    refine ⟨latchTrip_trip, hhistory, ?_, hhlc, henv, htier, habove, hsup, hexpiry, hflag, htimer, ⟨seq, ?_⟩,
      fun h => ?_, fun h hc => ?_, fun h hc hmark => ?_, hestop, hchain, hkey, by simp, by simp, hadu, by simp,
      by simp [State.ebHold, hhlc]⟩
    · rw [htrip, hcount', hcount]
    · rw [htrip, hforce', hforce]
    · rw [hidle h]; simp
    · rw [hineffective h hc]
    · rw [haborted h hc hmark]; simp
  case joins =>
    obtain ⟨hcount, hforce, hfifo, hreply⟩ := addTrip_sends cause s
    have hbrs : (addTrip cause s).brs = s.brs.addCause cause := by simp [addTrip]
    rw [trip_of_settled hlatched htest]
    exact ⟨hbrs.trans (addCause_of_history hhistory cause), hcount, by simp, by simp, by simp, by simp, by simp,
      by simp, by simp, hforce, hfifo, hreply⟩
  case latched => exact trip_outcomes (trip_of_free hfree) (by simp)
  case joined =>
    have hadd : addTrip cause s = raiseTrip cause 0 (s.withBrs { s.brs with
        trip := { s.brs.trip with causes := s.brs.trip.causes ||| cause.bit }
        history := older ++ [{ newest with causes := s.brs.trip.causes ||| cause.bit }] }) := by
      rw [addTrip, addCause_of_history hhistory]
    exact trip_outcomes ((trip_of_latched hlatched).trans (congrArg _ hadd)) (by simp)

end Sys2Proof.Machine

end

/-! ## DEPART (R27, R28, R37, R43, R81, R86, R87) -/

section

namespace Sys2Proof.Machine

/-! ### Line commands of the console (R83, R164) -/

section

variable {s : State} {c : Instr} {arr : Arrival} {command argument tag : Byte}

/-- A state with the reply to a line command placed last in REPLY. -/
def State.lineReplied (t s : State) (arr : Arrival) (tag command result : Byte) : State :=
  t.withRif { t.rif with reply := t.rif.reply ++ [lineReply s arr tag 0x50 command result] }

/-- A line command that is taken is decided and answered. -/
theorem rowAct_of_console (hc : rowFrame c = some (arr, 0x50, [command, argument, tag]))
    (h : ConsoleArrives s arr 0x50 [command, argument, tag]) :
    rowAct c (begin arr.elapsed s) = (decideLine command argument (s.asked arr)).2.lineReplied s arr tag command
      (decideLine command argument (s.asked arr)).1.code := by
  have hdst : arr.dst = s.oaByte := h.toPart
  have htaken : dealKind (frameOf arr 0x50 [command, argument, tag]) (begin arr.elapsed s) =
      takeLineCmd (frameOf arr 0x50 [command, argument, tag]) (s.asked arr) := by
    simp [frameOf, dealKind, dealLineCmd, dealRequest, hdst, h.console, takeIfRoom, h.replyRoom, State.asked]
  rw [rowAct_of_arrives hc h.toArrives h.fromOther, htaken]
  have hoa : (decideLine command argument (s.asked arr)).2.oaByte = s.oaByte := by
    simp [State.oaByte, State.asked]
  simp only [takeLineCmd, placeReply, State.lineReplied, lineReply, ← hoa]
  rfl

/-- A line command that is refused is answered, and nothing else. -/
theorem exec_of_refused_line (he : rowElapsed c = some arr.elapsed)
    (hc : rowFrame c = some (arr, 0x50, [command, argument, tag]))
    (h : ConsoleArrives s arr 0x50 [command, argument, tag]) {r : LineResult}
    (hd : decideLine command argument (s.asked arr) = (r, s.asked arr)) :
    exec c s = .next { begin arr.elapsed s with
      rif := s.answered (lineReply s arr tag 0x50 command r.code) } := by
  rw [exec_of_running he h.running, rowAct_of_console hc h, hd]
  exact congrArg _ (settle_of_same rfl)

end

/-- A step that does not end in PARKED or TRIPPED takes no pending activation. -/
theorem settle_of_run {before after : State} (h : after.hlc.state.atRest = false) : settle before after = after := by
  refine if_neg fun hrest => ?_
  obtain h' | h' := hrest.2 <;> simp [h', HaulState.atRest] at h

/-! ### The checks (R86) -/

section

variable {s : State}

theorem carSecure_iff (car : Car) : s.carSecure car = true ↔
    running (s.dru.reports car).expiry s.clock = true ∧
      ∃ r, (s.dru.reports car).report = some r ∧ r.left.secure = true ∧ r.right.secure = true := by
  unfold State.carSecure
  cases (s.dru.reports car).report <;> simp

/-- Every record is LOCKED, and each car's report is fresh and shows both sides closed and locked. -/
def State.Secure (s : State) : Prop :=
  (∀ car side, (s.dru.door car side).state = .locked) ∧
    ∀ car, running (s.dru.reports car).expiry s.clock = true ∧
      ∃ r, (s.dru.reports car).report = some r ∧ r.left.secure = true ∧ r.right.secure = true

theorem secure_iff :
    (s.dru.allLocked && s.carSecure .a && s.carSecure .b) = true ↔ s.Secure := by
  simp only [Bool.and_eq_true, Dru.allLocked_iff, carSecure_iff, State.Secure, and_assoc, and_congr_right_iff]
  refine fun _ => ⟨fun h => ?_, fun h => ⟨(h .a).1, (h .a).2, (h .b).1, (h .b).2⟩⟩
  obtain ⟨ha, ha', hb, hb'⟩ := h
  rintro (_ | _)
  · exact ⟨ha, ha'⟩
  · exact ⟨hb, hb'⟩

/-- The drive record is fresh and ready. -/
def State.Ready (s : State) : Prop := running s.hlc.drive.expiry s.clock = true ∧ s.hlc.drive.ready = 1

theorem driveReady_iff : s.driveReady = true ↔ s.Ready := by
  simp [State.driveReady, State.Ready]

/-- The position is the target already. -/
def State.Same (s : State) (target : Nat) (st : Stop) : Prop :=
  s.hlc.berth = some target ∨ (s.moe.last.posA - st.pos).natAbs ≤ st.half

variable {target : Nat} {st : Stop}

theorem departResult_of_same (h : s.Same target st) : s.departResult target st = .sameStop := by
  have hcond : s.hlc.berth = some target ∨ st.contains s.moe.last.posA = true := by
    simpa [State.Same, Stop.contains] using h
  rw [State.departResult, if_pos hcond]

/-- The checks after the first. -/
theorem departResult_of_other (h : ¬ s.Same target st) : s.departResult target st =
    if s.hlc.boardingOpen then .boardingOpen else if !s.adu.grants.isEmpty then .pendingGrants
    else if !(s.dru.allLocked && s.carSecure .a && s.carSecure .b) then .doors
    else if !s.driveReady then .drive else .accepted := by
  have hcond : ¬ (s.hlc.berth = some target ∨ st.contains s.moe.last.posA = true) := by
    simpa [State.Same, Stop.contains] using h
  rw [State.departResult, if_neg hcond]

theorem departLine_of_moving (h : ¬ (s.hlc.state = .boarding ∨ s.hlc.state = .parked)) :
    departLine target s = (.state, s) :=
  if_pos h

theorem departLine_of_no_stop (h : s.hlc.state = .boarding ∨ s.hlc.state = .parked)
    (hst : s.stops[target]? = none) : departLine target s = (.badTarget, s) := by
  rw [departLine, if_neg (not_not.mpr h), hst]

theorem departLine_of_refused (h : s.hlc.state = .boarding ∨ s.hlc.state = .parked)
    (hst : s.stops[target]? = some st) {r : LineResult} (hr : s.departResult target st = r) (hne : r ≠ .accepted) :
    departLine target s = (r, s) := by
  rw [departLine, if_neg (not_not.mpr h), hst]
  simp only [hr]

theorem departLine_of_accepted (h : s.hlc.state = .boarding ∨ s.hlc.state = .parked)
    (hst : s.stops[target]? = some st) (hr : s.departResult target st = .accepted) :
    departLine target s = (.accepted, enterArmed target (directionTo st s.moe.last.posA) s) := by
  rw [departLine, if_neg (not_not.mpr h), hst]
  simp only [hr]

end

/-! ### The entry to ARMED (R28, R37, R43, R87) -/

section

variable {s : State} {l : Line}

/-- An arming reads nothing of the ring. -/
theorem envArm_withRif (s : State) (r : Rif) : (envArm s).withRif r = envArm (s.withRif r) := by
  rw [envArm_eq, envArm_eq]
  exact apply_ite (fun t : State => t.withRif r) _ _ _

theorem envArm_lineReplied (u s : State) (arr : Arrival) (tag command result : Byte) :
    (envArm u).lineReplied s arr tag command result = envArm (u.lineReplied s arr tag command result) := by
  have hrif : (envArm u).rif = u.rif := by simp
  rw [State.lineReplied, envArm_withRif, hrif]
  rfl

theorem envArm_brs_kept (s : State) : (envArm s).brs.trip = s.brs.trip ∧ (envArm s).brs.tier = s.brs.tier ∧
    (envArm s).brs.sup = s.brs.sup := by
  simp [envArm_eq]

/-- An arming that changes the mode or E puts the thresholds of NORMAL or CREEP in force. -/
theorem envArm_thresholds (hl : s.line = some l) (h : (envArm s).env ≠ s.armedEnv) :
    (envArm s).brs.tWarn = (envArm s).env.e + (envArm s).env.e * l.pw / 1000 + l.cw ∧
    (envArm s).brs.tSvc = (envArm s).env.e + (envArm s).env.e * l.ps / 1000 + l.cs ∧
    (envArm s).brs.tEmg = min ((envArm s).env.e + (envArm s).env.e * l.pe / 1000 + l.ce) l.vTripAbs := by
  have hfollow : (envArm s).thresholdsFollow := by
    rw [envArm_eq] at h ⊢
    exact evaluateIn_thresholdsFollow_of_ne h
  have hmode : (envArm s).env.mode ≠ .frozen := by
    rw [(envArm_env s).1]
    cases s.moe.last.status <;> decide
  obtain ⟨hwarn, hsvc, hemg⟩ := thresholdsFollow_of_line hfollow (l := l) (by simpa [State.line] using hl)
  exact ⟨hwarn, hsvc, by rw [hemg, if_neg hmode]⟩

theorem directionTo_eq_down_iff (st : Stop) (pos : Int) : directionTo st pos = .down ↔ ¬ pos < st.pos := by
  unfold directionTo
  split <;> simp_all

/-- The haul record of an entry to ARMED (R87). -/
def State.armedHlc (s : State) (target : Nat) (dir : Direction) (tArm : Nat) : Hlc :=
  { s.hlc with
    state := .armed, target := some target, dir := dir
    origin := some (if s.hlc.state = .boarding then .boarding else .parked)
    armTimer := some { start := s.clock, dur := tArm * 1000 } }

theorem enterArmed_of_line (hl : s.line = some l) (target : Nat) (dir : Direction) :
    enterArmed target dir s = envArm (s.withHlc (s.armedHlc target dir l.tArm)) := by
  simp only [enterArmed, param_of_line hl, State.armedHlc]

/-- The state that an accepted DEPART arms: the haul ARMED and the reply placed. -/
def State.departing (s : State) (arr : Arrival) (target tag : Byte) (st : Stop) (l : Line) : State :=
  { begin arr.elapsed s with
    hlc := (s.asked arr).armedHlc target.toNat (directionTo st s.moe.last.posA) l.tArm
    rif := s.answered (lineReply s arr tag 0x50 0x03 0x00) }

theorem exec_depart_of_accepted {arr : Arrival} {target tag : Byte} {st : Stop}
    (h : ConsoleArrives s arr 0x50 [0x03, target, tag]) (hl : s.line = some l)
    (hstands : s.hlc.state = .boarding ∨ s.hlc.state = .parked) (hst : s.stops[target.toNat]? = some st)
    (hr : (s.asked arr).departResult target.toNat st = .accepted) :
    exec (.depart arr target tag) s = .next (envArm (s.departing arr target tag st l)) := by
  have hd : decideLine 0x03 target (s.asked arr) = (.accepted, enterArmed target.toNat
      (directionTo st s.moe.last.posA) (s.asked arr)) :=
    departLine_of_accepted (s := s.asked arr) hstands hst hr
  have hact := rowAct_of_console (c := .depart arr target tag) rfl h
  rw [hd, enterArmed_of_line (s := s.asked arr) hl] at hact
  rw [envArm_lineReplied] at hact
  rw [exec_of_running (e := arr.elapsed) rfl h.running, hact,
    settle_of_run (by simp [State.lineReplied, State.armedHlc, HaulState.atRest])]
  rfl

section

variable {arr : Arrival} {target tag : Byte} {st : Stop}

/-- The out-of-balance load and its class, of the counts as they stand. -/
theorem departing_load (hl : s.line = some l) :
    let w := s.departing arr target tag st l
    let a := s.adu.aboardA + s.adu.unticketedA
    let b := s.adu.aboardB + s.adu.unticketedB
    let load := (if s.moe.last.posA < st.pos then b - a else a - b) * l.mPass
    (envArm w).env.load = load ∧ (envArm w).env.loadClass = loadClassOf l load := by
  intro w a b load
  have hl' : w.line = some l := hl
  have hload : w.outOfBalance w.hlc.dir = load := by
    rw [outOfBalance_of_line hl']
    simp only [w, State.departing, State.armedHlc, directionTo_eq_down_iff, ite_not]
    rfl
  obtain ⟨-, -, hclass, hloaded, -, -⟩ := envArm_env w
  exact ⟨hloaded.trans hload, by rw [hclass, loadClass_of_line hl', hload]⟩

theorem departing_e_of_untrusted (hl : s.line = some l) (h : s.moe.last.status.trusted = false) :
    (envArm (s.departing arr target tag st l)).env.e = min l.vCreep l.vLineMax := by
  have hmode : s.moe.last.status.armMode = .creep := by simp [PositionStatus.armMode, h]
  obtain ⟨-, he, -⟩ := envArm_env (s.departing arr target tag st l)
  exact he.trans ((congrArg _ hmode).trans (eIn_creep (s := State.withEnv _ _) hl))

theorem departing_e_of_trusted (hl : s.line = some l) (hst : s.stops[target.toNat]? = some st)
    (h : s.moe.last.status.trusted = true) {x : Segment} {rest : List Segment}
    (hp : s.mga.active.profile = some (x :: rest)) {k : Fin 4}
    (hk : (envArm (s.departing arr target tag st l)).env.loadClass = k) :
    let y := segmentFrom s.moe.last.posA x rest
    let up := s.moe.last.posA < st.pos
    let d := if up then st.pos - s.moe.last.posA else s.moe.last.posA - st.pos
    (envArm (s.departing arr target tag st l)).env.e =
      min (min ((if up then y.up else y.down) * l.pct[k] / 100) (curveSpeed l k st.half d)) l.vLineMax := by
  have hmode : s.moe.last.status.armMode = .normal := by simp [PositionStatus.armMode, h]
  obtain ⟨-, he, hclass, -⟩ := envArm_env (s.departing arr target tag st l)
  have hnormal := eIn_normal (s := (s.departing arr target tag st l).withEnv (s.departing arr target tag st l).armedEnv)
    (dir := directionTo st s.moe.last.posA) hl hp rfl hst rfl (hclass.symm.trans hk)
  simp only [directionTo_eq_down_iff, ite_not] at hnormal
  exact he.trans ((congrArg _ hmode).trans hnormal)

end

end

/-- Settles O34: the checks are `departResult`'s, and an accepted DEPART is `envArm` of `State.departing`. -/
theorem departArmsTheHaul : Obligations.DepartArmsTheHaul := by
  unfold Obligations.DepartArmsTheHaul
  intro s arr target tag h now refused stands secure ready
  have hrefused : ∀ {r : LineResult}, departLine target.toNat (s.asked arr) = (r, s.asked arr) → refused r.code :=
    fun hd => exec_of_refused_line (c := .depart arr target tag) rfl rfl h hd
  refine ⟨fun hstands => hrefused (departLine_of_moving hstands),
    fun hstands hnone => hrefused (departLine_of_no_stop hstands hnone), fun hstands st hst => ?_⟩
  have hcheck : ∀ {r : LineResult}, (s.asked arr).departResult target.toNat st = r → r ≠ .accepted →
      refused r.code :=
    fun hr hne => hrefused (departLine_of_refused (s := s.asked arr) hstands hst hr hne)
  have hother := departResult_of_other (s := s.asked arr) (target := target.toNat) (st := st)
  have hsecure_iff : ((s.asked arr).dru.allLocked && (s.asked arr).carSecure .a && (s.asked arr).carSecure .b) =
      true ↔ secure := secure_iff
  have hready_iff : (s.asked arr).driveReady = true ↔ ready := driveReady_iff
  refine ⟨fun hsame => ?same, fun hsame hopen => ?boardingOpen, fun hsame hopen hgrants => ?grants,
    fun hsame hopen hgrants hsecure => ?doors, fun hsame hopen hgrants hsecure hready => ?drive,
    fun hsame hopen hgrants hsecure hready l hl => ?armed⟩
  case same => exact hcheck (departResult_of_same (s := s.asked arr) hsame) (by decide)
  case boardingOpen => exact hcheck (r := .boardingOpen) (by rw [hother hsame]; simp [hopen]) (by decide)
  case grants => exact hcheck (r := .pendingGrants) (by rw [hother hsame]; simp [hopen, hgrants]) (by decide)
  case doors =>
    refine hcheck (r := .doors) ?_ (by decide)
    rw [← hsecure_iff, Bool.not_eq_true] at hsecure
    rw [hother hsame, hsecure]
    simp [hopen, hgrants]
  case drive =>
    refine hcheck (r := .drive) ?_ (by decide)
    rw [← hsecure_iff] at hsecure
    rw [← hready_iff, Bool.not_eq_true] at hready
    rw [hother hsame, hsecure, hready]
    simp [hopen, hgrants]
  case armed =>
    have haccepted : (s.asked arr).departResult target.toNat st = .accepted := by
      rw [← hsecure_iff] at hsecure
      rw [← hready_iff] at hready
      rw [hother hsame, hsecure, hready]
      simp [hopen, hgrants]
    have hexec := exec_depart_of_accepted h hl hstands hst haccepted
    obtain ⟨hload, hclass⟩ := departing_load (arr := arr) (target := target) (tag := tag) (st := st) hl
    obtain ⟨hmode, -, -, -, htarget, hdir⟩ := envArm_env (s.departing arr target tag st l)
    obtain ⟨htrip, htier, hsup⟩ := envArm_brs_kept (s.departing arr target tag st l)
    obtain ⟨-, -, hreset, -, -, -, hrif, hmga, hmoe, htest, hhlc, hdru, hadu, hrpu⟩ :=
      envArm_frame (s.departing arr target tag st l)
    have hstate : (s.departing arr target tag st l).hlc.state = .armed := rfl
    have hrunning : (s.departing arr target tag st l).inReset = false := h.running
    refine ⟨hexec, _, hexec, hload, hclass, departing_e_of_untrusted hl,
      fun x rest hp htrusted => departing_e_of_trusted hl hst htrusted hp hclass, fun hne => ?thresholds, hhlc, htarget,
      hdir.trans (congrArg Hlc.dir hhlc).symm, hmode, ?brake, ?drive, hrif, htrip, htier, hsup, hmoe, hdru, hadu, hmga,
      hrpu, htest⟩
    case thresholds =>
      refine envArm_thresholds (s := s.departing arr target tag st l) hl fun hsame => hne ?_
      have hlatched : ({ s.env with
          target := (envArm (s.departing arr target tag st l)).env.target
          dir := (envArm (s.departing arr target tag st l)).env.dir
          load := (envArm (s.departing arr target tag st l)).env.load
          loadClass := (envArm (s.departing arr target tag st l)).env.loadClass } : Env) =
          (envArm (s.departing arr target tag st l)).env := by
        rw [hsame]
        rfl
      rw [hload, hclass] at hlatched
      exact hlatched.symm
    case brake => simp [State.sbDemand, hstate, hrunning]
    case drive => simp [State.driveEnable, hstate, hrunning]

end Sys2Proof.Machine

end

/-! ## The hardwired outputs and the holding in reset (R58, R81, R169) -/

section

namespace Sys2Proof.Machine

/-- The outputs of a running part, by haul state and stop cause (R58, R81). -/
theorem outputs_of_running {s : State} (h : s.inReset = false) :
    (s.ebHold = true ↔ s.hlc.state ≠ .tripped) ∧
    (s.sbDemand = false ↔ s.hlc.state = .armed ∨ s.hlc.state = .running) ∧
    (s.driveEnable = true ↔ s.hlc.state = .armed ∨ s.hlc.state = .running ∨
      (s.hlc.state = .serviceStop ∧ s.hlc.stopCause ≠ some .brakeTest)) := by
  simp only [State.ebHold, State.sbDemand, State.driveEnable, h]
  refine ⟨by simp, ?_, by simp [or_assoc]⟩
  cases s.hlc.state <;> decide

/-- The outputs of a part held in reset are off (R58, R81). -/
theorem outputs_of_held {s : State} (h : s.inReset = true) :
    s.ebHold = false ∧ s.sbDemand = true ∧ s.driveEnable = false := by
  simp [State.ebHold, State.sbDemand, State.driveEnable, h]

/-- Settles O3: the outputs by case of the reset; a held part takes no timed command, as `perform_held` says. -/
theorem outputsFollowTheHaulStateAndTheReset : Obligations.OutputsFollowTheHaulStateAndTheReset :=
  ⟨fun _ => outputs_of_running, fun _ => outputs_of_held, fun _ => rfl,
    fun _ _ s he hheld => by rw [exec_of_rowElapsed he s, perform_held hheld]⟩

end Sys2Proof.Machine

end

/-! ## The tier judgement (R44, R45) -/

section

namespace Sys2Proof.Machine

/-! ### The cases of R44 -/

section

variable {s : State}

theorem judgeTier_of_run {l : Line} (hl : s.line = some l) (hrun : s.hlc.state.atRest = false) :
    judgeTier s = tierCases s := by
  simp [judgeTier, hl, hrun]

theorem judgeTier_of_no_line (h : s.line = none) : judgeTier s = s := by
  simp [judgeTier, h]

theorem tierCases_of_emergency (h : s.brs.tEmg < s.moe.last.v) : tierCases s = trip .overspeed s :=
  if_pos h

theorem tierCases_of_service (hemg : s.moe.last.v ≤ s.brs.tEmg) (h : s.brs.tSvc < s.moe.last.v) :
    tierCases s = if s.brs.aboveService then warn true s else demand .overspeed (warn true s) := by
  simp only [tierCases, if_neg (Nat.not_lt.mpr hemg), if_pos h]

theorem tierCases_of_warn (hemg : s.moe.last.v ≤ s.brs.tEmg) (hsvc : s.moe.last.v ≤ s.brs.tSvc)
    (h : s.brs.tWarn < s.moe.last.v) : tierCases s = warn false s := by
  simp only [tierCases, if_neg (Nat.not_lt.mpr hemg), if_neg (Nat.not_lt.mpr hsvc), if_pos h]

/-- Up to T_warn the tier stays above E and is NORMAL up to it (R44). -/
theorem tierCases_of_below (hemg : s.moe.last.v ≤ s.brs.tEmg) (hsvc : s.moe.last.v ≤ s.brs.tSvc)
    (hwarn : s.moe.last.v ≤ s.brs.tWarn) : tierCases s =
      s.withBrs { s.brs with tier := if s.env.e < s.moe.last.v then s.brs.tier else .normal, aboveService := false } := by
  simp only [tierCases, if_neg (Nat.not_lt.mpr hemg), if_neg (Nat.not_lt.mpr hsvc), if_neg (Nat.not_lt.mpr hwarn)]
  split <;> rfl

end

/-! ### The warning (R44) -/

@[simp] theorem warn_brs (above : Bool) (s : State) :
    (warn above s).brs = { s.brs with tier := .warn, aboveService := above } := by
  unfold warn
  split <;> simp [setTier]

/-- OVERSPEED_WARN is counted at an entry to WARN alone. -/
theorem warn_count (above : Bool) (s : State) : (warn above s).rpu.slots[EventKind.overspeedWarn.code].count =
    if s.brs.tier = .normal then satAdd s.rpu.slots[EventKind.overspeedWarn.code].count 1
    else s.rpu.slots[EventKind.overspeedWarn.code].count := by
  unfold warn
  split
  · simp only [raise_count, if_true, setTier_frame]
  · simp only [setTier_frame]

/-! ### What a demand leaves and where it leads (R90, R93, R94) -/

/-- A demand met in SERVICE_STOP: counted, and the end of a SERVICE stage that brakes (R73, R93). -/
theorem demand_of_stopped {s : State} (h : s.hlc.state = .serviceStop) (cause : StopCause) :
    demand cause s =
      let u := raiseStop cause .counted (s.withHlc { s.hlc with further := min (s.hlc.further + 1) 255 })
      if u.test.svc.status = .braking then abortService u else u := by
  simp only [demand, h]

theorem demand_at_rest {s : State} (h : s.hlc.state.atRest = true) (cause : StopCause) :
    demand cause s = raiseStop cause .ignored s := by
  obtain h | h | h := (HaulState.atRest_iff _).mp h <;> simp only [demand, h]

/-- A demand counts SERVICE_STOP once (R93). -/
theorem demand_counts_stop (cause : StopCause) (s : State) :
    (demand cause s).rpu.slots[EventKind.serviceStop.code].count =
      satAdd s.rpu.slots[EventKind.serviceStop.code].count 1 := by
  have hraised : ∀ (o : DemandOutcome) (u : State), (raiseStop cause o u).rpu.slots[EventKind.serviceStop.code].count =
      satAdd u.rpu.slots[EventKind.serviceStop.code].count 1 := fun o u => by
    simp only [raiseStop, raise_count, if_true]
  cases h : s.hlc.state with
  | armed => simp only [demand_of_armed h, hraised, returnToOrigin_frame]
  | running => simp only [demand_of_running h, hraised, enterServiceStop_frame]
  | serviceStop =>
    simp only [demand_of_stopped h]
    split
    · have hother : EventKind.serviceStop.code ≠ EventKind.brakeTestResult.code := by decide
      simp only [abortService, raise_count, if_neg hother, State.withTest_rpu, hraised, State.withHlc_rpu]
    · simp only [hraised, State.withHlc_rpu]
  | _ => simp only [demand_at_rest (s := s) (by rw [h]; rfl), hraised]

/-- A demand counts no event but SERVICE_STOP and the BRAKE_TEST_RESULT of a stage that it ends. -/
theorem demand_count {j : Fin 28} (hstop : j ≠ EventKind.serviceStop.code) (hresult : j ≠ EventKind.brakeTestResult.code)
    (cause : StopCause) (s : State) : (demand cause s).rpu.slots[j].count = s.rpu.slots[j].count := by
  have hraised : ∀ (o : DemandOutcome) (u : State), (raiseStop cause o u).rpu.slots[j].count = u.rpu.slots[j].count :=
    fun o u => by simp only [raiseStop, raise_count, if_neg hstop]
  cases h : s.hlc.state with
  | armed => simp only [demand_of_armed h, hraised, returnToOrigin_frame]
  | running => simp only [demand_of_running h, hraised, enterServiceStop_frame]
  | serviceStop =>
    simp only [demand_of_stopped h]
    split
    · simp only [abortService, raise_count, if_neg hresult, State.withTest_rpu, hraised, State.withHlc_rpu]
    · simp only [hraised, State.withHlc_rpu]
  | _ => simp only [demand_at_rest (s := s) (by rw [h]; rfl), hraised]

@[simp] theorem superviseStop_brs (s : State) : (superviseStop s).brs = { s.brs with sup :=
    { active := true, vStart := s.moe.last.v, short := 0,
      expiry := some { start := s.clock, dur := s.param (·.tSup) 0 } } } := rfl

/-- What an entry to SERVICE_STOP leaves of the Brake Supervisor (R48). -/
theorem enterServiceStop_brs (cause : StopCause) (s : State) :
    (enterServiceStop cause s).brs.tier = s.brs.tier ∧
    (enterServiceStop cause s).brs.aboveService = s.brs.aboveService ∧
    (enterServiceStop cause s).brs.lossFlag = s.brs.lossFlag ∧
    (enterServiceStop cause s).brs.lossTimer = s.brs.lossTimer ∧
    (enterServiceStop cause s).brs.trip = s.brs.trip ∧ (enterServiceStop cause s).brs.history = s.brs.history ∧
    (enterServiceStop cause s).brs.sup.active = true := by
  simp [enterServiceStop]

/-- On a run a demand leaves the tier, the loss record and the trip as they are. -/
theorem demand_brs_of_run {s : State} (h : s.hlc.state = .running ∨ s.hlc.state = .serviceStop) (cause : StopCause) :
    (demand cause s).brs.tier = s.brs.tier ∧ (demand cause s).brs.aboveService = s.brs.aboveService ∧
    (demand cause s).brs.lossFlag = s.brs.lossFlag ∧ (demand cause s).brs.lossTimer = s.brs.lossTimer := by
  obtain h | h := h
  · obtain ⟨htier, habove, hflag, htimer, -⟩ := enterServiceStop_brs cause s
    simp [demand_of_running h, htier, habove, hflag, htimer]
  · simp only [demand_of_stopped h]
    split <;> simp

/-- The entry to the origin of an armed haul (R90). -/
theorem returnToOrigin_hlc {s : State} {o : Origin} (h : s.hlc.origin = some o) : (returnToOrigin s).hlc =
    { s.hlc with state := o.toState, boardingOpen := false, armTimer := none } := by
  simp [returnToOrigin, h]

theorem returnToOrigin_tier (s : State) :
    (returnToOrigin s).brs.tier = .normal ∧ (returnToOrigin s).brs.aboveService = false := by
  simp [returnToOrigin]

/-! ### The obligation -/

/-- A trip that latches, in the terms of the record and the haul state (R55). -/
theorem trip_latches {s : State} (cause : TripCause) (h : s.brs.trip.latched = false) :
    (trip cause s).hlc = { s.hlc with state := .tripped, berth := none, boardingOpen := false, armTimer := none } ∧
    (trip cause s).brs.trip = { latched := true, first := some cause, causes := cause.bit, posA := s.moe.last.posA,
                                v := s.moe.last.signed, time := s.clock } ∧
    (trip cause s).adu = s.adu := by
  rw [trip_of_free h]
  simp [latchTrip_hlc, latchTrip_trip, latchTrip_adu]

/-- Settles O20: the judgement is `tierCases`, case by case; a demand then acts by the haul state it meets. -/
theorem tierJudgementTakesTheFirstCase : Obligations.TierJudgementTakesTheFirstCase := by
  unfold Obligations.TierJudgementTakesTheFirstCase
  refine ⟨fun s l hl hfree hrun => ⟨fun hemg => ?emergency, fun hemg hsvc => ?service, fun hemg hsvc hwarn => ?warn,
      fun hemg hsvc hwarn he => ?stays, fun hemg hsvc hwarn he => ?normal⟩,
    fun s l hl hrun => ⟨fun hemg => ?tripped, fun hemg hsvc => ?demanded, fun hemg hsvc hwarn => ?warned⟩,
    fun s hrest => ?rest⟩
  case rest =>
    obtain h | h | h | h := hrest
    · exact judgeTier_of_rest (by rw [h]; rfl)
    · exact judgeTier_of_rest (by rw [h]; rfl)
    · exact judgeTier_of_rest (by rw [h]; rfl)
    · exact judgeTier_of_no_line h
  all_goals rw [judgeTier_of_run hl (HaulState.atRest_of_run hrun)]
  case emergency =>
    obtain ⟨hhlc, htrip, -⟩ := trip_latches .overspeed hfree
    rw [tierCases_of_emergency hemg, hhlc, htrip]
    exact ⟨rfl, rfl, rfl, rfl⟩
  case service =>
    rw [tierCases_of_service hemg hsvc]
    cases habove : s.brs.aboveService with
    | true => exact ⟨warn_count true s, fun _ => by simp, by simp, by simp, by simp, by simp⟩
    | false =>
      have hcount := demand_count (j := EventKind.overspeedWarn.code) (by decide) (by decide) .overspeed (warn true s)
      refine ⟨hcount.trans (warn_count true s), fun h => ?_, fun h _ => ?_, fun h _ => ?_, fun h _ o ho => ?_, by simp⟩
      · have hrun' : (warn true s).hlc.state = .running ∨ (warn true s).hlc.state = .serviceStop := by simp_all
        obtain ⟨htier, hflag, -⟩ := demand_brs_of_run hrun' .overspeed
        simp [htier, hflag]
      · simp [demand_of_running (s := warn true s) (by simpa using h), enterServiceStop_hlc]
      · simpa using (demand_of_serviceStop (s := warn true s) (by simpa using h) .overspeed).1
      · have ho' : (warn true s).hlc.origin = some o := by simpa using ho
        have henv := (returnToOrigin_of_origin ho').2
        simp [demand_of_armed (s := warn true s) (by simpa using h), returnToOrigin_hlc ho', returnToOrigin_tier, henv]
  case warn =>
    rw [tierCases_of_warn hemg hsvc hwarn]
    exact ⟨warn_brs false s, by simp, warn_count false s⟩
  case stays => rw [tierCases_of_below hemg hsvc hwarn, if_pos he]
  case normal => rw [tierCases_of_below hemg hsvc hwarn, if_neg (Nat.not_lt.mpr he)]
  case tripped => exact tierCases_of_emergency hemg
  case demanded => exact tierCases_of_service hemg hsvc
  case warned => exact tierCases_of_warn hemg hsvc hwarn

end Sys2Proof.Machine

end

/-! ## Supervision and the loss timer (R49, R52, R55) -/

section

namespace Sys2Proof.Machine

/-! ### A trip in the terms of the records (R55, R56) -/

section

variable {s : State}

/-- A trip that joins leaves the haul, and adds its cause to the record (R56). -/
theorem trip_joins (cause : TripCause) (h : s.brs.trip.latched = true) :
    (trip cause s).hlc = s.hlc ∧
    (trip cause s).brs.trip = { s.brs.trip with causes := s.brs.trip.causes ||| cause.bit } ∧
    (trip cause s).adu = s.adu := by
  rw [trip_of_latched h]
  simp [addTrip, Brs.addCause]

/-- Taken either way, a cause leaves the inputs and ESTOP_LATCHED. -/
theorem trip_inputs (cause : TripCause) (s : State) :
    (trip cause s).brs.chain = s.brs.chain ∧ (trip cause s).brs.key = s.brs.key ∧
    (trip cause s).brs.estopLatched = s.brs.estopLatched := by
  cases h : s.brs.trip.latched with
  | true => rw [trip_of_latched h]; simp [addTrip, Brs.addCause]
  | false => rw [trip_of_free h]; simp [latchTrip, enterTripped, raiseTrip]

/-- A trip that latches ends the supervision and the loss of speed (R50, R51). -/
theorem trip_ends_run (cause : TripCause) (h : s.brs.trip.latched = false) :
    (trip cause s).brs.sup = s.brs.sup.ended ∧ (trip cause s).brs.lossFlag = false ∧
    (trip cause s).brs.lossTimer = none := by
  rw [trip_of_free h]
  simp [latchTrip, enterTripped, raiseTrip]

end

/-! ### A supervision period (R49) -/

section

variable {s : State} {l : Line}

theorem supervisionExpiry_of_idle (h : s.brs.sup.active = false ∨ due s.brs.sup.expiry s.clock = false) :
    supervisionExpiry s = s := by
  unfold supervisionExpiry
  cases s.line with
  | none => rfl
  | some l => obtain h | h := h <;> simp [h]

theorem supervisionExpiry_of_due (hl : s.line = some l) (hactive : s.brs.sup.active = true)
    (hdue : due s.brs.sup.expiry s.clock = true) : supervisionExpiry s = judgePeriod l s := by
  simp [supervisionExpiry, hl, hactive, hdue]

theorem periodSufficient_iff (vStart v : Nat) : periodSufficient l vStart v = true ↔
    (v : Int) ≤ (vStart : Int) - ((l.aMin * l.tSup / 1000 : Nat) : Int) ∨ v ≤ l.vStill := by
  simp [periodSufficient, expectedSpeed]

theorem judgePeriod_of_sufficient (h : periodSufficient l s.brs.sup.vStart s.moe.last.v = true) :
    judgePeriod l s = s.withBrs { s.brs with sup := s.brs.sup.nextPeriod s.moe.last.v 0 l.tSup } := by
  simp [judgePeriod, h]

theorem judgePeriod_of_first_short (h : periodSufficient l s.brs.sup.vStart s.moe.last.v = false)
    (hshort : s.brs.sup.short = 0) :
    judgePeriod l s = s.withBrs { s.brs with sup := s.brs.sup.nextPeriod s.moe.last.v 1 l.tSup } := by
  simp [judgePeriod, h, hshort]

/-- The second short period in a row latches a trip with SB_INEFFECTIVE (R49, R55). -/
theorem judgePeriod_of_second_short (h : periodSufficient l s.brs.sup.vStart s.moe.last.v = false)
    (hshort : s.brs.sup.short ≠ 0) (hfree : s.brs.trip.latched = false) :
    (judgePeriod l s).hlc.state = .tripped ∧ (judgePeriod l s).brs.sup.short = 2 ∧
    (judgePeriod l s).brs.sup.active = false ∧
    (judgePeriod l s).brs.trip = { latched := true, first := some .sbIneffective, causes := 8, posA := s.moe.last.posA,
                                   v := s.moe.last.signed, time := s.clock } ∧
    (judgePeriod l s).adu = s.adu := by
  have heq : judgePeriod l s =
      trip .sbIneffective (s.withBrs { s.brs with sup := { s.brs.sup with short := 2 } }) := by
    simp [judgePeriod, h, hshort]
  obtain ⟨hhlc, htrip, hadu⟩ := trip_latches .sbIneffective
    (s := s.withBrs { s.brs with sup := { s.brs.sup with short := 2 } }) hfree
  obtain ⟨hsup, -⟩ := trip_ends_run .sbIneffective
    (s := s.withBrs { s.brs with sup := { s.brs.sup with short := 2 } }) hfree
  rw [heq, hhlc, htrip, hsup, hadu]
  exact ⟨rfl, rfl, rfl, rfl, rfl⟩

/-- The record that a period without a trip leaves: V_start and the expiry have moved on. -/
theorem nextPeriod_eq {x : Supervision} {t : Timer} (hactive : x.active = true) (ht : x.expiry = some t)
    (v short tSup : Nat) : x.nextPeriod v short tSup =
      { active := true, vStart := v, short := short,
        expiry := some { start := t.start + BitVec.ofNat 32 t.dur, dur := tSup } } := by
  simp [Supervision.nextPeriod, hactive, ht, Timer.again]

end

/-! ### The loss timer (R52) -/

theorem lossExpiry_of_idle {s : State} (h : due s.brs.lossTimer s.clock = false) : lossExpiry s = s := by
  simp [lossExpiry, h]

/-- A loss timer that is reached is idle and latches a trip with SPEED_LOST (R52, R55). -/
theorem lossExpiry_of_due {s : State} (h : due s.brs.lossTimer s.clock = true) (hfree : s.brs.trip.latched = false) :
    (lossExpiry s).hlc = { s.hlc with state := .tripped, berth := none, boardingOpen := false, armTimer := none } ∧
    (lossExpiry s).brs.lossTimer = none ∧ (lossExpiry s).brs.lossFlag = false ∧
    (lossExpiry s).brs.trip = { latched := true, first := some .speedLost, causes := 16, posA := s.moe.last.posA,
                                v := s.moe.last.signed, time := s.clock } ∧
    (lossExpiry s).adu = s.adu := by
  have heq : lossExpiry s = trip .speedLost (s.withBrs { s.brs with lossTimer := none }) := if_pos h
  obtain ⟨hhlc, htrip, hadu⟩ := trip_latches .speedLost (s := s.withBrs { s.brs with lossTimer := none }) hfree
  obtain ⟨-, hflag, htimer⟩ := trip_ends_run .speedLost (s := s.withBrs { s.brs with lossTimer := none }) hfree
  rw [heq, hhlc, htrip, hflag, htimer, hadu]
  exact ⟨rfl, rfl, rfl, rfl, rfl⟩

/-! ### The obligation -/

/-- Settles O21: an expiry is a judgement of the period, or the trip of the loss timer; a period that trips latches. -/
theorem supervisionAndLossTimersTrip : Obligations.SupervisionAndLossTimersTrip := by
  unfold Obligations.SupervisionAndLossTimersTrip
  refine ⟨fun s e l x hrun hl hx => ⟨fun hidle => ?idle, fun hactive hreached => ?_⟩,
    fun s e hrun => ⟨fun hearly => ?early, fun hdue hfree => ?lost⟩⟩
  case idle =>
    refine exec_of_idle rfl hrun (supervisionExpiry_of_idle (s := begin e s) ?_)
    exact hidle.imp id fun h => by simpa [hx, due] using h
  case early => exact exec_of_idle rfl hrun (lossExpiry_of_idle (s := begin e s) hearly)
  case lost =>
    obtain ⟨hhlc, htimer, hflag, htrip, hadu⟩ := lossExpiry_of_due (s := begin e s) hdue hfree
    obtain ⟨-, -, -, hclock, -, -, hmga, hmoe, hdru⟩ := lossExpiry_frame (begin e s)
    rw [← hclock] at htrip
    exact settles_of_act (c := .lossTimerExpiry e) rfl hrun hmga
      ⟨hhlc, htimer, hflag, htrip, hmoe, hdru, hadu, hmga⟩
  have hact : rowAct (.supervisionPeriodExpiry e) (begin e s) = judgePeriod l (begin e s) :=
    supervisionExpiry_of_due (s := begin e s) hl hactive (by simpa [hx, due] using hreached)
  have hmoved : ∀ short, judgePeriod l (begin e s) = (begin e s).withBrs
      { s.brs with sup := s.brs.sup.nextPeriod s.moe.last.v short l.tSup } →
      exec (.supervisionPeriodExpiry e) s = .next { begin e s with brs := { s.brs with sup :=
        { active := true, vStart := s.moe.last.v, short := short,
          expiry := some { start := x.start + BitVec.ofNat 32 x.dur, dur := l.tSup } } } } := fun short h => by
    rw [exec_of_running (e := e) rfl hrun, hact, h, nextPeriod_eq hactive hx]
    exact congrArg _ (settle_of_same rfl)
  have hshort : ∀ {p : Prop}, ¬ p → (periodSufficient l s.brs.sup.vStart s.moe.last.v = true ↔ p) →
      periodSufficient l s.brs.sup.vStart s.moe.last.v = false := fun hp hiff => by
    simpa using fun h => hp (hiff.mp h)
  refine ⟨fun h => hmoved 0 (judgePeriod_of_sufficient (s := begin e s) ((periodSufficient_iff _ _).mpr h)),
    fun h h0 => hmoved 1 (judgePeriod_of_first_short (s := begin e s) (hshort h (periodSufficient_iff _ _)) h0),
    fun h h1 hfree => ?_⟩
  obtain ⟨hstate, htwo, hended, htrip, hadu⟩ := judgePeriod_of_second_short (s := begin e s)
    (hshort h (periodSufficient_iff _ _)) h1 hfree
  obtain ⟨-, -, -, hclock, -, -, hmga, hmoe, hdru⟩ := judgePeriod_frame l (begin e s)
  rw [← hclock] at htrip
  refine settles_of_act (e := e) rfl hrun (by rw [hact]; exact hmga) ?_
  rw [hact]
  exact ⟨hstate, htwo, hended, htrip, hmoe, hdru, hadu, hmga⟩

end Sys2Proof.Machine

end

/-! ## The hardwired inputs, MANUAL_TRIP and TRIP_RESET (R59–R62, R97) -/

section

namespace Sys2Proof.Machine

/-! ### MANUAL_TRIP (R62) -/

/-- A MANUAL_TRIP is answered once the trip is taken, in every haul state. -/
theorem rowAct_manualTrip {s : State} {arr : Arrival} {tag : Byte} (h : ManagerArrives s arr [0x0D, tag]) :
    rowAct (.manualTrip arr tag []) (begin arr.elapsed s) =
      (trip .manual (s.asked arr)).replied s arr 0x0D tag 0x00 [] :=
  rowAct_of_manager (c := .manualTrip arr tag []) (body := []) rfl h

/-- Settles O24: the request is accepted in every state; whether the cause latches or joins is the trip's own split. -/
theorem manualTripIsAcceptedInEveryState : Obligations.ManualTripIsAcceptedInEveryState := by
  unfold Obligations.ManualTripIsAcceptedInEveryState
  intro s arr tag h
  have hact := rowAct_manualTrip h
  have hreply : (trip .manual (s.asked arr)).rif.reply = s.rif.reply := (Undisturbed.trip .manual _).reply
  refine ⟨?_, settles_of_act (e := arr.elapsed) rfl h.running (by rw [hact]; simp) ?_⟩
  · rw [exec_of_running (e := arr.elapsed) rfl h.running, hact, State.replied, hreply]
    rfl
  · rw [hact]
    refine ⟨congrArg (· ++ [mgmtReply s arr 0x0D tag 0x00 []]) hreply, fun hfree => ?_, fun hlatched => ?_, by simp,
      by simp, ?_, by simp⟩
    · obtain ⟨hhlc, htrip, -⟩ := trip_latches (s := s.asked arr) .manual hfree
      have hclock : (trip .manual (s.asked arr)).clock = (s.asked arr).clock := by simp
      rw [← hclock] at htrip
      exact ⟨hhlc, htrip⟩
    · obtain ⟨hhlc, htrip, -⟩ := trip_joins (s := s.asked arr) .manual hlatched
      exact ⟨hhlc, htrip⟩
    · cases hl : s.brs.trip.latched with
      | true => exact (trip_joins (s := s.asked arr) .manual hl).2.2
      | false => exact (trip_latches (s := s.asked arr) .manual hl).2.2

/-! ### The hardwired inputs (R59, R60) -/

section

variable {s : State} {p : Pin}

theorem rawChange_of_same {level : Level} (h : (s.brs.pin p).raw = level) : rawChange p level s = s :=
  if_pos h

theorem rawChange_of_other {level : Level} (h : (s.brs.pin p).raw ≠ level) : rawChange p level s =
    s.withBrs (s.brs.setPin p { s.brs.pin p with raw := level, timer := some { start := s.clock, dur := 4 } }) :=
  if_neg h

theorem debounceExpiry_of_early (h : due (s.brs.pin p).timer s.clock = false) : debounceExpiry p s = s := by
  simp [debounceExpiry, h]

/-- An input that settles without opening the stop chain (R59). -/
theorem debounceExpiry_of_quiet (h : due (s.brs.pin p).timer s.clock = true)
    (hquiet : p = .resetKey ∨ (s.brs.pin p).level = .opened ∨ (s.brs.pin p).raw = .closed) :
    debounceExpiry p s =
      s.withBrs (s.brs.setPin p { s.brs.pin p with level := (s.brs.pin p).raw, timer := none }) := by
  have hother : ¬ (p = .stopChain ∧ (s.brs.pin p).level = .closed ∧ (s.brs.pin p).raw = .opened) := by
    rintro ⟨hp, hlevel, hraw⟩
    simp [hp ▸ hlevel, hp ▸ hraw, hp] at hquiet
  simp only [debounceExpiry, h, if_true, if_neg hother]

/-- The Brake Supervisor with the stop chain settled open and its opening latched (R60). -/
def Brs.chainOpen (b : Brs) : Brs :=
  { b with chain := { raw := .opened, level := .opened, timer := none }, estopLatched := true }

/-- ESTOP_CHAIN as an opening raises it: the signed V, and 1 where the opening latches the trip (R60). -/
def State.estopRaised (s : State) : State :=
  raise .estopChain
    (BitVec.ofInt 16 s.moe.last.signed ++ (if s.brs.trip.latched then (0 : Byte) else (1 : Byte)) ++ (0 : Byte))
    (s.withBrs s.brs.chainOpen)

/-- The stop chain that turns from CLOSED to OPEN raises ESTOP_CHAIN and then trips (R60). -/
theorem debounceExpiry_of_opening (h : due s.brs.chain.timer s.clock = true) (hlevel : s.brs.chain.level = .closed)
    (hraw : s.brs.chain.raw = .opened) : debounceExpiry .stopChain s = trip .estopChain s.estopRaised := by
  have hflag : flagByte (!s.brs.trip.latched) = if s.brs.trip.latched then (0 : Byte) else 1 := by
    cases s.brs.trip.latched <;> rfl
  have hopened : debounceExpiry .stopChain s = chainOpened (s.withBrs { s.brs with
      chain := { s.brs.chain with level := s.brs.chain.raw, timer := none } }) := by
    simp [debounceExpiry, Brs.pin, Brs.setPin, h, hlevel, hraw]
  rw [hopened, chainOpened, raiseEstop]
  simp only [State.withBrs_brs, State.withBrs_moe, hflag, hraw]
  rfl

/-- What the opened chain leaves: the input settled, ESTOP_LATCHED set, ESTOP_CHAIN counted once, and the cause latched
or added (R60). -/
theorem estopRaised_tripped (s : State) :
    let t := trip .estopChain s.estopRaised
    t.brs.chain = { raw := .opened, level := .opened, timer := none } ∧ t.brs.key = s.brs.key ∧
    t.brs.estopLatched = true ∧
    t.rpu.slots[EventKind.estopChain.code].count = satAdd s.rpu.slots[EventKind.estopChain.code].count 1 := by
  obtain ⟨hchain, hkey, hestop⟩ := trip_inputs .estopChain s.estopRaised
  have hcount := (Undisturbed.trip .estopChain s.estopRaised).count EventKind.estopChain.code (by decide)
  refine ⟨hchain.trans (by simp [State.estopRaised, Brs.chainOpen]),
    hkey.trans (by simp [State.estopRaised, Brs.chainOpen]),
    hestop.trans (by simp [State.estopRaised, Brs.chainOpen]), hcount.trans ?_⟩
  simp only [State.estopRaised, raise_count, if_true, State.withBrs_rpu]

@[simp] theorem estopRaised_frame (s : State) : s.estopRaised.clock = s.clock ∧ s.estopRaised.moe = s.moe ∧
    s.estopRaised.hlc = s.hlc ∧ s.estopRaised.brs.trip = s.brs.trip ∧ s.estopRaised.dru = s.dru ∧
    s.estopRaised.adu = s.adu ∧ s.estopRaised.mga = s.mga := by
  simp [State.estopRaised, Brs.chainOpen]

end

/-- Settles O25: a raw change restarts the timer, an expiry settles the input, and the chain that opens is
`State.estopRaised` and its trip. -/
theorem hardwiredInputsAreDebounced : Obligations.HardwiredInputsAreDebounced := by
  unfold Obligations.HardwiredInputsAreDebounced
  refine ⟨fun s e p level hrun => ⟨fun hsame => ?same, fun hother => ?changed⟩,
    fun s e p hrun => ⟨fun hearly => ?early, fun hdue hquiet => ?quiet, fun hdue hp hlevel hraw => ?opening,
      fun hdue hp hlevel hraw => ?tripped⟩⟩
  case same => exact exec_of_idle rfl hrun (rawChange_of_same (s := begin e s) hsame)
  case changed =>
    have hact : rowAct (.rawLevelChange e p level) (begin e s) = _ := rawChange_of_other (s := begin e s) hother
    rw [exec_of_running (e := e) rfl hrun, hact]
    exact congrArg _ (settle_of_same rfl)
  case early => exact exec_of_idle rfl hrun (debounceExpiry_of_early (s := begin e s) hearly)
  case quiet =>
    have hact : rowAct (.debounceExpiry e p) (begin e s) = _ := debounceExpiry_of_quiet (s := begin e s) hdue hquiet
    rw [exec_of_running (e := e) rfl hrun, hact]
    exact congrArg _ (settle_of_same rfl)
  case opening =>
    subst hp
    have hact : rowAct (.debounceExpiry e .stopChain) (begin e s) = _ :=
      debounceExpiry_of_opening (s := begin e s) hdue hlevel hraw
    rw [exec_of_running (e := e) rfl hrun, hact]
    rfl
  case tripped =>
    subst hp
    have hact : rowAct (.debounceExpiry e .stopChain) (begin e s) = _ :=
      debounceExpiry_of_opening (s := begin e s) hdue hlevel hraw
    refine settles_of_act (e := e) rfl hrun (by rw [hact]; simp) ?_
    rw [hact]
    obtain ⟨hchain, hkey, hestop, hcount⟩ := estopRaised_tripped (begin e s)
    cases hl : s.brs.trip.latched with
    | true =>
      obtain ⟨hhlc, htrip, hadu⟩ := trip_joins (s := (begin e s).estopRaised) .estopChain (by simpa using hl)
      rw [hhlc, htrip, hadu]
      refine ⟨hchain, hkey, hestop, by simp, hcount, by simp, fun _ => by simp [TripCause.bit, TripCause.num], ?_⟩
      simp
    | false =>
      obtain ⟨hhlc, htrip, hadu⟩ := trip_latches (s := (begin e s).estopRaised) .estopChain (by simpa using hl)
      rw [hhlc, htrip, hadu]
      refine ⟨hchain, hkey, hestop, by simp, hcount, fun _ => by simp [TripCause.bit, TripCause.num], by simp, ?_⟩
      simp

/-! ### TRIP_RESET (R61) -/

section

variable {s : State}

theorem decideTripReset_of_not_tripped (h : s.brs.trip.latched = false) :
    decideTripReset s = refuse .notTripped s := by
  simp [decideTripReset, h]

theorem decideTripReset_of_no_key (htrip : s.brs.trip.latched = true) (h : s.brs.key.level = .opened) :
    decideTripReset s = refuse .noKey s := by
  simp [decideTripReset, htrip, h]

theorem decideTripReset_of_moving (htrip : s.brs.trip.latched = true) (hkey : s.brs.key.level = .closed)
    (h : s.moe.still = false) : decideTripReset s = refuse .moving s := by
  simp [decideTripReset, htrip, hkey, h]

theorem decideTripReset_of_chain_open (htrip : s.brs.trip.latched = true) (hkey : s.brs.key.level = .closed)
    (hstill : s.moe.still = true) (h : s.brs.chain.level = .opened) : decideTripReset s = refuse .chainOpen s := by
  simp [decideTripReset, htrip, hkey, hstill, h]

/-- One of the four tables that a run needs is EMPTY (R61). -/
theorem runnable_eq_false_iff : s.mga.active.runnable = false ↔ s.mga.active.node = none ∨ s.mga.active.stop = none ∨
    s.mga.active.profile = none ∨ s.line = none := by
  simp only [ActiveTables.runnable, State.line, Bool.and_eq_false_iff, Option.isSome_eq_false_iff,
    Option.isNone_iff_eq_none, or_assoc]

/-- With trip, key, rest and chain as they must be, the tables decide. -/
theorem decideTripReset_of_tables (htrip : s.brs.trip.latched = true) (hkey : s.brs.key.level = .closed)
    (hstill : s.moe.still = true) (hchain : s.brs.chain.level = .closed) : decideTripReset s =
      if s.mga.active.runnable then accept [] (enterRest .parked none false (s.withBrs s.brs.cleared))
      else refuse .tables s := by
  cases h : s.mga.active.runnable <;> simp [decideTripReset, htrip, hkey, hstill, hchain, h]

/-- What an accepted TRIP_RESET leaves (R36, R61, R97). -/
theorem enterRest_cleared {older : List TripEntry} {newest : TripEntry} (h : s.brs.history = older ++ [newest]) :
    let t := enterRest .parked none false (s.withBrs s.brs.cleared)
    t.brs.trip = { latched := false, first := none, causes := 0, posA := 0, v := 0, time := 0 } ∧
    t.brs.history = older ++ [{ newest with cleared := true }] ∧ t.brs.estopLatched = false ∧
    t.hlc = { s.hlc with state := .parked, berth := none, boardingOpen := false, armTimer := none } ∧
    t.env = { s.env with mode := .off, e := 0 } ∧ t.adu = s.adu := by
  simp [Brs.cleared, h, onNewest_concat, enterRest_env (st := .parked) rfl, enterRest_adu]

end

/-- Settles O26: the refusals by the checks of `decideTripReset` in order; accepted, the haul enters PARKED with the
cleared record. -/
theorem tripResetNeedsKeyAndRest : Obligations.TripResetNeedsKeyAndRest := by
  unfold Obligations.TripResetNeedsKeyAndRest
  intro s arr tag h
  have hrefused : ∀ r, decideTripReset (s.asked arr) = refuse r (s.asked arr) → exec (.tripReset arr tag []) s =
      .next { begin arr.elapsed s with rif := s.answered (mgmtReply s arr 0x0C tag r.code []) } :=
    fun r hd => exec_of_refused rfl rfl h hd
  refine ⟨fun htrip => hrefused .notTripped (decideTripReset_of_not_tripped (s := s.asked arr) htrip),
    fun htrip hkey => hrefused .noKey (decideTripReset_of_no_key (s := s.asked arr) htrip hkey),
    fun htrip hkey hstill => hrefused .moving (decideTripReset_of_moving (s := s.asked arr) htrip hkey hstill),
    fun htrip hkey hstill hchain =>
      hrefused .chainOpen (decideTripReset_of_chain_open (s := s.asked arr) htrip hkey hstill hchain),
    fun htrip hkey hstill hchain hmissing => hrefused .tables ?tables,
    fun htrip hkey hstill hchain hcomplete older newest hhistory => ?accepted⟩
  case tables =>
    have hrunnable : (s.asked arr).mga.active.runnable = false := runnable_eq_false_iff.mpr hmissing
    rw [decideTripReset_of_tables (s := s.asked arr) htrip hkey hstill hchain, hrunnable]
    rfl
  case accepted =>
    have hrunnable : (s.asked arr).mga.active.runnable = true := by
      simpa using fun hf => hcomplete (runnable_eq_false_iff.mp hf)
    have hd := decideTripReset_of_tables (s := s.asked arr) htrip hkey hstill hchain
    rw [if_pos hrunnable] at hd
    have hact := rowAct_of_manager (c := .tripReset arr tag []) (body := []) rfl h
    rw [show decideRequest 0x0C [] (s.asked arr) = _ from hd] at hact
    obtain ⟨hrecord, hnewest, hestop, hhlc, henv, hadu⟩ := enterRest_cleared (s := s.asked arr) hhistory
    have hrunning : s.inReset = false := h.running
    refine settles_of_act (e := arr.elapsed) rfl h.running (by rw [hact]; simp [accept]) ?_
    rw [hact]
    simp only [accept, replied_frame]
    refine ⟨hrecord, hnewest, hestop, hhlc, ?_, ?_, ?_, henv, ?_, by simp, by simp, hadu, by simp, by simp, by simp⟩
    · simp [State.ebHold, State.replied, State.asked, hrunning]
    · simp [State.sbDemand, State.replied]
    · simp [State.driveEnable, State.replied]
    · simp only [State.replied, enterRest_frame]
      rfl

end Sys2Proof.Machine

end

/-! ## The overrun of the end stops and the loss of sheave speed (R51, R53) -/

section

namespace Sys2Proof.Machine

/-! ### What a demand leaves of the trip and of admission -/

/-- A demand takes no trip cause (R93). -/
@[simp] theorem demand_trip (cause : StopCause) (s : State) : (demand cause s).brs.trip = s.brs.trip := by
  cases h : s.hlc.state with
  | armed => simp [demand_of_armed h, returnToOrigin]
  | running => simp [demand_of_running h, enterServiceStop_brs]
  | serviceStop =>
    simp only [demand_of_stopped h]
    split <;> simp
  | _ => simp [demand_at_rest (s := s) (by rw [h]; rfl)]

/-- On a run a demand leaves the Admission Unit. -/
theorem demand_adu_of_run {s : State} (h : s.hlc.state = .running ∨ s.hlc.state = .serviceStop) (cause : StopCause) :
    (demand cause s).adu = s.adu := by
  obtain h | h := h
  · simp [demand_of_running h]
  · simp only [demand_of_stopped h]
    split <;> simp

/-! ### The loss of sheave speed (R51) -/

section

variable {s : State}

theorem sheaveFresh_iff : s.sheaveFresh = true ↔ s.moe.s1.state = .fresh ∨ s.moe.s2.state = .fresh := by
  simp [State.sheaveFresh]

theorem judgeLoss_of_no_run (h : ¬ (s.hlc.state = .running ∨ s.hlc.state = .serviceStop)) : judgeLoss s = s :=
  if_neg h

theorem judgeLoss_of_known (hflag : s.brs.lossFlag = false) (hknown : s.moe.last.known = true) : judgeLoss s = s := by
  simp [judgeLoss, hflag, hknown]

theorem judgeLoss_of_flag (hrun : s.hlc.state = .running ∨ s.hlc.state = .serviceStop) (hflag : s.brs.lossFlag = true) :
    judgeLoss s = followLoss s := by
  simp [judgeLoss, hrun, hflag]

theorem judgeLoss_of_unknown (hrun : s.hlc.state = .running ∨ s.hlc.state = .serviceStop)
    (hflag : s.brs.lossFlag = false) (hknown : s.moe.last.known = false) : judgeLoss s = takeLoss s := by
  simp [judgeLoss, hrun, hflag, hknown]

/-- The loss timer that a judgement starts. -/
def State.lossTimerStarted (s : State) : Timer := { start := s.clock, dur := 2 * s.param (·.tStaleSheave) 0 }

/-- While the loss lasts the timer runs exactly while no sheave is FRESH, and a KNOWN speed ends the loss. -/
theorem followLoss_eq (hflag : s.brs.lossFlag = true) : followLoss s = { s with brs := { s.brs with
    lossFlag := decide (¬ s.moe.last.known = true)
    lossTimer := if s.moe.s1.state = .fresh ∨ s.moe.s2.state = .fresh then none
      else if s.brs.lossTimer = none then some s.lossTimerStarted else s.brs.lossTimer } } := by
  have htimer : (if s.sheaveFresh then s.withBrs { s.brs with lossTimer := none }
      else if s.brs.lossTimer.isNone then startLossTimer s else s) = s.withBrs { s.brs with
        lossTimer := if s.moe.s1.state = .fresh ∨ s.moe.s2.state = .fresh then none
          else if s.brs.lossTimer = none then some s.lossTimerStarted else s.brs.lossTimer } := by
    simp only [sheaveFresh_iff, Option.isNone_iff_eq_none]
    (repeat' split) <;> rfl
  simp only [followLoss, htimer]
  cases hknown : s.moe.last.known
  · simp [State.withBrs, hflag]
  · rfl

/-- The state in which a loss that is found has been demanded and raised. -/
def State.lossRaised (s : State) : State :=
  raise .speedLost (BitVec.ofInt 32 s.moe.last.posA)
    (demand .speedLost { s with brs := { s.brs with lossFlag := true } })

/-- A loss that is found starts the timer where no sheave is FRESH, after the demand and the event. -/
theorem takeLoss_eq (s : State) : takeLoss s = { s.lossRaised with brs := { s.lossRaised.brs with
    lossTimer := if s.moe.s1.state = .fresh ∨ s.moe.s2.state = .fresh then s.lossRaised.brs.lossTimer
      else some s.lossTimerStarted } } := by
  have hfresh : s.lossRaised.sheaveFresh = s.sheaveFresh := by simp [State.sheaveFresh, State.lossRaised]
  have hstarted : s.lossRaised.lossTimerStarted = s.lossTimerStarted := by
    simp [State.lossTimerStarted, State.param, State.line, State.lossRaised]
  have htaken : takeLoss s = if s.lossRaised.sheaveFresh then s.lossRaised else startLossTimer s.lossRaised := rfl
  rw [htaken, hfresh, ← hstarted]
  simp only [sheaveFresh_iff]
  split <;> rfl

/-- What a found loss leaves and raises on a run (R51, R93). -/
theorem lossRaised_of_run (h : s.hlc.state = .running ∨ s.hlc.state = .serviceStop) :
    s.lossRaised.brs.lossFlag = true ∧ s.lossRaised.brs.lossTimer = s.brs.lossTimer ∧
    s.lossRaised.hlc.state = .serviceStop ∧ s.lossRaised.adu = s.adu := by
  have hrun : ({ s with brs := { s.brs with lossFlag := true } } : State).hlc.state = .running ∨
      ({ s with brs := { s.brs with lossFlag := true } } : State).hlc.state = .serviceStop := h
  obtain ⟨-, -, hflag, htimer⟩ := demand_brs_of_run hrun .speedLost
  have hadu := demand_adu_of_run hrun .speedLost
  simp only [State.lossRaised, raise_frame, hflag, htimer, hadu, demand_state_of_run hrun]
  exact ⟨trivial, trivial, trivial, trivial⟩

/-- SERVICE_STOP and SPEED_LOST are counted once each, any kind but these and BRAKE_TEST_RESULT not at all. -/
theorem lossRaised_counts (s : State) :
    s.lossRaised.rpu.slots[EventKind.serviceStop.code].count =
      satAdd s.rpu.slots[EventKind.serviceStop.code].count 1 ∧
    s.lossRaised.rpu.slots[EventKind.speedLost.code].count = satAdd s.rpu.slots[EventKind.speedLost.code].count 1 ∧
    s.lossRaised.rpu.slots[EventKind.departed.code].count = s.rpu.slots[EventKind.departed.code].count := by
  simp only [State.lossRaised, raise_count]
  refine ⟨?_, ?_, ?_⟩
  · rw [if_neg (by decide), demand_counts_stop]
  · rw [if_pos trivial, demand_count (by decide) (by decide)]
  · rw [if_neg (by decide), demand_count (by decide) (by decide)]

/-- A loss found in RUNNING enters SERVICE_STOP under supervision, with the forced set-point waiting (R47, R48, R94). -/
theorem lossRaised_of_running (h : s.hlc.state = .running) :
    s.lossRaised.hlc = { s.hlc with state := .serviceStop, stopCause := some .speedLost, further := 0 } ∧
    s.lossRaised.brs.sup.active = true ∧ s.lossRaised.rif.force = some (s.forcedZero s.rif.txSeq) := by
  have hrun : ({ s with brs := { s.brs with lossFlag := true } } : State).hlc.state = .running := h
  simp only [State.lossRaised, raise_frame, raise_force, demand_of_running hrun, raiseStop]
  refine ⟨enterServiceStop_hlc _ _, (enterServiceStop_brs _ _).2.2.2.2.2.2, ?_⟩
  simp only [enterServiceStop, superviseStop_frame, placeForce_force, envEvaluate_frame]
  exact congrArg some (forcedZero_congr (by simp) (by simp) _)

/-- A loss found in SERVICE_STOP is one more demand. -/
theorem lossRaised_of_stopped (h : s.hlc.state = .serviceStop) :
    s.lossRaised.hlc = { s.hlc with further := min (s.hlc.further + 1) 255 } := by
  have hstop : ({ s with brs := { s.brs with lossFlag := true } } : State).hlc.state = .serviceStop := h
  simp only [State.lossRaised, raise_frame, (demand_of_serviceStop hstop .speedLost).1]

@[simp] theorem lossRaised_frame (s : State) : s.lossRaised.brs.trip = s.brs.trip ∧ s.lossRaised.moe = s.moe ∧
    s.lossRaised.dru = s.dru ∧ s.lossRaised.mga = s.mga := by
  simp [State.lossRaised]

end

/-! ### The trip record through the judgements of an update -/

/-- The loss of speed takes no trip cause (R51). -/
@[simp] theorem judgeLoss_trip (s : State) : (judgeLoss s).brs.trip = s.brs.trip := by
  unfold judgeLoss
  split
  · split
    · rename_i hflag
      rw [followLoss_eq hflag]
    split
    · rfl
    · rw [takeLoss_eq]
      simp
  · rfl

/-- Below T_emg, and at rest, the tier judgement takes no trip cause (R44). -/
theorem judgeTier_trip {s : State} (h : s.hlc.state.atRest = true ∨ s.moe.last.v ≤ s.brs.tEmg) :
    (judgeTier s).brs.trip = s.brs.trip := by
  unfold judgeTier
  split
  · rename_i hrun
    have hemg : ¬ s.brs.tEmg < s.moe.last.v := Nat.not_lt.mpr (h.resolve_left (by simp_all))
    simp only [tierCases, if_neg hemg, setTier]
    (repeat' split) <;> simp
  · rfl

/-- Which causes a trip leaves in the record (R55, R56). -/
theorem trip_causes (cause : TripCause) (s : State) : (trip cause s).brs.trip.causes =
    if s.brs.trip.latched then s.brs.trip.causes ||| cause.bit else cause.bit := by
  cases h : s.brs.trip.latched with
  | true => exact congrArg TripRecord.causes (trip_joins cause h).2.1
  | false => exact congrArg TripRecord.causes (trip_latches cause h).2.1

/-- OVERRUN is bit 6 of a cause set, and no other cause is (R54, R170). -/
theorem TripCause.bit_overrun (cause : TripCause) : cause.bit.getLsbD 6 = decide (cause = .overrun) := by
  cases cause <;> decide

/-- Another cause than OVERRUN does not bring OVERRUN into the record. -/
theorem trip_without_overrun {cause : TripCause} (hcause : cause ≠ .overrun) {s : State}
    (h : s.brs.trip.causes.getLsbD 6 = false) : (trip cause s).brs.trip.causes.getLsbD 6 = false := by
  rw [trip_causes]
  split <;> simp only [BitVec.getLsbD_or, TripCause.bit_overrun, h, hcause, decide_false, Bool.or_false]

theorem judgeTier_without_overrun {s : State} (h : s.brs.trip.causes.getLsbD 6 = false) :
    (judgeTier s).brs.trip.causes.getLsbD 6 = false := by
  by_cases hv : s.hlc.state.atRest = true ∨ s.moe.last.v ≤ s.brs.tEmg
  · rw [judgeTier_trip hv, h]
  · obtain ⟨-, hemg⟩ := not_or.mp hv
    unfold judgeTier
    split
    · rw [tierCases_of_emergency (Nat.lt_of_not_le hemg)]
      exact trip_without_overrun (by decide) h
    · exact h

theorem judgeTest_without_overrun {s : State} (h : s.brs.trip.causes.getLsbD 6 = false) :
    (judgeTest s).brs.trip.causes.getLsbD 6 = false := by
  have htrigger : ∀ id, (judgeTrigger id s).brs.trip.causes.getLsbD 6 = false := fun id => by
    unfold judgeTrigger
    split
    · cases id with
      | service => simpa [applyBrake] using h
      | emergency => exact trip_without_overrun (by decide) h
    · exact h
  unfold judgeTest
  split
  · exact htrigger _
  · simpa using h
  · exact htrigger _
  · simpa using h
  · exact h

/-- A brake test is triggered in RUNNING alone; its end touches neither the haul nor the Brake Supervisor (R68, R71). -/
theorem judgeTest_of_not_running {s : State} (h : s.hlc.state ≠ .running) :
    (judgeTest s).hlc = s.hlc ∧ (judgeTest s).brs = s.brs := by
  have htrigger : ∀ id, judgeTrigger id s = s := fun id => if_neg fun hrun => h hrun.1
  unfold judgeTest
  split <;> simp [htrigger]

/-! ### The overrun judgement (R53) -/

/-- The state after the tier and the overrun judgement. -/
def State.tierAndOverrun (s : State) : State :=
  if s.hlc.state ≠ .tripped ∧ s.overruns then trip .overrun (judgeTier s) else judgeTier s

theorem brsUpdate_tierAndOverrun (s : State) :
    brsUpdate s = (judgeTest (judgeLoss s.tierAndOverrun)).unsupervised s.moe.last.still :=
  brsUpdate_eq s

@[simp] theorem unsupervised_frame (s : State) (still : Bool) : (s.unsupervised still).hlc = s.hlc ∧
    (s.unsupervised still).brs.trip = s.brs.trip ∧ (s.unsupervised still).brs.history = s.brs.history := by
  unfold State.unsupervised
  split <;> simp

/-- Where the first two judgements leave the haul at rest, the others leave haul and trip as they are. -/
theorem brsUpdate_of_judged_rest {s : State} (h : s.tierAndOverrun.hlc.state.atRest = true) :
    (brsUpdate s).hlc = s.tierAndOverrun.hlc ∧ (brsUpdate s).brs.trip = s.tierAndOverrun.brs.trip ∧
    (brsUpdate s).brs.history = s.tierAndOverrun.brs.history := by
  have hrun : s.tierAndOverrun.hlc.state ≠ .running := fun hr => by simp [hr, HaulState.atRest] at h
  obtain ⟨hhlc, hbrs⟩ := judgeTest_of_not_running hrun
  rw [brsUpdate_tierAndOverrun, judgeLoss_of_rest h]
  simp [hhlc, hbrs]

theorem beyond_iff {s : State} {l : Line} {low high : Stop} (hl : s.line = some l) (hlow : s.stops.head? = some low)
    (hhigh : s.stops.getLast? = some high) : s.Beyond ↔ s.moe.last.status.trusted = true ∧
      (s.moe.last.posA < low.pos - l.overrun ∨ high.pos + l.overrun < s.moe.last.posA) := by
  simp [State.Beyond, hl, hlow, hhigh]

theorem not_beyond_of_no_tables {s : State} (h : s.line = none ∨ s.stops = []) : ¬ s.Beyond := by
  rintro ⟨-, l, low, high, hl, hlow, -⟩
  obtain h | h := h
  · simp [h] at hl
  · simp [h] at hlow

theorem tierAndOverrun_of_beyond {s : State} (hstate : s.hlc.state ≠ .tripped) (h : s.Beyond) :
    s.tierAndOverrun = trip .overrun (judgeTier s) :=
  if_pos ⟨hstate, (overruns_iff s).mpr h⟩

theorem tierAndOverrun_of_within {s : State} (h : s.hlc.state = .tripped ∨ ¬ s.Beyond) :
    s.tierAndOverrun = judgeTier s :=
  if_neg fun ⟨hstate, hover⟩ => h.elim hstate fun hb => hb ((overruns_iff s).mp hover)

/-- The overrun latches where the tier judgement has not tripped (R53, R55). -/
theorem brsUpdate_latches_overrun {s : State} (hstate : s.hlc.state ≠ .tripped) (hfree : s.brs.trip.latched = false)
    (h : s.Beyond) (hv : s.hlc.state.atRest = true ∨ s.moe.last.v ≤ s.brs.tEmg) :
    (brsUpdate s).hlc.state = .tripped ∧ (brsUpdate s).brs.trip =
      ⟨true, some .overrun, 64, s.moe.last.posA, s.moe.last.signed, s.clock⟩ := by
  obtain ⟨hhlc, htrip, -⟩ := trip_latches .overrun (s := judgeTier s) (by rw [judgeTier_trip hv, hfree])
  rw [← tierAndOverrun_of_beyond hstate h] at hhlc htrip
  obtain ⟨hhlc', htrip', -⟩ := brsUpdate_of_judged_rest (s := s) (by rw [hhlc]; rfl)
  rw [hhlc', htrip', hhlc, htrip]
  simp [TripCause.bit, TripCause.num]

/-- The overrun joins the OVERSPEED trip of the same update (R53, R56). -/
theorem brsUpdate_joins_overrun {s : State} {l : Line} (hl : s.line = some l) (hrun : s.hlc.state.atRest = false)
    (hfree : s.brs.trip.latched = false) (h : s.Beyond) (hv : s.brs.tEmg < s.moe.last.v) :
    (brsUpdate s).hlc.state = .tripped ∧ (brsUpdate s).brs.trip =
      ⟨true, some .overspeed, 68, s.moe.last.posA, s.moe.last.signed, s.clock⟩ := by
  have htier : judgeTier s = trip .overspeed s := (judgeTier_of_run hl hrun).trans (tierCases_of_emergency hv)
  obtain ⟨hhlc, htrip, -⟩ := trip_latches .overspeed hfree
  have hstate : s.hlc.state ≠ .tripped := fun ht => by simp [ht, HaulState.atRest] at hrun
  obtain ⟨hhlc', htrip', -⟩ := trip_joins .overrun (s := judgeTier s) (by rw [htier, htrip])
  rw [← tierAndOverrun_of_beyond hstate h, htier] at hhlc' htrip'
  obtain ⟨hhlc'', htrip'', -⟩ := brsUpdate_of_judged_rest (s := s) (by rw [hhlc', hhlc]; rfl)
  rw [hhlc'', htrip'', hhlc', htrip', hhlc, htrip]
  simp [TripCause.bit, TripCause.num]

/-- Within the stops no update takes OVERRUN, and at rest none takes any cause (R53). -/
theorem brsUpdate_of_within {s : State} (h : s.hlc.state = .tripped ∨ ¬ s.Beyond)
    (hset : s.brs.trip.causes.getLsbD 6 = false) : (brsUpdate s).brs.trip.causes.getLsbD 6 = false ∧
      (s.hlc.state.atRest = true → (brsUpdate s).hlc = s.hlc ∧ (brsUpdate s).brs.trip = s.brs.trip ∧
        (brsUpdate s).brs.history = s.brs.history) := by
  have hjudged := tierAndOverrun_of_within h
  refine ⟨?_, fun hrest => ?_⟩
  · rw [brsUpdate_tierAndOverrun, hjudged, (unsupervised_frame _ _).2.1]
    exact judgeTest_without_overrun (by rw [judgeLoss_trip]; exact judgeTier_without_overrun hset)
  · rw [judgeTier_of_rest hrest] at hjudged
    have := brsUpdate_of_judged_rest (s := s) (by rw [hjudged, hrest])
    rwa [hjudged] at this

/-! ### The start of a run without a sheave speed (R51, R88) -/

/-- A haul that has entered RUNNING, DEPARTED raised (R88). -/
def State.departed (s : State) : State :=
  raise .departed (detail4 (indexByte s.hlc.berth) (indexByte s.hlc.target) s.hlc.dir.code
    (byteOf s.env.loadClass.val))
    (envEvaluate (s.withHlc { s.hlc with state := .running, berth := none, armTimer := none }))

theorem startRun_eq (s : State) : startRun s = judgeLoss s.departed := rfl

@[simp] theorem departed_frame (s : State) :
    s.departed.hlc = { s.hlc with state := .running, berth := none, armTimer := none } ∧
    s.departed.brs.lossFlag = s.brs.lossFlag ∧ s.departed.moe = s.moe ∧ s.departed.dru = s.dru ∧
    s.departed.adu = s.adu ∧ s.departed.mga = s.mga ∧ s.departed.test = s.test ∧
    s.departed.env.mode = s.env.mode := by
  have hrun : (s.withHlc { s.hlc with state := .running, berth := none, armTimer := none }).settledMode = s.env.mode :=
    settledMode_of_run rfl
  simp [State.departed, envEvaluate_env, hrun]

theorem departed_count (s : State) : s.departed.rpu.slots[EventKind.departed.code].count =
    satAdd s.rpu.slots[EventKind.departed.code].count 1 := by
  simp only [State.departed, raise_count, if_true, envEvaluate_frame, State.withHlc_rpu]

/-- A run that starts with the sheave speed UNKNOWN turns into a service stop (R51, R88). -/
theorem startRun_of_unknown {s : State} (hknown : s.moe.last.known = false) (hflag : s.brs.lossFlag = false) :
    (startRun s).hlc = { s.hlc with state := .serviceStop, berth := none, armTimer := none,
                                    stopCause := some .speedLost, further := 0 } ∧
    (startRun s).brs.lossFlag = true ∧ (startRun s).rpu.slots[EventKind.departed.code].count =
      satAdd s.rpu.slots[EventKind.departed.code].count 1 := by
  have hrun : s.departed.hlc.state = .running := by simp
  obtain ⟨hlost, -⟩ := lossRaised_of_run (.inl hrun)
  obtain ⟨hhlc, -⟩ := lossRaised_of_running hrun
  obtain ⟨-, -, hcount⟩ := lossRaised_counts s.departed
  rw [startRun_eq, judgeLoss_of_unknown (.inl hrun) (by simpa using hflag) (by simpa using hknown), takeLoss_eq]
  exact ⟨hhlc.trans (by simp), hlost, hcount.trans (departed_count s)⟩

/-! ### The obligation -/

/-- Settles O22: the overrun is judged on the state that the tier judgement leaves, and the judgements after it take no
OVERRUN; a loss is `takeLoss` or `followLoss`, written out as records. -/
theorem overrunAndSpeedLossAreJudged : Obligations.OverrunAndSpeedLossAreJudged := by
  unfold Obligations.OverrunAndSpeedLossAreJudged
  refine ⟨fun s l low high hl hlow hhigh => ?overrun, fun s htables hset => ?noTables, fun s l hl => ?loss,
    fun s hknown hflag => ?start⟩
  case overrun =>
    have hbeyond := beyond_iff hl hlow hhigh
    refine ⟨fun hstate hfree hb hv => ?_, fun hrun hfree hb hv => ?_, fun hb hset => ?_⟩
    · obtain ⟨hhlc, htrip⟩ := brsUpdate_latches_overrun hstate hfree (hbeyond.mpr hb) hv
      exact ⟨hhlc, htrip, by simp, by simp, by simp⟩
    · exact brsUpdate_joins_overrun hl hrun hfree (hbeyond.mpr hb) hv
    · exact brsUpdate_of_within (hb.imp_right fun h hb' => h (hbeyond.mp hb')) hset
  case noTables =>
    obtain ⟨hset', hrest⟩ := brsUpdate_of_within (.inr (not_beyond_of_no_tables htables)) hset
    exact ⟨hset', fun h => ⟨(hrest h).1, (hrest h).2.1⟩⟩
  case loss =>
    have hstarted : s.lossTimerStarted = { start := s.clock, dur := 2 * l.tStaleSheave } := by
      rw [State.lossTimerStarted, param_of_line hl]
    refine ⟨judgeLoss_of_no_run, fun _ hflag hknown => judgeLoss_of_known hflag hknown,
      fun hrun hflag hknown => ?_, fun hrun hflag => ?_⟩
    · obtain ⟨hlost, htimer, -, hadu⟩ := lossRaised_of_run hrun
      obtain ⟨hstops, hlosts, -⟩ := lossRaised_counts s
      obtain ⟨htrip, hmoe, hdru, hmga⟩ := lossRaised_frame s
      simp only [judgeLoss_of_unknown hrun hflag (by simpa using hknown), takeLoss_eq, htimer, hstarted]
      exact ⟨hlost, trivial, hstops, hlosts, lossRaised_of_running, lossRaised_of_stopped, rfl, htrip, hmoe, hdru, hadu,
        hmga⟩
    · rw [judgeLoss_of_flag hrun hflag, followLoss_eq hflag, hstarted]
  case start =>
    obtain ⟨hhlc, hlost, hcount⟩ := startRun_of_unknown hknown hflag
    exact ⟨by rw [hhlc], by rw [hhlc], by rw [hhlc], hlost, hcount⟩

end Sys2Proof.Machine

end

/-! ## Nodes, roles and addresses; requests that are not taken (R47, R108, R160–R164) -/

section

namespace Sys2Proof.Machine

/-! ### Nodes, roles and addresses (R47, R108, R162) -/

theorem nodeOf_eq_some (s : State) (a : Byte) (g : Node) : s.nodeOf a = some g ↔
    a ≠ 0 ∧ a ≠ 63 ∧ ∃ t, s.mga.active.node = some t ∧ t[a.toNat - 1]? = some g := by
  unfold State.nodeOf
  split
  · rename_i h
    simp only [reduceCtorEq, false_iff]
    rintro ⟨h0, h63, -⟩
    exact h.elim h0 h63
  · rename_i h
    obtain ⟨h0, h63⟩ := not_or.mp h
    cases s.mga.active.node with
    | none => simp
    | some t => exact ⟨fun hg => ⟨h0, h63, t, rfl, hg⟩, fun ⟨_, _, t', ht, hg⟩ => by cases ht; exact hg⟩

theorem roleOf_eq_some (s : State) (a : Byte) (r : Role) :
    s.roleOf a = some r ↔ ∃ g, s.nodeOf a = some g ∧ g.role = r :=
  Option.map_eq_some_iff

theorem findRole_of_absent {r : Role} {t : List Node} (h : ∀ x ∈ t, x.role ≠ r) (i : Nat) : findRole r i t = none := by
  induction t generalizing i with
  | nil => rfl
  | cons y rest ih =>
    obtain ⟨hy, hrest⟩ := List.forall_mem_cons.mp h
    rw [findRole, if_neg hy, ih hrest]

/-- The search for a role ends at its first holder (R47). -/
theorem findRole_of_first {r : Role} {t : List Node} {k : Nat} {x : Node} (hx : t[k]? = some x) (hrole : x.role = r)
    (hfirst : ∀ j y, j < k → t[j]? = some y → y.role ≠ r) (i : Nat) : findRole r i t = some (byteOf (i + k + 1)) := by
  induction t generalizing i k with
  | nil => simp at hx
  | cons y rest ih =>
    cases k with
    | zero =>
      obtain rfl : y = x := by simpa using hx
      rw [findRole, if_pos hrole, Nat.add_zero]
    | succ k =>
      have hy : y.role ≠ r := hfirst 0 y (Nat.succ_pos k) rfl
      have hrest := ih (k := k) (by simpa using hx) (fun j z hj hz => hfirst (j + 1) z (by omega) (by simpa using hz)) (i + 1)
      rw [findRole, if_neg hy, hrest]
      congr 2
      omega

theorem addressOf_of_absent {s : State} {r : Role} (h : ∀ t, s.mga.active.node = some t → ∀ x ∈ t, x.role ≠ r) :
    s.addressOf r = 63 := by
  unfold State.addressOf
  cases ht : s.mga.active.node with
  | none => rfl
  | some t => simp only [findRole_of_absent (h t ht), Option.getD_none]

theorem addressOf_of_first {s : State} {r : Role} {t : List Node} {i : Nat} {x : Node}
    (ht : s.mga.active.node = some t) (hx : t[i]? = some x) (hrole : x.role = r)
    (hfirst : ∀ j y, j < i → t[j]? = some y → y.role ≠ r) : s.addressOf r = BitVec.ofNat 8 (i + 1) := by
  simp only [State.addressOf, ht, findRole_of_first hx hrole hfirst, Option.getD_some, byteOf, Nat.zero_add]

/-! ### A frame on the wire (R157, R158) -/

/-- A frame with its computed CRC that finds a place is received as it was sent. -/
theorem receive_wire {used : Nat} {f : Frame} (hu : used < 8) (h : f.payload.length ≤ 56) :
    receive used f.wire = .frame f := by
  have hwire : frameBytes (sealed 0 f.dst f.src f.seq f.kind f.payload) f.kind f.payload = f.wire := frameBytes_eq rfl
  rw [← hwire, receive_frameBytes hu (intact_sealed 0 f.dst f.src f.seq f.kind h)]
  rfl

theorem takeFrame_wire {s : State} {f : Frame} (hs : s.strapFault = false) (hu : s.rif.fifoUsed < 8)
    (h : f.payload.length ≤ 56) (hsrc : f.src ≠ s.oaByte) : takeFrame f.wire s = dealKind f s := by
  simp [takeFrame, receive_wire hu h, hs, disposeGood, hsrc]

/-! ### The three kinds of request (R164) -/

/-- A DOOR_REQ, LINE_CMD or MGMT_REQ. -/
def Frame.IsRequest (f : Frame) : Prop := f.kind = 0x40 ∨ f.kind = 0x50 ∨ f.kind = 0x60

/-- A request of the length of its kind (R170). -/
def Frame.requestFits (f : Frame) : Bool :=
  if f.kind = 0x40 then f.payload.length == 4
  else if f.kind = 0x50 then f.payload.length == 3
  else decide (2 ≤ f.payload.length)

/-- A request of the manager comes from MA, any other from the console (R162). -/
def State.mayRequest (s : State) (f : Frame) : Bool :=
  if f.kind = 0x60 then f.src == s.maByte else s.roleOf f.src == some .console

theorem mayRequest_iff (s : State) (f : Frame) : s.mayRequest f = true ↔
    if f.kind = 0x60 then f.src = s.maByte else s.roleOf f.src = some .console := by
  unfold State.mayRequest
  split
  · exact beq_iff_eq
  · exact beq_iff_eq

/-- Every request is dealt with by the same order of checks. -/
theorem dealKind_of_request {f : Frame} (h : f.IsRequest) (s : State) :
    ∃ hand, dealKind f s = dealRequest f f.requestFits (s.mayRequest f) hand s := by
  obtain h | h | h := h
  · exact ⟨takeDoorReq f, by simp [dealKind, h, dealDoorReq, Frame.requestFits, State.mayRequest]⟩
  · exact ⟨takeLineCmd f, by simp [dealKind, h, dealLineCmd, Frame.requestFits, State.mayRequest]⟩
  · exact ⟨takeRequest f, by simp [dealKind, h, dealMgmtReq, Frame.requestFits, State.mayRequest]⟩

section

variable {s : State} {f : Frame}

/-- A wrong length is counted before the role is looked at; only a frame to another node goes on (log 12). -/
theorem dealKind_of_malformed (h : f.IsRequest) (hfits : f.requestFits = false) : dealKind f s =
    if f.dst = s.oaByte then countRing .malformed s else pushFifo f .plain (countRing .malformed s) := by
  obtain ⟨hand, hdeal⟩ := dealKind_of_request h s
  simp [hdeal, dealRequest, hfits]

theorem dealKind_of_elsewhere (h : f.IsRequest) (hfits : f.requestFits = true) (hdst : f.dst ≠ s.oaByte) :
    dealKind f s = pushFifo f .plain s := by
  obtain ⟨hand, hdeal⟩ := dealKind_of_request h s
  simp [hdeal, dealRequest, hfits, hdst]

theorem dealKind_of_wrong_sender (h : f.IsRequest) (hfits : f.requestFits = true) (hdst : f.dst = s.oaByte)
    (hsender : s.mayRequest f = false) : dealKind f s = mismatch f 2 s := by
  obtain ⟨hand, hdeal⟩ := dealKind_of_request h s
  simp [hdeal, dealRequest, hfits, hdst, hsender]

theorem dealKind_of_full (h : f.IsRequest) (hfits : f.requestFits = true) (hdst : f.dst = s.oaByte)
    (hsender : s.mayRequest f = true) (hfull : 4 ≤ s.rif.reply.length) : dealKind f s = dropRequest f s := by
  obtain ⟨hand, hdeal⟩ := dealKind_of_request h s
  simp [hdeal, dealRequest, hfits, hdst, hsender, takeIfRoom, Nat.not_lt.mpr hfull]

end

/-! ### The obligation -/

theorem rowElapsed_of_rowFrame {c : Instr} {arr : Arrival} {kind : Byte} {payload : List Byte}
    (h : rowFrame c = some (arr, kind, payload)) : rowElapsed c = some arr.elapsed := by
  cases c <;> cases h <;> rfl

/-- A frame row that is no more than dealt with by the ring ends its step there. -/
theorem exec_of_dealt {c : Instr} {s : State} {arr : Arrival} {kind : Byte} {payload : List Byte}
    (hc : rowFrame c = some (arr, kind, payload)) (h : Arrives s arr kind payload) (hfrom : arr.src ≠ s.oaByte)
    {u : State} (hu : dealKind (frameOf arr kind payload) (begin arr.elapsed s) = u) (hhlc : u.hlc = s.hlc) :
    exec c s = .next u := by
  rw [exec_of_running (rowElapsed_of_rowFrame hc) h.running, rowAct_of_arrives hc h hfrom, hu,
    settle_of_same (by rw [hhlc]; rfl)]

/-- Settles O44: the tables say the nodes and addresses; a request goes through the order of checks of
`dealKind_of_request`, and none that stops at one of them acts. -/
theorem requestsNeedTheirSenderAndRoomForTheReply : Obligations.RequestsNeedTheirSenderAndRoomForTheReply := by
  unfold Obligations.RequestsNeedTheirSenderAndRoomForTheReply
  refine ⟨fun s a => ⟨nodeOf_eq_some s a, roleOf_eq_some s a⟩,
    fun s r => ⟨addressOf_of_absent, fun t i x => addressOf_of_first⟩,
    fun s e f hrun hstraps hroom hlen hsrc hwrong => ?malformed,
    fun c s arr kind payload hc h hfrom hright => ?_⟩
  case malformed =>
    have hrequest : f.IsRequest := hwrong.imp And.left (Or.imp And.left And.left)
    have hfits : f.requestFits = false := by
      obtain ⟨hk, hn⟩ | ⟨hk, hn⟩ | ⟨hk, hn⟩ := hwrong <;> simp [Frame.requestFits, hk, hn]
    have hact : rowAct (.frameForward e f.wire) (begin e s) = dealKind f (begin e s) :=
      takeFrame_wire (s := begin e s) hstraps hroom hlen hsrc
    rw [dealKind_of_malformed hrequest hfits] at hact
    rw [exec_of_running (e := e) rfl hrun, hact, begin_oaByte]
    by_cases hdst : f.dst = s.oaByte
    · simp only [if_pos hdst]
      exact congrArg _ (settle_of_same rfl)
    · simp only [if_neg hdst]
      exact congrArg _ (settle_of_same rfl)
  have hrequest : (frameOf arr kind payload).IsRequest := hright.imp And.left (Or.imp And.left And.left)
  have hfits : (frameOf arr kind payload).requestFits = true := by
    obtain ⟨rfl, hn⟩ | ⟨rfl, hn⟩ | ⟨rfl, hn⟩ := hright <;> simp [Frame.requestFits, frameOf, hn]
  have hsender : (begin arr.elapsed s).mayRequest (frameOf arr kind payload) = true ↔
      if kind = 0x60 then arr.src = s.maByte else s.roleOf arr.src = some .console :=
    mayRequest_iff _ _
  refine ⟨fun hdst => ?_, fun hdst hwrong => ?_, fun hdst hmay hfull => ?_⟩
  · exact exec_of_dealt hc h hfrom (dealKind_of_elsewhere hrequest hfits hdst) rfl
  · exact exec_of_dealt hc h hfrom (dealKind_of_wrong_sender hrequest hfits hdst
      (by simpa using fun hmay => hwrong (hsender.mp hmay))) (raise_frame _ _ _).2.2.2.2.2.2.2.2.2.2.2.1
  · exact exec_of_dealt hc h hfrom (dealKind_of_full hrequest hfits hdst (hsender.mpr hmay) hfull) (by simp)

end Sys2Proof.Machine

end

/-! ## SETPOINTs as they leave OUT (R46, R47, R88, R163) -/

section

namespace Sys2Proof.Machine

/-! ### What OUT sends stands through events, demands and the loss of speed -/

theorem placeKind_sending (k : Fin 28) (s : State) : (placeKind k s).rif.sending = s.rif.sending := by
  unfold placeKind
  split <;> simp [placeReport]

theorem selectUpTo_sending (n : Nat) (s : State) : (selectUpTo n s).rif.sending = s.rif.sending := by
  induction n generalizing s with
  | zero => rfl
  | succ n ih =>
    unfold selectUpTo
    split
    · cases s.nextKind with
      | some k => exact (ih _).trans (placeKind_sending k s)
      | none => rfl
    · rfl

@[simp] theorem selectReports_sending (s : State) : (selectReports s).rif.sending = s.rif.sending := by
  unfold selectReports
  split
  · rfl
  · exact selectUpTo_sending _ _

@[simp] theorem raise_sending (k : EventKind) (detail : BitVec 32) (s : State) :
    (raise k detail s).rif.sending = s.rif.sending := by
  rw [raise_eq]
  split
  · exact selectReports_sending _
  · rfl

@[simp] theorem placeForce_sending (s : State) : (placeForce s).rif.sending = s.rif.sending := by
  simp only [placeForce, State.withRif_rif]
  split <;> rfl

@[simp] theorem demand_sending (cause : StopCause) (s : State) : (demand cause s).rif.sending = s.rif.sending := by
  cases h : s.hlc.state with
  | armed => simp [demand_of_armed h, raiseStop, returnToOrigin]
  | running => simp [demand_of_running h, raiseStop, enterServiceStop]
  | serviceStop =>
    simp only [demand_of_stopped h]
    split <;> simp [raiseStop, abortService]
  | _ => simp [demand_at_rest (s := s) (by rw [h]; rfl), raiseStop]

@[simp] theorem judgeLoss_sending (s : State) : (judgeLoss s).rif.sending = s.rif.sending := by
  unfold judgeLoss
  split
  · split
    · rename_i hflag
      rw [followLoss_eq hflag]
    split
    · rfl
    · simp [takeLoss_eq, State.lossRaised]
  · rfl

@[simp] theorem departed_rif (s : State) :
    s.departed.rif.sending = s.rif.sending ∧ s.departed.rif.fifo = s.rif.fifo := by
  simp [State.departed]

/-! ### The start of the run (R88) -/

/-- The loss of speed judged on a run leaves the haul in it or in its service stop. -/
theorem judgeLoss_of_run {s : State} (h : s.hlc.state = .running) : (judgeLoss s).hlc.state.atRest = false := by
  cases hflag : s.brs.lossFlag with
  | true =>
    rw [judgeLoss_of_flag (.inl h) hflag, followLoss_eq hflag]
    exact congrArg HaulState.atRest h
  | false =>
    cases hknown : s.moe.last.known with
    | true => rw [judgeLoss_of_known hflag hknown, h]; rfl
    | false =>
      obtain ⟨-, -, hstop, -⟩ := lossRaised_of_run (.inl h)
      rw [judgeLoss_of_unknown (.inl h) hflag hknown, takeLoss_eq, hstop]
      rfl

theorem startRun_runs (s : State) : (startRun s).hlc.state.atRest = false := by
  rw [startRun_eq]
  exact judgeLoss_of_run (by simp)

/-! ### A frame that leaves the FIFO (R163) -/

/-- The frame that leaves for a place of the FIFO. -/
def State.leaving (s : State) (x : FifoEntry) : Frame :=
  match x.note with
  | .plain => x.frame
  | .answered => x.frame
  | .zeroedSetpoint => x.frame.withSpeed 0 flagZeroed
  | .consoleSetpoint =>
    let c := clamp s.hlc.state s.hlc.dir s.env.e (intAt16 x.frame.payload 0)
    x.frame.withSpeed c.1 c.2

theorem sendForward_sending (x : FifoEntry) (s : State) :
    (sendForward x s).rif.sending = some ⟨s.leaving x, true⟩ := by
  unfold sendForward State.leaving
  cases x.note with
  | consoleSetpoint =>
    simp only [sendConsole]
    split
    · simp [startRun_eq, countRing, Rif.count, putOut]
    · rfl
  | _ => rfl

/-- A frame that leaves keeps the haul state or starts the run. -/
theorem sendForward_haul (x : FifoEntry) (s : State) :
    (sendForward x s).hlc.state = s.hlc.state ∨ (sendForward x s).hlc.state.atRest = false := by
  unfold sendForward
  cases x.note with
  | consoleSetpoint =>
    simp only [sendConsole]
    split
    · exact .inr (startRun_runs _)
    · exact .inl rfl
  | _ => exact .inl rfl

/-! ### The boundary -/

@[simp] theorem sendInsertion_hlc (s : State) : (sendInsertion s).hlc = s.hlc := by
  unfold sendInsertion
  simp only
  split <;> simp [sendInserted, putOut, setCount]

theorem boundary_haul (s : State) :
    (boundary s).hlc.state = s.hlc.state ∨ (boundary s).hlc.state.atRest = false := by
  unfold boundary arbitrate arbitrateFault
  simp only
  split
  · split
    · exact sendForward_haul _ _
    · exact .inl rfl
  · split
    · exact .inl rfl
    · split
      · exact .inl (congrArg Hlc.state (sendInsertion_hlc _))
      · exact sendForward_haul _ _
    · split <;> exact .inl (congrArg Hlc.state (sendInsertion_hlc _))

/-- No boundary ends in an entry to PARKED or TRIPPED, so none takes a pending activation. -/
theorem exec_outBoundary {s : State} (hrun : s.inReset = false) (e : Time) :
    exec (.outBoundary e) s = .next (boundary (begin e s)) := by
  rw [exec_of_running (e := e) rfl hrun]
  exact congrArg _ ((boundary_haul (begin e s)).elim settle_of_same settle_of_run)

/-- The state in which the oldest frame of the FIFO is taken out to leave. -/
def State.oldestTaken (s : State) (rest : List FifoEntry) : State :=
  s.withRif { s.rif with
    fifo := rest, sending := none, backToBack := if s.rif.insertWaits then s.rif.backToBack + 1 else 0 }

theorem arbitrate_of_oldest {s : State} {x : FifoEntry} {rest : List FifoEntry} (hforce : s.rif.force = none)
    (hturn : ¬ (s.rif.backToBack = 4 ∧ s.rif.insertWaits = true)) (hfifo : s.rif.fifo = x :: rest) :
    arbitrate s = sendOldest x rest s := by
  simp only [arbitrate, hforce, hfifo, if_neg hturn]

theorem boundary_of_oldest {s : State} {x : FifoEntry} {rest : List FifoEntry} (hstraps : s.strapFault = false)
    (hforce : s.rif.force = none) (hturn : ¬ (s.rif.backToBack = 4 ∧ s.rif.insertWaits = true))
    (hfifo : s.rif.fifo = x :: rest) : boundary s = sendForward x (s.oldestTaken rest) := by
  have hgood : boundary s = arbitrate (s.withRif { s.rif with sending := none }) :=
    if_neg (ne_true_of_eq_false hstraps)
  exact hgood.trans (arbitrate_of_oldest hforce hturn hfifo)

/-- A forwarded SETPOINT with its speed and flags, and the counts of its leaving (R46, R168). -/
theorem setpoint_out {s : State} {f : Frame} {v1 v0 a1 a0 fl : Byte} (hpayload : f.payload = [v1, v0, a1, a0, fl])
    (v : Int) (flag : Byte) (rest : List FifoEntry) :
    countRing .rewritten (putOut (f.withSpeed v flag) true (s.oldestTaken rest)) =
      { s with rif := { s.rif.count .rewritten with
          fifo := rest
          sending := some ⟨{ f with payload := bytes16 (BitVec.ofInt 16 v) ++ [a1, a0, flag] }, true⟩
          backToBack := if s.rif.insertWaits then s.rif.backToBack + 1 else 0 } } := by
  simp [countRing, putOut, State.oldestTaken, Rif.count, Frame.withSpeed, setpointPayload, accelBytes, hpayload,
    beInt16, byteAt, State.withRif]

/-- The clamp in one condition: out of a run and against its direction the speed is zeroed alike (R46). -/
theorem clamp_eq (st : HaulState) (dir : Direction) (e : Nat) (v : Int) : clamp st dir e v =
    if ¬ (st = .armed ∨ st = .running) ∨ ((dir = .up ∧ v < 0) ∨ (dir = .down ∧ 0 < v)) then (0, 2)
    else if e < v.natAbs then ((if v < 0 then -(e : Int) else e), 1) else (v, 0) := by
  unfold clamp
  by_cases hst : st = .armed ∨ st = .running
  · simp [hst, flagZeroed, flagClamped]
  · simp [hst, flagZeroed]

/-- Settles O46: the oldest frame is taken out and sent as its note says; the first one in ARMED that leaves with a
speed starts the run. -/
theorem setpointsAreClampedAsTheyLeave : Obligations.SetpointsAreClampedAsTheyLeave := by
  unfold Obligations.SetpointsAreClampedAsTheyLeave
  intro s e f rest v1 v0 a1 a0 fl hrun hstraps hforce hturn hpayload v drives against sent out rif
  have hsent : clamp s.hlc.state s.hlc.dir s.env.e (intAt16 f.payload 0) = sent := by
    rw [hpayload]
    exact clamp_eq _ _ _ _
  have hboundary : ∀ note, s.rif.fifo = ⟨f, note⟩ :: rest →
      exec (.outBoundary e) s = .next (sendForward ⟨f, note⟩ ((begin e s).oldestTaken rest)) := fun note hfifo => by
    rw [exec_outBoundary hrun, boundary_of_oldest (s := begin e s) hstraps hforce hturn hfifo]
  have hconsole : s.rif.fifo = ⟨f, .consoleSetpoint⟩ :: rest → exec (.outBoundary e) s = .next
      (if s.hlc.state = .armed ∧ sent.1 ≠ 0 then startRun { begin e s with rif := rif sent.1 sent.2 }
        else { begin e s with rif := rif sent.1 sent.2 }) := fun hfifo => by
    rw [hboundary _ hfifo]
    have hout := setpoint_out (s := begin e s) hpayload sent.1 sent.2 rest
    rw [← hsent] at hout ⊢
    exact congrArg (fun u => Host.Outcome.next (if s.hlc.state = .armed ∧ _ then startRun u else u)) hout
  refine ⟨fun hfifo => ?_, fun hfifo => ⟨fun hstays => ?_, fun harmed hmoves => ?_, fun harmed hmoves hknown hflag => ?_⟩⟩
  · rw [hboundary _ hfifo]
    exact congrArg _ (setpoint_out (s := begin e s) hpayload 0 2 rest)
  · rw [hconsole hfifo, if_neg (fun h => hstays.elim (· h.1) h.2)]
  · rw [hconsole hfifo, if_pos ⟨harmed, hmoves⟩]
    rfl
  · refine ⟨_, (hconsole hfifo).trans (by rw [if_pos ⟨harmed, hmoves⟩]), ?_⟩
    rw [startRun_eq, judgeLoss_of_known (by simpa using hflag) (by simpa using hknown)]
    have hcount := departed_count { begin e s with rif := rif sent.1 sent.2 }
    exact ⟨by simp, by simp [rif], by simp [rif], by simp, hcount, by simp⟩

/-! ### No SETPOINT above the envelope -/

/-- A frame that waits in one of the insertion classes DOOR, REPLY, REPORT and BEACON (R165). -/
def Rif.Inserts (r : Rif) (f : Frame) : Prop :=
  (∃ x ∈ r.door, x.frame = f) ∨ f ∈ r.reply ∨ (∃ x ∈ r.report, x.frame = f) ∨ r.beacon = some f

theorem sendInsertion_sending {s : State} {x : Sending} (hidle : s.rif.sending = none)
    (h : (sendInsertion s).rif.sending = some x) : s.rif.Inserts x.frame := by
  have hframe : ∀ f, some (⟨f, false⟩ : Sending) = some x → f = x.frame := fun f hx => by cases hx; rfl
  unfold sendInsertion at h
  simp only at h
  split at h
  next hdoor => exact .inl ⟨_, hdoor ▸ List.mem_cons_self, hframe _ h⟩
  next f _ _ hreply => exact .inr (.inl (hreply ▸ hframe _ h ▸ List.mem_cons_self))
  next hreport =>
    rw [selectReports_sending] at h
    exact .inr (.inr (.inl ⟨_, hreport ▸ List.mem_cons_self, hframe _ h⟩))
  next hbeacon => exact .inr (.inr (.inr (hbeacon.trans (congrArg some (hframe _ h)))))
  next => cases hidle.symm.trans h

/-- What OUT may start: the forced set-point, a frame as it leaves the FIFO, or an inserted one (R167). -/
def State.MayStart (s : State) (f : Frame) : Prop :=
  s.rif.force = some f ∨ (∃ x ∈ s.rif.fifo, s.leaving x = f) ∨ s.rif.Inserts f

theorem sendForward_starts {s u : State} {x : Sending} {y : FifoEntry} (h : (sendForward y u).rif.sending = some x)
    (hy : y ∈ s.rif.fifo) (hleaving : u.leaving y = s.leaving y) : s.MayStart x.frame := by
  rw [sendForward_sending, hleaving] at h
  cases h
  exact .inr (.inl ⟨y, hy, rfl⟩)

theorem sendOldest_starts {s : State} {x : Sending} {y : FifoEntry} {rest : List FifoEntry}
    (hfifo : s.rif.fifo = y :: rest) (h : (sendOldest y rest s).rif.sending = some x) : s.MayStart x.frame :=
  sendForward_starts h (hfifo ▸ List.mem_cons_self) rfl

theorem arbitrate_starts {s : State} {x : Sending} (hidle : s.rif.sending = none)
    (h : (arbitrate s).rif.sending = some x) : s.MayStart x.frame := by
  have hcounted := sendInsertion_sending (s := countRing .insertTurns s) (x := x) hidle
  unfold arbitrate at h
  simp only at h
  split at h
  next hforce => cases h; exact .inl hforce
  next hfifo =>
    split at h
    · exact .inr (.inr (hcounted h))
    · exact sendOldest_starts hfifo h
  next =>
    split at h
    · exact .inr (.inr (hcounted h))
    · exact .inr (.inr (sendInsertion_sending hidle h))

theorem arbitrateFault_starts {s : State} {x : Sending} (hidle : s.rif.sending = none)
    (h : (arbitrateFault s).rif.sending = some x) : s.MayStart x.frame := by
  unfold arbitrateFault at h
  split at h
  next hfifo => exact sendForward_starts h (hfifo ▸ List.mem_cons_self) rfl
  next => cases hidle.symm.trans h

theorem boundary_starts {s : State} {x : Sending} (h : (boundary s).rif.sending = some x) : s.MayStart x.frame := by
  unfold boundary at h
  simp only at h
  split at h
  · exact arbitrateFault_starts (s := s.withRif { s.rif with sending := none }) rfl h
  · exact arbitrate_starts (s := s.withRif { s.rif with sending := none }) rfl h

/-- A set-point's speed is within the envelope, of a run, and not against its direction (R46). -/
def State.SpeedSafe (s : State) (v : Int) : Prop :=
  v.natAbs ≤ s.env.e ∧ (v ≠ 0 → s.hlc.state = .armed ∨ s.hlc.state = .running) ∧
    (s.hlc.dir = .up → 0 ≤ v) ∧ (s.hlc.dir = .down → v ≤ 0)

theorem speedSafe_zero (s : State) : s.SpeedSafe 0 := by
  simp [State.SpeedSafe]

theorem speedSafe_clamp (s : State) (v : Int) : s.SpeedSafe (clamp s.hlc.state s.hlc.dir s.env.e v).1 := by
  rw [clamp_eq]
  split
  · exact speedSafe_zero s
  rename_i h
  obtain ⟨hruns, hdir⟩ := not_or.mp h
  have hup : s.hlc.dir = .up → 0 ≤ v := fun hdir' => not_lt.mp fun hv => hdir (.inl ⟨hdir', hv⟩)
  have hdown : s.hlc.dir = .down → v ≤ 0 := fun hdir' => not_lt.mp fun hv => hdir (.inr ⟨hdir', hv⟩)
  split
  · refine ⟨?_, fun _ => not_not.mp hruns, fun h => ?_, fun h => ?_⟩ <;> dsimp only
    · split <;> omega
    · rw [if_neg (not_lt.mpr (hup h))]
      omega
    · have := hdown h
      rw [if_pos (by omega)]
      omega
  · exact ⟨not_lt.mp ‹_›, fun _ => not_not.mp hruns, hup, hdown⟩

/-- A speed of magnitude within the 16-bit field is read back as it was written. -/
theorem intAt16_withSpeed (f : Frame) {v : Int} (h : v.natAbs ≤ 32767) (flag : Byte) :
    intAt16 (f.withSpeed v flag).payload 0 = v := by
  have hword : wordAt (f.withSpeed v flag).payload 0 = BitVec.ofInt 16 v := wordAt_bytes16 _
  rw [intAt16, hword, BitVec.toInt_ofInt]
  exact Int.bmod_eq_of_le (by omega) (by omega)

theorem SetpointSound.speedSafe {s : State} (h : SetpointSound s) (he : s.env.e ≤ 32767) {f : Frame}
    (hf : s.MayStart f) (hkind : f.kind = 0x20) : s.SpeedSafe (intAt16 f.payload 0) := by
  obtain hforce | ⟨x, hx, rfl⟩ | ⟨x, hx, rfl⟩ | hreply | ⟨x, hx, rfl⟩ | hbeacon := hf
  · rw [(h.force f hforce).2]
    exact speedSafe_zero s
  · have hnote : x.note = .consoleSetpoint ∨ x.note = .zeroedSetpoint := by
      refine (h.fifo x hx).1.mp ?_
      revert hkind
      unfold State.leaving
      cases x.note <;> exact id
    obtain hconsole | hzeroed := hnote
    · have hsafe := speedSafe_clamp s (intAt16 x.frame.payload 0)
      simp only [State.leaving, hconsole]
      rw [intAt16_withSpeed _ (hsafe.1.trans he)]
      exact hsafe
    · simp only [State.leaving, hzeroed]
      rw [intAt16_withSpeed _ (by decide)]
      exact speedSafe_zero s
  · exact absurd hkind (h.door x hx)
  · exact absurd hkind (h.reply f hreply)
  · exact absurd hkind (h.report x hx)
  · exact absurd hkind (h.beacon f hbeacon)

/-- Settles O47: what OUT starts comes from one of the classes, and each holds safe set-points alone. -/
theorem noSetpointLeavesAboveTheEnvelope : Obligations.NoSetpointLeavesAboveTheEnvelope := by
  unfold Obligations.NoSetpointLeavesAboveTheEnvelope
  intro s t e x hrun hsound he hexec hsending hkind
  rw [exec_outBoundary hrun] at hexec
  cases hexec
  exact hsound.speedSafe he (boundary_starts (s := begin e s) hsending) hkind

end Sys2Proof.Machine

end

/-! ## The status pages (R183, R193) -/

section

namespace Sys2Proof.Machine

/-! ### Fields read back -/

theorem wordAt_of_bytes {p : List Byte} {i : Nat} {w : BitVec 16}
    (h : [byteAt p i, byteAt p (i + 1)] = bytes16 w) : wordAt p i = w := by
  obtain ⟨h1, h0⟩ : byteAt p i = w.extractLsb' 8 8 ∧ byteAt p (i + 1) = w.extractLsb' 0 8 := by
    simpa [bytes16] using h
  rw [wordAt, h1, h0]
  exact wordAt_bytes16 w

theorem longAt_of_bytes {p : List Byte} {i : Nat} {x : BitVec 32}
    (h : [byteAt p i, byteAt p (i + 1), byteAt p (i + 2), byteAt p (i + 3)] = bytes32 x) : longAt p i = x := by
  obtain ⟨h3, h2, h1, h0⟩ : byteAt p i = x.extractLsb' 24 8 ∧ byteAt p (i + 1) = x.extractLsb' 16 8 ∧
      byteAt p (i + 2) = x.extractLsb' 8 8 ∧ byteAt p (i + 3) = x.extractLsb' 0 8 := by
    simpa [bytes32] using h
  rw [longAt, wordAt, wordAt, h3, h2, h1, h0]
  ext k hk
  grind

/-! ### Bytes of flags -/

/-- The bits of a byte of two flags. -/
theorem bits_of_two (x y : Bool) (i : Fin 8) :
    ((if x then 1 else 0) ||| (if y then 2 else 0) : Byte).getLsbD i = [x, y].getD i false := by
  revert x y i
  decide

/-- The bits of a byte of three flags. -/
theorem bits_of_three (x y z : Bool) (i : Fin 8) :
    ((if x then 1 else 0) ||| (if y then 2 else 0) ||| (if z then 4 else 0) : Byte).getLsbD i =
      [x, y, z].getD i false := by
  revert x y z i
  decide

/-- The bits of a mask that is built one member at a time. -/
theorem getLsbD_foldl_bits {α : Type} {n : Nat} (f : α → Bool) (bit : α → BitVec n) (l : List α) (m : BitVec n)
    (i : Nat) : (l.foldl (fun m k => if f k then m ||| bit k else m) m).getLsbD i =
      (m.getLsbD i || l.any fun k => f k && (bit k).getLsbD i) := by
  induction l generalizing m with
  | nil => simp
  | cons k rest ih =>
    rw [List.foldl_cons, ih, List.any_cons]
    cases hk : f k <;> simp [Bool.or_assoc]

theorem mask_bit (a : ActiveTables) (t : TableId) : a.mask.getLsbD t.idx = a.isActive t := by
  rw [ActiveTables.mask, getLsbD_foldl_bits]
  cases t <;> simp [allTables, TableId.idx]

theorem pendingFlags_eq (r : Rpu) (i : Nat) : r.pendingFlags.getLsbD i = true ↔
    ∃ k : Fin 28, k.val = i ∧ r.slots[k].entry.isSome = true := by
  rw [Rpu.pendingFlags, getLsbD_foldl_bits]
  simp only [BitVec.getLsbD_ofNat, Nat.testBit_two_pow, List.any_eq_true, Bool.or_eq_true, Bool.and_eq_true,
    decide_eq_true_eq, List.mem_finRange, true_and]
  constructor
  · rintro (h | ⟨k, hset, -, hk⟩)
    · simp at h
    · exact ⟨k, hk, hset⟩
  · rintro ⟨k, hk, hset⟩
    exact .inr ⟨k, hset, by omega, hk⟩

theorem pendingFlags_bit (r : Rpu) (k : Fin 28) : r.pendingFlags.getLsbD k = r.slots[k].entry.isSome := by
  rw [Bool.eq_iff_iff, pendingFlags_eq]
  exact ⟨fun ⟨j, hj, h⟩ => Fin.ext hj ▸ h, fun h => ⟨k, rfl, h⟩⟩

theorem pendingFlags_above (r : Rpu) {i : Nat} (h : 28 ≤ i) : r.pendingFlags.getLsbD i = false :=
  Bool.eq_false_iff.mpr fun hset => by
    obtain ⟨k, hk, -⟩ := (pendingFlags_eq r i).mp hset
    omega

/-! ### Timers -/

theorem left32_eq (t : Option Timer) (now : Time) : left32 t now =
    bytes32 (((t.map fun x => x.dur - (now - x.start).toNat).map (BitVec.ofNat 32)).getD 0xFFFFFFFF) := by
  cases t <;> rfl

theorem left16_eq (t : Option Timer) (now : Time) : left16 t now =
    bytes16 (((t.map fun x => x.dur - (now - x.start).toNat).map fun m => BitVec.ofNat 16 (min m 65535)).getD 0xFFFF) := by
  cases t <;> rfl

theorem running_eq (t : Option Timer) (now : Time) :
    running t now = t.any fun x => decide ((now - x.start).toNat < x.dur) := by
  cases t with
  | none => rfl
  | some x =>
    have hlast : (!x.reached now) = decide (since x.start now < x.dur) := by
      rw [Timer.reached, ← decide_not]
      simp only [not_le]
    exact hlast

/-! ### Parts of pages -/

theorem codes_low (c : ShadowState) (r : Byte) : (c.code ||| (r <<< 4)) &&& 3 = c.code := by
  cases c <;> revert r <;> decide

theorem codes_high (c : ShadowState) (r : FailReason) : (c.code ||| (r.code <<< 4)) >>> 4 = r.code := by
  cases c <;> cases r <;> decide

/-- The five bytes of a shadow (R183). -/
theorem shadow_reads {x : Shadow} {p : List Byte} {o : Nat} (h : [byteAt p o, byteAt p (o + 1), byteAt p (o + 2),
    byteAt p (o + 3), byteAt p (o + 4)] = x.statusBytes) :
    byteAt p o &&& 3 = x.state.code ∧ wordAt p (o + 1) = BitVec.ofNat 16 x.entries.length ∧
    (∀ i why, x.state = .invalid → x.failure = some (i, why) →
      byteAt p o >>> 4 = why.code ∧ wordAt p (o + 3) = BitVec.ofNat 16 i) ∧
    (x.state ≠ .invalid → byteAt p o >>> 4 = 0 ∧ wordAt p (o + 3) = 0) := by
  obtain ⟨h0, h1, h2, h3, h4⟩ : byteAt p o = x.state.code ||| (x.failing.2 <<< 4) ∧ _ ∧ _ ∧ _ ∧ _ := by
    simpa [Shadow.statusBytes, be16, bytes16] using h
  have hcount : wordAt p (o + 1) = BitVec.ofNat 16 x.entries.length := wordAt_of_bytes (by rw [h1, h2]; rfl)
  have hindex : wordAt p (o + 3) = BitVec.ofNat 16 x.failing.1 := wordAt_of_bytes (by rw [h3, h4]; rfl)
  refine ⟨by rw [h0, codes_low], hcount, fun i why hinvalid hfailure => ?_, fun hsound => ?_⟩
  · have hfailing : x.failing = (i, why.code) := by simp [Shadow.failing, hinvalid, hfailure]
    rw [h0, hindex, hfailing, codes_high]
    exact ⟨rfl, rfl⟩
  · have hfailing : x.failing = (0, 0) := by
      unfold Shadow.failing
      split
      · contradiction
      · rfl
    rw [h0, hindex, hfailing]
    refine ⟨?_, rfl⟩
    cases x.state <;> decide

theorem channel_reads (c : Channel) :
    c.statusByte &&& 3 = c.state.code ∧ c.statusByte.getLsbD 7 = c.saturated := by
  unfold Channel.statusByte
  cases c.state <;> cases c.saturated <;> decide

/-- The five bytes of a car on page 6 (R117). -/
theorem carStatus_reads (s : State) (car : Car) : ∃ left right age, s.carStatusBytes car =
      [left, right, flagByte (running (s.dru.reports car).expiry s.clock)] ++ bytes16 age ∧
    ((s.dru.reports car).report = none → age = 0xFFFF) ∧
    ∀ r, (s.dru.reports car).report = some r → left = r.left.byte ∧ right = r.right.byte ∧
      age = BitVec.ofNat 16 (min (s.clock - r.arrival).toNat 65535) := by
  cases h : (s.dru.reports car).report with
  | none =>
    refine ⟨_, _, 0xFFFF, by simp only [State.carStatusBytes, h]; rfl, fun _ => rfl, fun r hr => ?_⟩
    cases hr
  | some x =>
    refine ⟨x.left.byte, x.right.byte, BitVec.ofNat 16 (min (s.clock - x.arrival).toNat 65535),
      by simp only [State.carStatusBytes, h]; rfl, fun hr => ?_, fun r hr => ?_⟩
    · cases hr
    · cases hr
      exact ⟨rfl, rfl, rfl⟩

theorem grantsOf_eq (a : Adu) (car : Car) : a.grantsOf car = a.grants.countP fun g => g.car == car :=
  List.countP_eq_length_filter.symm

theorem earliest_of_none {a : Adu} (now : Time) (h : a.grants = []) : a.earliest now = none := by
  rw [Adu.earliest, h]
  rfl

/-- The least of the ms left is that of a grant that no other undercuts (R151). -/
theorem earliest_of_least {a : Adu} {now : Time} {g : Grant} (hg : g ∈ a.grants)
    (h : ∀ g' ∈ a.grants, g.expiry.left now ≤ g'.expiry.left now) : a.earliest now = some (g.expiry.left now) := by
  rw [Adu.earliest, List.min?_eq_some_iff]
  exact ⟨List.mem_map_of_mem hg, by simpa using h⟩

theorem fifoUsed_eq (r : Rif) : r.fifoUsed = r.fifo.length + if r.sending.any (·.fromFifo) then 1 else 0 := by
  unfold Rif.fifoUsed
  cases r.sending <;> rfl

theorem page_none {s : State} {n : Nat} (h : 9 < n) : s.page n = none := by
  obtain ⟨m, rfl⟩ : ∃ m, n = m + 10 := ⟨n - 10, by omega⟩
  rfl

theorem levels_bits (x : Brs) (i : Fin 8) : x.levels.getLsbD i =
    [decide (x.chain.level = .closed), decide (x.key.level = .closed)].getD i false := by
  have h := bits_of_two (decide (x.chain.level = .closed)) (decide (x.key.level = .closed)) i
  simp only [decide_eq_true_eq] at h
  exact h

theorem stopCauseByte_of_some {s : State} {c : StopCause} (h : s.hlc.stopCause = some c) :
    s.stopCauseByte = c.code := by
  simp only [State.stopCauseByte, h]

theorem firstCauseCode_eq (c : Option TripCause) : firstCauseCode c = (c.map TripCause.code).getD 0 := by
  cases c <;> rfl

theorem originCode_eq (o : Option Origin) : originCode o = (o.map fun x => x.toState.code).getD 0 := by
  cases o <;> rfl

/-- Settles O50: every page is a run of fields, each of which reads back at its offset. -/
theorem statusPagesShowTheState : Obligations.StatusPagesShowTheState := by
  unfold Obligations.StatusPagesShowTheState
  refine ⟨by decide, fun s n hn => ?_, fun s n p hp => ?_⟩
  · interval_cases n <;> rfl
  intro b w d index flag bits left fresh
  have hpage : ∀ {k q}, s.page k = some q → n = k → p = q := fun hq hn => by
    subst hn
    exact Option.some.inj (hp.symm.trans hq)
  refine ⟨fun hn => ?page0, fun hn => ?page1, fun hn => ?page2, fun hn => ?page3, fun hn => ?page4, fun hn => ?page5,
    fun hn => ?page6, fun hn => ?page7, fun hn => ?page8, fun hn => ?page9, ?last⟩
  case last =>
    by_contra hn
    cases (page_none (Nat.lt_of_not_le hn)).symm.trans hp
  case page0 =>
    obtain rfl : p = s.page0 := hpage rfl hn
    refine ⟨rfl, rfl, mask_bit _, rfl, fun t => ?_, rfl, rfl, rfl, bits_of_three _ _ _, wordAt_of_bytes rfl⟩
    cases t <;> exact shadow_reads rfl
  case page1 =>
    obtain rfl : p = s.page1 := hpage rfl hn
    refine ⟨rfl, ?_, rfl, rfl, longAt_of_bytes rfl, wordAt_of_bytes rfl, rfl, rfl⟩
    simp only [List.forall_mem_cons]
    exact ⟨channel_reads _, channel_reads _, channel_reads _, channel_reads _, by simp⟩
  case page2 =>
    obtain rfl : p = s.page2 := hpage rfl hn
    exact ⟨rfl, rfl, wordAt_of_bytes rfl, rfl, longAt_of_bytes rfl, rfl, rfl⟩
  case page3 =>
    obtain rfl : p = s.page3 := hpage rfl hn
    refine ⟨rfl, rfl, rfl, wordAt_of_bytes rfl, wordAt_of_bytes rfl, wordAt_of_bytes rfl, rfl, ?_, wordAt_of_bytes rfl,
      longAt_of_bytes rfl, wordAt_of_bytes rfl, longAt_of_bytes rfl, rfl, ?_, rfl, rfl, rfl, rfl⟩
    · exact firstCauseCode_eq _
    · exact levels_bits _
  case page4 =>
    obtain rfl : p = s.page4 := hpage rfl hn
    refine ⟨rfl, rfl, bits_of_two _ _, wordAt_of_bytes rfl, rfl, rfl, rfl, rfl, ?_, bits_of_two _ _⟩
    simp only [List.forall_mem_cons]
    exact ⟨⟨wordAt_of_bytes rfl, longAt_of_bytes rfl, longAt_of_bytes rfl, longAt_of_bytes rfl, wordAt_of_bytes rfl⟩,
      ⟨wordAt_of_bytes rfl, longAt_of_bytes rfl, longAt_of_bytes rfl, longAt_of_bytes rfl, wordAt_of_bytes rfl⟩, by simp⟩
  case page5 =>
    have hform := hpage (q := s.page5) rfl hn
    simp only [State.page5, left32_eq, running_eq] at hform
    subst hform
    exact ⟨rfl, rfl, rfl, rfl, rfl, rfl, originCode_eq _, longAt_of_bytes rfl, fun c hc => stopCauseByte_of_some hc, rfl,
      rfl, rfl, wordAt_of_bytes rfl, rfl, bits_of_three _ _ _⟩
  case page6 =>
    have hform := hpage (q := s.page6) rfl hn
    obtain ⟨leftA, rightA, ageA, hcarA, hnoneA, hsomeA⟩ := carStatus_reads s .a
    obtain ⟨leftB, rightB, ageB, hcarB, hnoneB, hsomeB⟩ := carStatus_reads s .b
    simp only [State.page6, carSides, List.map_cons, List.map_nil, List.flatMap_cons, List.flatMap_nil, left16_eq,
      hcarA, hcarB, running_eq] at hform
    subst hform
    have hageA : w 15 = ageA := wordAt_of_bytes rfl
    have hageB : w 20 = ageB := wordAt_of_bytes rfl
    refine ⟨rfl, ?_, ?_, rfl⟩
    · simp only [List.forall_mem_cons]
      exact ⟨⟨rfl, wordAt_of_bytes rfl⟩, ⟨rfl, wordAt_of_bytes rfl⟩, ⟨rfl, wordAt_of_bytes rfl⟩,
        ⟨rfl, wordAt_of_bytes rfl⟩, by simp⟩
    · simp only [List.forall_mem_cons]
      refine ⟨⟨rfl, fun hnone => hageA.trans (hnoneA hnone), fun r hr => ?_⟩,
        ⟨rfl, fun hnone => hageB.trans (hnoneB hnone), fun r hr => ?_⟩, by simp⟩
      · obtain ⟨rfl, rfl, rfl⟩ := hsomeA r hr
        exact ⟨bits_of_three _ _ _, bits_of_three _ _ _, hageA⟩
      · obtain ⟨rfl, rfl, rfl⟩ := hsomeB r hr
        exact ⟨bits_of_three _ _ _, bits_of_three _ _ _, hageB⟩
  case page7 =>
    obtain rfl : p = s.page7 := hpage rfl hn
    have hleast : w 13 = BitVec.ofNat 16 (sat16 ((s.adu.earliest s.clock).getD 65535)) := wordAt_of_bytes rfl
    refine ⟨rfl, wordAt_of_bytes rfl, rfl, rfl, bits_of_two _ _, wordAt_of_bytes rfl, wordAt_of_bytes rfl, rfl, rfl,
      congrArg byteOf (grantsOf_eq _ _), congrArg byteOf (grantsOf_eq _ _), fun hnone => ?_, fun g hg hall => ?_⟩
    · rw [hleast, earliest_of_none _ hnone]
      rfl
    · rw [hleast, earliest_of_least hg hall]
      rfl
  case page8 =>
    obtain rfl : p = s.page8 := hpage rfl hn
    exact ⟨rfl, rfl, rfl, rfl, bits_of_three _ _ _, congrArg byteOf (fifoUsed_eq _), rfl, rfl, rfl, rfl, rfl, rfl⟩
  case page9 =>
    have hform := hpage (q := s.page9) rfl hn
    simp only [State.page9, left32_eq] at hform
    subst hform
    have hflags : d 1 = s.rpu.pendingFlags := longAt_of_bytes rfl
    refine ⟨rfl, rfl, fun k => ?_, fun i hi => ?_, rfl, rfl, rfl, longAt_of_bytes rfl⟩
    · rw [hflags, pendingFlags_bit]
    · rw [hflags, pendingFlags_above _ hi]

end Sys2Proof.Machine

end

/-! ## The tables in the form LOAD carries (R172, R173, R176, R184) -/

section

namespace Sys2Proof.Machine

/-! ### A field read and written back -/

/-- Bytes of a known length are their fields of one byte. -/
theorem range_map_byteAt {e : List Byte} {n : Nat} (h : e.length = n) : (List.range n).map (byteAt e) = e := by
  subst h
  refine List.ext_getElem (by simp) fun i _ hi => ?_
  simp [byteAt, List.getD, List.getElem?_eq_getElem hi]

theorem byteOf_byteAt (e : List Byte) (i : Nat) : byteOf (byteAt e i).toNat = byteAt e i := by
  simp [byteOf]

theorem bytes16_wordAt (e : List Byte) (i : Nat) : bytes16 (wordAt e i) = [byteAt e i, byteAt e (i + 1)] := by
  have hhigh : (wordAt e i).extractLsb' 8 8 = byteAt e i := by
    ext k hk
    grind [wordAt]
  have hlow : (wordAt e i).extractLsb' 0 8 = byteAt e (i + 1) := by
    ext k hk
    grind [wordAt]
  rw [bytes16, hhigh, hlow]

theorem bytes32_longAt (e : List Byte) (i : Nat) :
    bytes32 (longAt e i) = [byteAt e i, byteAt e (i + 1), byteAt e (i + 2), byteAt e (i + 3)] := by
  have h3 : (longAt e i).extractLsb' 24 8 = byteAt e i := by
    ext k hk
    grind [longAt, wordAt]
  have h2 : (longAt e i).extractLsb' 16 8 = byteAt e (i + 1) := by
    ext k hk
    grind [longAt, wordAt]
  have h1 : (longAt e i).extractLsb' 8 8 = byteAt e (i + 2) := by
    ext k hk
    grind [longAt, wordAt]
  have h0 : (longAt e i).extractLsb' 0 8 = byteAt e (i + 3) := by
    ext k hk
    grind [longAt, wordAt]
  rw [bytes32, h3, h2, h1, h0]

theorem be16_natAt16 (e : List Byte) (i : Nat) : be16 (natAt16 e i) = [byteAt e i, byteAt e (i + 1)] := by
  rw [← bytes16_wordAt, be16, natAt16, BitVec.ofNat_toNat, BitVec.setWidth_eq]

theorem be32_natAt32 (e : List Byte) (i : Nat) :
    be32 (natAt32 e i) = [byteAt e i, byteAt e (i + 1), byteAt e (i + 2), byteAt e (i + 3)] := by
  rw [← bytes32_longAt, be32, natAt32, BitVec.ofNat_toNat, BitVec.setWidth_eq]

theorem beInt32_intAt32 (e : List Byte) (i : Nat) :
    beInt32 (intAt32 e i) = [byteAt e i, byteAt e (i + 1), byteAt e (i + 2), byteAt e (i + 3)] := by
  rw [← bytes32_longAt, beInt32, intAt32, BitVec.ofInt_toInt]

/-! ### What validation says of an entry (R176) -/

/-- A field of an entry whose fields hold, by its place among them. -/
theorem holds_of_fieldsHold {fs : List Field} {e : List Byte} (h : fieldsHold fs e = true) {k : Nat} {f : Field}
    (hf : fs[k]? = some f) : f.holds ((e.drop ((fs.take k).map Field.width).sum).take f.width) = true := by
  induction fs generalizing e k with
  | nil => simp at hf
  | cons g rest ih =>
    obtain ⟨hg, hrest⟩ := (Bool.and_eq_true _ _).mp h
    cases k with
    | zero =>
      obtain rfl : g = f := by simpa using hf
      simpa using hg
    | succ k =>
      have := ih hrest (k := k) (by simpa using hf)
      simpa [List.drop_drop] using this

theorem natOf_byte (e : List Byte) (i : Nat) : natOf ((e.drop i).take 1) = (byteAt e i).toNat := by
  rw [List.take_one, List.head?_drop, byteAt, List.getD]
  cases e[i]? <;> simp [natOf]

/-- A field of one byte in its range. -/
theorem byte_of_fieldsHold {fs : List Field} {e : List Byte} (h : fieldsHold fs e = true) {k lo hi : Nat}
    (hf : fs[k]? = some (.num 1 lo hi)) : (byteAt e ((fs.take k).map Field.width).sum).toNat ≤ hi := by
  have := holds_of_fieldsHold h hf
  simp only [Field.holds, Field.width, natOf_byte, Bool.and_eq_true, decide_eq_true_eq] at this
  exact this.2

/-- A sign byte is 0x01 or 0xFF (R173). -/
theorem sign_of_fieldsHold {fs : List Field} {e : List Byte} (h : fieldsHold fs e = true) {k : Nat}
    (hf : fs[k]? = some .sign) : byteAt e ((fs.take k).map Field.width).sum = 1 ∨
      byteAt e ((fs.take k).map Field.width).sum = 0xFF := by
  have := holds_of_fieldsHold h hf
  simp only [Field.holds, Field.width, natOf_byte, Bool.or_eq_true, beq_iff_eq] at this
  exact this.imp (fun h => BitVec.eq_of_toNat_eq h) fun h => BitVec.eq_of_toNat_eq h

theorem firstFailing_none {ok : Nat → List Byte → Bool} {n : Nat} {es : List (List Byte)}
    (h : firstFailing ok n es = none) {i : Nat} {e : List Byte} (he : es[i]? = some e) : ok (n + i) e = true := by
  induction es generalizing n i with
  | nil => simp at he
  | cons x rest ih =>
    rw [firstFailing] at h
    split at h
    · cases i with
      | zero =>
        obtain rfl : x = e := by simpa using he
        assumption
      | succ i =>
        have := ih h (i := i) (by simpa using he)
        rwa [Nat.add_right_comm] at this
    · cases h

/-- What validation passes has the count of its table and every field in its range. -/
theorem validate_none {oa : Byte} {t : TableId} {es : List (List Byte)} (h : validate oa t es = none) :
    t.least ≤ es.length ∧ es.length ≤ t.capacity ∧
    ∀ i e, es[i]? = some e → fieldsHold (t.fields i) e = true := by
  unfold validate at h
  split at h
  · cases h
  · rename_i hcount
    obtain ⟨hleast, hmost⟩ := not_or.mp hcount
    refine ⟨Nat.le_of_not_lt hleast, Nat.le_of_not_lt hmost, fun i e he => ?_⟩
    split at h
    · cases h
    · rename_i hranges
      have hholds := firstFailing_none hranges he
      rw [Nat.zero_add] at hholds
      exact ((Bool.and_eq_true _ _).mp hholds).1

/-! ### The entries of a table, read and written back (R172, R173) -/

theorem role_code_of_byte {b : Byte} (h : b.toNat ≤ 8) : (roleOfCode b).code = b := by
  obtain ⟨n, hn, rfl⟩ : ∃ n ≤ 8, b = byteOf n := ⟨b.toNat, h, by simp [byteOf]⟩
  interval_cases n <;> rfl

theorem platform_code_of_byte {b : Byte} (h : b.toNat ≤ 3) : (platformOfCode b).code = b := by
  obtain ⟨n, hn, rfl⟩ : ∃ n ≤ 3, b = byteOf n := ⟨b.toNat, h, by simp [byteOf]⟩
  interval_cases n <;> rfl

theorem flagByte_of_byte {b : Byte} (h : b.toNat ≤ 1) : flagByte (b == 1) = b := by
  obtain ⟨n, hn, rfl⟩ : ∃ n ≤ 1, b = byteOf n := ⟨b.toNat, h, by simp [byteOf]⟩
  interval_cases n <;> rfl

theorem signByte_signOfByte {b : Byte} (h : b = 1 ∨ b = 0xFF) : signByte (signOfByte b) = b := by
  obtain rfl | rfl := h <;> decide

theorem node_bytes {e : List Byte} (hlen : e.length = 4) (h : fieldsHold (TableId.node.fields 0) e = true) :
    (nodeOfBytes e).bytes = e := by
  have hrole := role_code_of_byte (byte_of_fieldsHold h (k := 0) rfl)
  refine Eq.trans ?_ (range_map_byteAt hlen)
  simp only [Node.bytes, nodeOfBytes]
  exact congrArg (· :: _) hrole

theorem stop_bytes {e : List Byte} (hlen : e.length = 8) (h : fieldsHold (TableId.stop.fields 0) e = true) :
    (stopOfBytes e).bytes = e := by
  have hA : (platformOfCode (byteAt e 6)).code = byteAt e 6 := platform_code_of_byte (byte_of_fieldsHold h (k := 2) rfl)
  have hB : (platformOfCode (byteAt e 7)).code = byteAt e 7 := platform_code_of_byte (byte_of_fieldsHold h (k := 3) rfl)
  refine Eq.trans ?_ (range_map_byteAt hlen)
  simp only [Stop.bytes, stopOfBytes, beInt32_intAt32, be16_natAt16, hA, hB]
  rfl

theorem segment_bytes {e : List Byte} (hlen : e.length = 8) : (segmentOfBytes e).bytes = e := by
  refine Eq.trans ?_ (range_map_byteAt hlen)
  simp only [Segment.bytes, segmentOfBytes, beInt32_intAt32, be16_natAt16]
  rfl

theorem marker_bytes {e : List Byte} (hlen : e.length = 5) : (markerOfBytes e).bytes = e := by
  refine Eq.trans ?_ (range_map_byteAt hlen)
  simp only [MarkerEntry.bytes, markerOfBytes, beInt32_intAt32]
  rfl

theorem product_bytes {e : List Byte} (hlen : e.length = 7) (h : fieldsHold (TableId.product.fields 0) e = true) :
    (productOfBytes e).bytes = e := by
  have hdecrement : flagByte (byteAt e 2 == 1) = byteAt e 2 := flagByte_of_byte (byte_of_fieldsHold h (k := 2) rfl)
  refine Eq.trans ?_ (range_map_byteAt hlen)
  simp only [Product.bytes, productOfBytes, be16_natAt16, hdecrement]
  rfl

/-- A channel of section 0 at its offset. -/
theorem channel_bytes {e : List Byte} {i : Nat} (h : byteAt e (i + 2) = 1 ∨ byteAt e (i + 2) = 0xFF) :
    (channelLineAt e i).bytes = [byteAt e i, byteAt e (i + 1), byteAt e (i + 2), byteAt e (i + 3)] := by
  simp only [ChannelLine.bytes, channelLineAt, be16_natAt16, byteOf_byteAt, signByte_signOfByte h]
  rfl

theorem line_sections {a b c : List Byte} (ha : a.length = 40) (hb : b.length = 46) (hc : c.length = 25)
    (h : fieldsHold (lineFields 0) a = true) : (lineOfSections a b c).sections = [a, b, c] := by
  have h1 := channel_bytes (i := 6) (sign_of_fieldsHold h (k := 3) rfl)
  have h2 := channel_bytes (i := 10) (sign_of_fieldsHold h (k := 6) rfl)
  have hA := channel_bytes (i := 14) (sign_of_fieldsHold h (k := 9) rfl)
  have hB := channel_bytes (i := 18) (sign_of_fieldsHold h (k := 12) rfl)
  refine Eq.trans ?_ (congrArg₂ List.cons (range_map_byteAt ha)
    (congrArg₂ List.cons (range_map_byteAt hb) (congrArg (· :: []) (range_map_byteAt hc))))
  simp only [Line.sections, lineOfSections, h1, h2, hA, hB, be16_natAt16, be32_natAt32, byteOf_byteAt,
    Vector.getElem_mk, List.getElem_toArray, List.getElem_cons_zero, List.getElem_cons_succ, List.cons_append,
    List.nil_append]
  rfl

/-! ### A table in force reads back as it was loaded (R180, R184) -/

theorem map_map_of_entries {α : Type} {f : List Byte → α} {g : α → List Byte} {es : List (List Byte)}
    (h : ∀ (i : Nat) e, es[i]? = some e → g (f e) = e) : (es.map f).map g = es := by
  rw [List.map_map]
  refine (List.map_congr_left fun e he => ?_).trans (List.map_id es)
  obtain ⟨i, hi⟩ := List.mem_iff_getElem?.mp he
  exact h i e hi

theorem put_entries {oa : Byte} {t : TableId} {es : List (List Byte)} (a : ActiveTables)
    (hsize : ∀ (i : Nat) e, es[i]? = some e → e.length = t.entrySize i) (h : validate oa t es = none) :
    (a.put t es).entries t = es := by
  obtain ⟨hleast, hmost, hfields⟩ := validate_none h
  cases t with
  | node => exact map_map_of_entries fun i e he => node_bytes (hsize i e he) (hfields i e he)
  | stop => exact map_map_of_entries fun i e he => stop_bytes (hsize i e he) (hfields i e he)
  | profile => exact map_map_of_entries fun i e he => segment_bytes (hsize i e he)
  | line =>
    obtain ⟨x, y, z, rfl⟩ := List.length_eq_three.mp (Nat.le_antisymm hmost hleast)
    exact line_sections (hsize 0 x rfl) (hsize 1 y rfl) (hsize 2 z rfl) (hfields 0 x rfl)
  | marker => exact map_map_of_entries fun i e he => marker_bytes (hsize i e he)
  | product => exact map_map_of_entries fun i e he => product_bytes (hsize i e he) (hfields i e he)
  | hotlist =>
    exact map_map_of_entries fun i e he => (bytes32_longAt e 0).trans (range_map_byteAt (n := 4) (hsize i e he))
  | reportLevel => exact map_map_of_entries fun i e he => range_map_byteAt (n := 1) (hsize i e he)

theorem entries_of_empty {a : ActiveTables} {t : TableId} (h : a.isActive t = false) (ht : t ≠ .reportLevel) :
    a.entries t = [] := by
  cases t with
  | reportLevel => exact absurd rfl ht
  | _ =>
    simp only [ActiveTables.isActive, Option.isSome_eq_false_iff, Option.isNone_iff_eq_none] at h
    simp only [ActiveTables.entries, h, Option.getD_none, List.map_nil]

/-- The code of a table names it. -/
theorem code_of_tableOf {b : Byte} {t : TableId} (h : tableOf b = some t) : t.code = b := by
  unfold tableOf at h
  split at h
  · cases h
  · rename_i hb
    have hidx : ∀ (i : Nat) (u : TableId), allTables[i]? = some u → u.idx.val = i := fun i u hu => by
      obtain ⟨hi, -⟩ := List.getElem?_eq_some_iff.mp hu
      simp only [allTables, List.length_cons, List.length_nil] at hi
      interval_cases i <;> cases hu <;> rfl
    have hpos : b.toNat ≠ 0 := fun h0 => hb (BitVec.eq_of_toNat_eq h0)
    rw [TableId.code, hidx _ _ h, Nat.sub_add_cancel (Nat.one_le_iff_ne_zero.mpr hpos)]
    simp [byteOf]

end Sys2Proof.Machine

end

/-! ## The reads and clears of the manager (R57, R134, R159, R174, R183–R185) -/

section

namespace Sys2Proof.Machine

/-! ### Counter groups and trip entries (R170, R185) -/

theorem counterGroup_events (s : State) : ∃ cs, s.counterGroup 4 = some cs ∧ cs.length = 28 ∧
    ∀ k : Fin 28, cs[k.val]? = some s.rpu.slots[k].count :=
  ⟨_, rfl, by simp, fun k => by simp⟩

/-- A group that R185 does not list is none of the four. -/
theorem group_of_unlisted {group : Byte} (h : group = 0 ∨ 4 < group.toNat) :
    group ≠ 1 ∧ group ≠ 2 ∧ group ≠ 3 ∧ group ≠ 4 := by
  refine ⟨?_, ?_, ?_, ?_⟩ <;> rintro rfl <;> simp at h

theorem counterGroup_of_unlisted (s : State) {group : Byte} (h : group = 0 ∨ 4 < group.toNat) :
    s.counterGroup group = none := by
  obtain ⟨h1, h2, h3, h4⟩ := group_of_unlisted h
  rw [State.counterGroup, if_neg h1, if_neg h2, if_neg h3, if_neg h4]

theorem tripEntry_first (x : TripEntry) :
    byteAt x.bytes 0 = (x.first.map fun c => BitVec.ofNat 8 c.num).getD 0 := by
  have hcode : byteAt x.bytes 0 = firstCauseCode x.first := rfl
  rw [hcode]
  cases x.first <;> rfl

theorem tripEntries_length (es : List TripEntry) : (es.flatMap TripEntry.bytes).length = 14 * es.length := by
  induction es with
  | nil => rfl
  | cons x rest ih =>
    have hx : x.bytes.length = 14 := rfl
    rw [List.flatMap_cons, List.length_append, hx, ih, List.length_cons]
    omega

/-! ### The length of a page (R183) -/

/-- The longest page is page 0, of 49 bytes. -/
theorem page_length {s : State} {n : Nat} {p : List Byte} (h : s.page n = some p) : p.length ≤ 49 := by
  obtain ⟨-, -, hpages⟩ := statusPagesShowTheState
  obtain ⟨h0, h1, h2, h3, h4, h5, h6, h7, h8, h9, hn⟩ := hpages s n p h
  interval_cases n
  · exact (h0 rfl).1.le
  · exact (h1 rfl).1.le.trans (by decide)
  · exact (h2 rfl).1.le.trans (by decide)
  · exact (h3 rfl).1.le.trans (by decide)
  · exact (h4 rfl).1.le.trans (by decide)
  · exact (h5 rfl).1.le.trans (by decide)
  · exact (h6 rfl).1.le.trans (by decide)
  · exact (h7 rfl).1.le.trans (by decide)
  · exact (h8 rfl).1.le.trans (by decide)
  · exact (h9 rfl).1.le.trans (by decide)

/-! ### The whole entries that fit (R184) -/

theorem fitting_spec (n room : Nat) (es : List (List Byte)) : fitting n room es <+: es ∧
    (fitting n room es).length ≤ n ∧ (fitting n room es).flatten.length ≤ room ∧
    ∀ e later, es = fitting n room es ++ e :: later →
      (fitting n room es).length = n ∨ room < (fitting n room es).flatten.length + e.length := by
  induction es generalizing n room with
  | nil => cases n <;> simp [fitting]
  | cons x rest ih =>
    cases n with
    | zero => simp [fitting]
    | succ n =>
      obtain ⟨hprefix, hlength, hroom, hmost⟩ := ih n (room - x.length)
      rw [fitting]
      split
      · rename_i hx
        refine ⟨(List.prefix_cons_inj x).mpr hprefix, Nat.succ_le_succ hlength, ?_, fun e later heq => ?_⟩
        · rw [List.flatten_cons, List.length_append]
          omega
        · have := hmost e later (by simpa using heq)
          rw [List.flatten_cons, List.length_append, List.length_cons]
          omega
      · rename_i hx
        refine ⟨List.nil_prefix, Nat.zero_le _, Nat.zero_le _, fun e later heq => ?_⟩
        cases heq
        exact .inr (by simpa using hx)

/-! ### Requests that are answered (R164, R174) -/

section

variable {c : Instr} {s : State} {arr : Arrival} {code tag : Byte} {body : List Byte}

/-- A request whose decision keeps the haul record ends its step there. -/
theorem exec_of_decided (hc : rowFrame c = some (arr, 0x60, code :: tag :: body))
    (h : ManagerArrives s arr (code :: tag :: body)) {d : Decision} (hd : decideRequest code body (s.asked arr) = d)
    (hhlc : d.state.hlc = s.hlc) : exec c s = .next (d.state.replied s arr code tag d.result.code d.body) := by
  rw [exec_of_running (rowElapsed_of_rowFrame hc) h.running, rowAct_of_manager hc h, hd]
  exact congrArg _ (settle_of_same (congrArg Hlc.state hhlc))

/-- A request that is accepted and only reads is answered, and nothing else. -/
theorem exec_of_read (hc : rowFrame c = some (arr, 0x60, code :: tag :: body))
    (h : ManagerArrives s arr (code :: tag :: body)) {bytes : List Byte}
    (hd : decideRequest code body (s.asked arr) = accept bytes (s.asked arr)) :
    exec c s = .next { begin arr.elapsed s with rif := s.answered (mgmtReply s arr code tag 0x00 bytes) } :=
  exec_of_decided hc h hd rfl

theorem exec_of_refusal (hc : rowFrame c = some (arr, 0x60, code :: tag :: body))
    (h : ManagerArrives s arr (code :: tag :: body)) {r : MgmtResult}
    (hd : decideRequest code body (s.asked arr) = refuse r (s.asked arr)) :
    exec c s = .next { begin arr.elapsed s with rif := s.answered (mgmtReply s arr code tag r.code []) } :=
  exec_of_refused (rowElapsed_of_rowFrame hc) hc h hd

end

theorem requestOf_of_unlisted {code : Byte} (h : code = 0 ∨ 16 < code.toNat) : requestOf code = none := by
  unfold requestOf
  split
  · rfl
  · rename_i hcode
    have := h.resolve_left hcode
    exact List.getElem?_eq_none (by simp [allRequests]; omega)

/-! ### The decisions -/

section

variable {s : State}

theorem decideReadStatus_of_page {page : Byte} {bytes : List Byte} (h : s.page page.toNat = some bytes) :
    decideReadStatus page s = accept (page :: bytes) s := by
  simp only [decideReadStatus, h]

theorem decideReadStatus_of_none {page : Byte} (h : 9 < page.toNat) : decideReadStatus page s = refuse .outOfRange s := by
  simp only [decideReadStatus, page_none h]

theorem decideReadTable_of_bad {table copy f1 f0 n : Byte} (h : tableOf table = none ∨ 1 < copy.toNat) :
    decideReadTable [table, copy, f1, f0, n] s = refuse .badTable s := by
  have hcopy : 1 < copy.toNat → ¬ (copy = 0 ∨ copy = 1) := by
    rintro hc (rfl | rfl) <;> simp at hc
  have htable : byteAt [table, copy, f1, f0, n] 0 = table := rfl
  have hfield : byteAt [table, copy, f1, f0, n] 1 = copy := rfl
  simp only [decideReadTable, htable, hfield]
  cases ht : tableOf table with
  | none => rfl
  | some t => exact if_neg (hcopy (h.resolve_left (by simp [ht])))

theorem decideReadTable_of_copy {table copy f1 f0 n : Byte} {t : TableId} (ht : tableOf table = some t)
    (hcopy : copy.toNat ≤ 1) : decideReadTable [table, copy, f1, f0, n] s =
      accept (s.mga.tableBody t copy (f1 ++ f0).toNat n.toNat) s := by
  have hcopies : copy = 0 ∨ copy = 1 := by
    obtain h | h : copy.toNat = 0 ∨ copy.toNat = 1 := by omega
    · exact .inl (BitVec.eq_of_toNat_eq h)
    · exact .inr (BitVec.eq_of_toNat_eq h)
  have htable : byteAt [table, copy, f1, f0, n] 0 = table := rfl
  have hfield : byteAt [table, copy, f1, f0, n] 1 = copy := rfl
  simp only [decideReadTable, htable, hfield, ht, if_pos hcopies]
  rfl

theorem tableBody_eq (m : Mga) {table copy f1 f0 : Byte} {t : TableId} (ht : tableOf table = some t) (n : Nat) :
    m.tableBody t copy (f1 ++ f0).toNat n =
      let es := fitting n 48 ((m.copyEntries t copy).drop (f1 ++ f0).toNat)
      table :: copy :: f1 :: f0 :: byteOf es.length :: es.flatten := by
  have hfirst : be16 (f1 ++ f0).toNat = [f1, f0] := be16_natAt16 [f1, f0] 0
  rw [Mga.tableBody, code_of_tableOf ht, hfirst]
  rfl

theorem decideReadCounters_of_group {group first : Byte} {cs : List (BitVec 16)} (h : s.counterGroup group = some cs) :
    decideReadCounters group first s = accept (countersBody group cs first.toNat) s := by
  simp only [decideReadCounters, h]

theorem decideReadCounters_of_unlisted {group first : Byte} (h : group = 0 ∨ 4 < group.toNat) :
    decideReadCounters group first s = refuse .badGroup s := by
  simp only [decideReadCounters, counterGroup_of_unlisted s h]

theorem decideClearCounters_of_unlisted {group : Byte} (h : group = 0 ∨ 4 < group.toNat) :
    decideClearCounters group s = refuse .badGroup s := by
  obtain ⟨h1, h2, h3, h4⟩ := group_of_unlisted h
  rw [decideClearCounters, if_neg h1, if_neg h2, if_neg h3, if_neg h4]

theorem decideRequest_of_length {code : Byte} {body : List Byte} {r : Request} (hr : requestOf code = some r)
    (h : r.lengthHolds body.length = false) : decideRequest code body s = refuse .length s := by
  simp only [decideRequest, hr, h, Bool.false_eq_true, if_false]

theorem decideRequest_of_unlisted {code : Byte} (body : List Byte) (h : code = 0 ∨ 16 < code.toNat) :
    decideRequest code body s = refuse .unknownRequest s := by
  simp only [decideRequest, requestOf_of_unlisted h]

end

/-- Settles O49: each request is decided by its own rule in the state that has counted it, and a decision that keeps
the haul record is answered as it stands. -/
theorem readsChangeNothingAndClearsOnlyTheirOwn : Obligations.ReadsChangeNothingAndClearsOnlyTheirOwn := by
  unfold Obligations.ReadsChangeNothingAndClearsOnlyTheirOwn
  refine ⟨fun s => ⟨rfl, rfl, rfl, counterGroup_events s, fun group => counterGroup_of_unlisted s⟩,
    fun x => ⟨rfl, tripEntry_first x, wordAt_of_bytes rfl, longAt_of_bytes rfl, wordAt_of_bytes rfl,
      longAt_of_bytes rfl, rfl⟩,
    fun m t => ⟨rfl, rfl, entries_of_empty, fun oa es => put_entries m.active⟩, fun s arr tag => ?_⟩
  intro answered seen
  refine ⟨fun page h => ⟨fun bytes hbytes => ⟨(page_length hbytes).trans (by decide), ?_⟩, fun hpage => ?_⟩,
    fun table copy f1 f0 n h => ⟨fun hbad => ?_, fun t ht hcopy => ?table⟩,
    fun first h => ⟨?trips, ?_⟩,
    fun group first h => ⟨fun cs hcs => ?_, fun hbad => ?_⟩,
    fun group h => ⟨?_, ?_, ?_, ?_, fun hbad => ?_⟩, fun h => ?_, fun d1 d0 h => ?_, fun request body h hbad => ?_,
    fun c request body r h hc hr hlength => ?_⟩
  · exact exec_of_read (c := .readStatus arr tag [page]) rfl h (decideReadStatus_of_page hbytes)
  · exact exec_of_refusal (c := .readStatus arr tag [page]) rfl h (decideReadStatus_of_none hpage)
  · exact exec_of_refusal (c := .readTable arr tag [table, copy, f1, f0, n]) rfl h (decideReadTable_of_bad hbad)
  case table =>
    obtain ⟨hprefix, hlength, hroom, hmost⟩ := fitting_spec n.toNat 48 ((s.mga.copyEntries t copy).drop (f1 ++ f0).toNat)
    exact ⟨_, hprefix, hlength, hroom, hmost, exec_of_read (c := .readTable arr tag [table, copy, f1, f0, n]) rfl h
      ((decideReadTable_of_copy ht hcopy).trans (congrArg (accept · (s.asked arr)) (tableBody_eq s.mga ht _)))⟩
  case trips =>
    have := List.length_take_le 3 (s.brs.history.drop first.toNat)
    rw [tripEntries_length]
    omega
  · exact exec_of_read (c := .readTrips arr tag [first]) rfl h rfl
  · exact exec_of_read (c := .readCounters arr tag [group, first]) rfl h (decideReadCounters_of_group hcs)
  · exact exec_of_refusal (c := .readCounters arr tag [group, first]) rfl h (decideReadCounters_of_unlisted hbad)
  · rintro rfl
    exact exec_of_decided (c := .clearCounters arr tag [1]) rfl h rfl rfl
  · rintro rfl
    exact exec_of_decided (c := .clearCounters arr tag [2]) rfl h rfl rfl
  · rintro rfl
    exact exec_of_decided (c := .clearCounters arr tag [3]) rfl h rfl rfl
  · rintro rfl
    exact exec_of_decided (c := .clearCounters arr tag [4]) rfl h rfl rfl
  · exact exec_of_refusal (c := .clearCounters arr tag [group]) rfl h (decideClearCounters_of_unlisted hbad)
  · exact exec_of_decided (c := .clearFlags arr tag []) rfl h rfl rfl
  · exact exec_of_decided (c := .setDay arr tag [d1, d0]) rfl h rfl rfl
  · exact exec_of_refusal (c := .unknownRequest arr request tag body) rfl h (decideRequest_of_unlisted body hbad)
  · exact exec_of_refusal hc h (decideRequest_of_length hr hlength)

end Sys2Proof.Machine

end

/-! ## Service-stop demands by haul state (R73, R90, R93, R94) -/

section

namespace Sys2Proof.Machine

section

variable {s : State} {cause : StopCause}

/-! ### The SERVICE_STOP event (R93) -/

/-- The detail of SERVICE_STOP: cause, outcome, target, and the fault code for cause DRIVE (R93). -/
def State.stopDetail (s : State) (cause : StopCause) (outcome : Byte) : BitVec 32 :=
  cause.code ++ outcome ++ indexByte s.hlc.target ++ (if cause = .drive then s.hlc.drive.fault else (0 : Byte))

/-- The event reads the target and the drive's fault, which no change of haul state touches. -/
theorem raiseStop_eq {u : State} (htarget : u.hlc.target = s.hlc.target) (hdrive : u.hlc.drive = s.hlc.drive)
    (o : DemandOutcome) : raiseStop cause o u = raise .serviceStop (s.stopDetail cause o.code) u := by
  rw [raiseStop, htarget, hdrive]
  rfl

/-! ### ARMED: the return to the origin (R90) -/

theorem demand_armed_eq (h : s.hlc.state = .armed) :
    demand cause s = raise .serviceStop (s.stopDetail cause 2) (returnToOrigin s) := by
  rw [demand_of_armed h]
  exact raiseStop_eq (by simp [returnToOrigin]) (by simp [returnToOrigin]) .returned

theorem returnToOrigin_force (s : State) :
    (returnToOrigin s).rif.force = some (s.forcedZero s.rif.txSeq) := by
  simp only [returnToOrigin, placeForce_force, enterRest_frame]
  exact congrArg some (forcedZero_congr (by simp) (by simp) _)

/-- The haul back at its origin, with the event of the demand (R36, R45, R47, R90). -/
theorem demand_returns (h : s.hlc.state = .armed) {o : Origin} (ho : s.hlc.origin = some o) :
    (demand cause s).hlc = { s.hlc with state := o.toState, boardingOpen := false, armTimer := none } ∧
    (demand cause s).env = { s.env with mode := .off, e := 0 } ∧ (demand cause s).brs.tier = .normal ∧
    (demand cause s).brs.aboveService = false ∧
    (demand cause s).rif.force = some (s.forcedZero s.rif.txSeq) ∧ (demand cause s).test = s.test := by
  obtain ⟨htier, habove⟩ := returnToOrigin_tier s
  obtain ⟨-, henv⟩ := returnToOrigin_of_origin ho
  simp [demand_armed_eq h, returnToOrigin_hlc ho, henv, htier, habove, returnToOrigin_force]

/-! ### RUNNING: the entry to SERVICE_STOP (R94) -/

theorem demand_running_eq (h : s.hlc.state = .running) :
    demand cause s = raise .serviceStop (s.stopDetail cause 1) (enterServiceStop cause s) := by
  rw [demand_of_running h]
  exact raiseStop_eq (by simp [enterServiceStop_hlc]) (by simp [enterServiceStop_hlc]) .entered

theorem enterServiceStop_force (cause : StopCause) (s : State) :
    (enterServiceStop cause s).rif.force = some (s.forcedZero s.rif.txSeq) := by
  simp only [enterServiceStop, superviseStop_frame, placeForce_force, envEvaluate_frame]
  exact congrArg some (forcedZero_congr (by simp) (by simp) _)

theorem enterServiceStop_sup (cause : StopCause) (s : State) : (enterServiceStop cause s).brs.sup =
    { active := true, vStart := s.moe.last.v, short := 0,
      expiry := some { start := s.clock, dur := s.param (·.tSup) 0 } } := by
  simp [enterServiceStop, State.param, State.line]

/-- An evaluation on a run keeps the mode (R28). -/
theorem enterServiceStop_mode (cause : StopCause) (s : State) :
    (enterServiceStop cause s).env.mode = s.env.mode := by
  simp only [enterServiceStop, superviseStop_frame, placeForce_frame, envEvaluate_env]
  exact settledMode_of_run rfl

/-- The haul stopping under supervision, with the event of the demand (R47, R48, R94). -/
theorem demand_stops (h : s.hlc.state = .running) :
    (demand cause s).hlc = { s.hlc with state := .serviceStop, stopCause := some cause, further := 0 } ∧
    (demand cause s).env.mode = s.env.mode ∧ (demand cause s).brs.tier = s.brs.tier ∧
    (demand cause s).brs.sup = { active := true, vStart := s.moe.last.v, short := 0,
                                 expiry := some { start := s.clock, dur := s.param (·.tSup) 0 } } ∧
    (demand cause s).rif.force = some (s.forcedZero s.rif.txSeq) ∧ (demand cause s).test = s.test ∧
    (demand cause s).adu = s.adu := by
  obtain ⟨htier, -⟩ := enterServiceStop_brs cause s
  simp [demand_running_eq h, enterServiceStop_hlc, enterServiceStop_mode, htier, enterServiceStop_sup,
    enterServiceStop_force]

/-! ### SERVICE_STOP: one demand more (R73, R93) -/

/-- A further demand counted and its event raised. -/
def State.stopCounted (s : State) (cause : StopCause) : State :=
  raise .serviceStop (s.stopDetail cause 3)
    { s with hlc := { s.hlc with further := min (s.hlc.further + 1) 255 } }

@[simp] theorem stopCounted_frame (s : State) (cause : StopCause) :
    (s.stopCounted cause).hlc = { s.hlc with further := min (s.hlc.further + 1) 255 } ∧
    (s.stopCounted cause).env = s.env ∧ (s.stopCounted cause).brs = s.brs ∧ (s.stopCounted cause).adu = s.adu ∧
    (s.stopCounted cause).rif.force = s.rif.force ∧ (s.stopCounted cause).test = s.test := by
  simp [State.stopCounted]

/-- The demand met in SERVICE_STOP, by whether a SERVICE stage brakes. -/
theorem demand_stopped_eq (h : s.hlc.state = .serviceStop) : demand cause s =
    if s.test.svc.status = .braking then abortService (s.stopCounted cause) else s.stopCounted cause := by
  have hcounted : raiseStop cause .counted (s.withHlc { s.hlc with further := min (s.hlc.further + 1) 255 }) =
      s.stopCounted cause := raiseStop_eq rfl rfl .counted
  simp only [demand_of_stopped h, hcounted, stopCounted_frame]

/-- The end of a SERVICE stage by interference, written out (R73). -/
theorem abortService_eq (s : State) :
    abortService s = raise .brakeTestResult ((1 : Byte) ++ (3 : Byte) ++ (0 : BitVec 16)) { s with test :=
      { s.test with state := .idle, abortPending := false, failureMark := false,
                    svc := ⟨.aborted, s.test.svc.trigger, 0, 0, 0, 0, 0⟩ } } := rfl

/-- A further demand leaves the blocks at work in the stop, and ends the SERVICE stage that brakes. -/
theorem demand_counts_further (h : s.hlc.state = .serviceStop) :
    (demand cause s).hlc = { s.hlc with further := min (s.hlc.further + 1) 255 } ∧
    (demand cause s).env = s.env ∧ (demand cause s).brs = s.brs ∧ (demand cause s).adu = s.adu ∧
    (demand cause s).rif.force = s.rif.force ∧
    (s.test.svc.status ≠ .braking → (demand cause s).test = s.test) ∧
    (s.test.svc.status = .braking →
      (demand cause s).test.state = .idle ∧ (demand cause s).test.svc.status = .aborted) := by
  rw [demand_stopped_eq h]
  by_cases hbraking : s.test.svc.status = .braking
  · simp [hbraking, abortService_eq]
  · simp [hbraking]

/-! ### At rest (R93) -/

theorem demand_rest_eq (h : s.hlc.state = .parked ∨ s.hlc.state = .boarding ∨ s.hlc.state = .tripped) :
    demand cause s = raise .serviceStop (s.stopDetail cause 4) s := by
  rw [demand_at_rest ((HaulState.atRest_iff _).mpr h)]
  exact raiseStop_eq rfl rfl .ignored

end

/-- Settles O29: one equation for the demand in each haul state; what it leaves is read off the change of haul state
under the raised event. -/
theorem demandActsByHaulState : Obligations.DemandActsByHaulState := by
  unfold Obligations.DemandActsByHaulState
  intro cause s
  refine ⟨fun h => demand_armed_eq h, fun h => demand_running_eq h, fun h => ⟨fun hquiet => ?counted,
      fun hbraking => ?aborted⟩, fun h => demand_rest_eq h, demand_counts_stop cause s, by simp, by simp, by simp,
    by simp, by simp, fun h => ?rest, fun h o ho => demand_returns h ho, fun h => demand_stops h,
    fun h => demand_counts_further h⟩
  case counted =>
    rw [demand_stopped_eq h, if_neg hquiet]
    rfl
  case aborted =>
    obtain ⟨-, -, -, -, -, htest⟩ := stopCounted_frame s cause
    rw [demand_stopped_eq h, if_pos hbraking, abortService_eq, htest]
    rfl
  case rest => simp [demand_rest_eq h]

end Sys2Proof.Machine

end

/-! ## The stages of a brake test: trigger, measured stop and judgement (R68–R75) -/

section

namespace Sys2Proof.Machine

section

variable {s : State} {l : Line} {id : StageId}

/-! ### The stage in hand (R66) -/

/-- A stage that is not preceded by a live one: SERVICE, or EMERGENCY once SERVICE is not live. -/
def BrakeTest.InTurn (t : BrakeTest) (id : StageId) : Prop := id = .emergency → ¬ t.svc.live

theorem BrakeTest.service_inTurn (t : BrakeTest) : t.InTurn .service := nofun

/-- An update judges the live stage in its turn: its trigger while it is WAITING, its stop while it is BRAKING. -/
theorem judgeTest_of_live (hlive : (s.test.stage id).live) (hturn : s.test.InTurn id) :
    judgeTest s = if (s.test.stage id).status = .waiting then judgeTrigger id s else judgeStopEnd id s := by
  cases id with
  | service =>
    have hsvc : s.test.svc.status = .waiting ∨ s.test.svc.status = .braking := hlive
    obtain h | h := hsvc <;> simp [judgeTest, BrakeTest.stage, h]
  | emergency =>
    have hemg : s.test.emg.status = .waiting ∨ s.test.emg.status = .braking := hlive
    obtain ⟨hwaiting, hbraking⟩ := not_or.mp (hturn rfl)
    unfold judgeTest
    obtain h | h := hemg <;> split <;> simp_all [BrakeTest.stage]

theorem judgeTest_of_waiting (h : (s.test.stage id).status = .waiting) (hturn : s.test.InTurn id) :
    judgeTest s = judgeTrigger id s :=
  (judgeTest_of_live (.inl h) hturn).trans (if_pos h)

theorem judgeTest_of_braking (h : (s.test.stage id).status = .braking) (hturn : s.test.InTurn id) :
    judgeTest s = judgeStopEnd id s :=
  (judgeTest_of_live (.inr h) hturn).trans (if_neg (by simp [h]))

/-! ### The trigger (R68–R70) -/

theorem judgeTrigger_of_quiet (h : s.hlc.state ≠ .running ∨ s.moe.last.v < s.test.vTest) : judgeTrigger id s = s :=
  if_neg fun ⟨hrun, hv⟩ => h.elim (fun hother => hother hrun) (Nat.not_lt.mpr hv)

/-- Without a trigger and without a BRAKING stage an update leaves the test alone. -/
theorem judgeTest_of_quiet (h : s.hlc.state ≠ .running ∨ s.moe.last.v < s.test.vTest)
    (hsvc : s.test.svc.status ≠ .braking) (hemg : s.test.emg.status ≠ .braking) : judgeTest s = s := by
  unfold judgeTest
  split
  · exact judgeTrigger_of_quiet h
  · next heq => exact absurd heq hsvc
  · exact judgeTrigger_of_quiet h
  · next heq _ _ => exact absurd heq hemg
  · rfl

/-- The state in which a stage has recorded its trigger and brakes (R68). -/
def State.triggered (s : State) (id : StageId) : State :=
  s.withTest (s.test.setStage id { s.test.stage id with
    status := .braking, trigger := s.clock, vApply := s.moe.last.v, pApply := s.moe.last.posA })

theorem judgeTrigger_of_reached (hrun : s.hlc.state = .running) (hv : s.test.vTest ≤ s.moe.last.v) :
    judgeTrigger id s = applyBrake id (s.triggered id) :=
  if_pos ⟨hrun, hv⟩

/-- The trip of the EMERGENCY stage leaves the test to the stage: no SERVICE stage brakes (R70, R73). -/
theorem trip_triggered_test (hfree : s.brs.trip.latched = false) (hturn : ¬ s.test.svc.live) :
    (trip .brakeTest (s.triggered .emergency)).test = (s.triggered .emergency).test := by
  have hquiet : (s.triggered .emergency).test.svc.status ≠ .braking := fun h => hturn (.inr h)
  obtain ⟨hkept, -⟩ := trip_outcomes (s := s.triggered .emergency) (trip_of_free (cause := .brakeTest) hfree) (by simp)
  simp [hkept hquiet]

/-! ### The end of a stop (R71) -/

theorem stillCondition_iff (hl : s.line = some l) (m : Motion) :
    s.stillCondition m = true ↔ m.known = true ∧ m.v ≤ l.vStill := by
  simp [State.stillCondition, hl]

theorem judgeStopEnd_of_moving (hl : s.line = some l) (h : ¬ (s.moe.last.known = true ∧ s.moe.last.v ≤ l.vStill)) :
    judgeStopEnd id s = s :=
  if_neg fun hstill => h ((stillCondition_iff hl _).mp hstill)

theorem judgeStopEnd_of_ended (hl : s.line = some l) (h : s.moe.last.known = true ∧ s.moe.last.v ≤ l.vStill) :
    judgeStopEnd id s = endStage id s :=
  if_pos ((stillCondition_iff hl _).mpr h)

/-! ### The test record by stage -/

theorem StageId.code_eq (id : StageId) : id.code = if id = .service then 1 else 2 := by
  cases id <;> rfl

theorem Line.testThreshold_eq (l : Line) (id : StageId) :
    l.testThreshold id = if id = .service then l.aTestSvc else l.aTestEmg := by
  cases id <;> rfl

theorem BrakeTest.setStage_eq (t : BrakeTest) (id : StageId) (x : Stage) : t.setStage id x =
    { t with svc := if id = .service then x else t.svc, emg := if id = .emergency then x else t.emg } := by
  cases id <;> rfl

/-- A judged stage put into its test: its flag follows, and the test goes on to EMERGENCY, is COMPLETE, or IDLE with
abort-pending (R71, R75). -/
theorem BrakeTest.judged_eq (t : BrakeTest) (id : StageId) (y : Stage) (failed : Bool) :
    let further := t.abortPending = false ∧ id = .service ∧ t.selEmg = true
    ((t.setStage id y).setFailed id failed).next id =
      { t with
        svc := if id = .service then y else t.svc
        emg := if id = .emergency then y else if further then { t.emg with status := .waiting } else t.emg
        svcFailed := if id = .service then failed else t.svcFailed
        emgFailed := if id = .emergency then failed else t.emgFailed
        failureMark := false, abortPending := false
        state := if t.abortPending then .idle else if further then t.state else .complete } := by
  cases habort : t.abortPending with
  | true => cases id <;> simp [BrakeTest.next, BrakeTest.setStage, BrakeTest.setFailed, habort]
  | false =>
    cases id with
    | service =>
      cases hemg : t.selEmg <;> simp [BrakeTest.next, BrakeTest.setStage, BrakeTest.setFailed, habort, hemg]
    | emergency => simp [BrakeTest.next, BrakeTest.setStage, BrakeTest.setFailed, habort]

/-! ### The judgement of a stop (R71, R72, R75) -/

/-- The measured time of a stage's stop at the latest update. -/
def State.stageTime (s : State) (id : StageId) : Nat := max 1 (s.clock - (s.test.stage id).trigger).toNat

/-- The mean deceleration of a stage's stop at the latest update. -/
def State.stageDecel (s : State) (id : StageId) : Nat := (s.test.stage id).vApply * 1000 / s.stageTime id

/-- The stage fails: under the failure mark, or below the line's threshold for it. -/
def State.stageFails (s : State) (l : Line) (id : StageId) : Bool :=
  decide (s.test.failureMark = true ∨ s.stageDecel id < if id = .service then l.aTestSvc else l.aTestEmg)

/-- The stage with the result of its stop. -/
def State.judgedStage (s : State) (l : Line) (id : StageId) : Stage :=
  { s.test.stage id with
    status := if s.stageFails l id then .failed else .passed, tStop := s.stageTime id
    dStop := (s.moe.last.posA - (s.test.stage id).pApply).natAbs, decel := s.stageDecel id }

/-- A stop that is judged PASSED or FAILED. -/
theorem endStage_of_judged (hl : s.line = some l) (h : s.test.abortPending = false ∨ s.test.failureMark = true) :
    endStage id s = raise .brakeTestResult
      (detailBBW id.code (if s.stageFails l id then 2 else 1) (BitVec.ofNat 16 (sat16 (s.stageDecel id))))
      (s.withTest (((s.test.setStage id (s.judgedStage l id)).setFailed id (s.stageFails l id)).next id)) := by
  have hjudged : ¬ (s.test.abortPending && !s.test.failureMark) = true := by
    obtain h | h := h <;> simp [h]
  have hfails : (s.test.failureMark || decide (s.stageDecel id < s.param (Line.testThreshold · id) 0)) =
      s.stageFails l id := by
    simp [State.stageFails, param_of_line hl, Line.testThreshold_eq]
  simp only [State.judgedStage, ← hfails]
  exact if_neg hjudged

/-- A stop that ends with abort-pending and no failure mark. -/
theorem endStage_of_aborted (habort : s.test.abortPending = true) (hmark : s.test.failureMark = false) :
    endStage id s = raise .brakeTestResult (detailBBW id.code 3 0)
      (s.withTest { s.test.setStage id ((s.test.stage id).withoutResult .aborted) with
        state := .idle, abortPending := false }) :=
  if_pos (by simp [habort, hmark])

end

/-- Settles O28: the stage in hand is the one judged; its trigger is a demand or a trip, its end `endStage`, which is
judged or aborted. -/
theorem brakeTestStagesTriggerAndMeasure : Obligations.BrakeTestStagesTriggerAndMeasure := by
  unfold Obligations.BrakeTestStagesTriggerAndMeasure
  refine ⟨fun s hfree hreset => ⟨fun hquiet hsvc hemg => judgeTest_of_quiet hquiet hsvc hemg,
      fun hrun hv hwaiting => ?service, fun hrun hv hturn hwaiting => ?emergency⟩,
    fun s l id hl hbraking hturn => ?_⟩
  case service =>
    have hjudged : judgeTest s = demand .brakeTest (s.triggered .service) :=
      (judgeTest_of_waiting (id := .service) hwaiting s.test.service_inTurn).trans (judgeTrigger_of_reached hrun hv)
    obtain ⟨hhlc, -, -, hsup, -, htest, -⟩ := demand_stops (s := s.triggered .service) (cause := .brakeTest) hrun
    have hrunning : (s.triggered .service).inReset = false := hreset
    rw [hjudged]
    refine ⟨htest, hhlc, ?_, ?_, ?_, by rw [hsup], by rw [hsup]; rfl⟩
    · simp [State.sbDemand, hhlc]
    · simp [State.driveEnable, hhlc]
    · simp [State.ebHold, hhlc, hrunning]
  case emergency =>
    have hjudged : judgeTest s = trip .brakeTest (s.triggered .emergency) :=
      (judgeTest_of_waiting (id := .emergency) hwaiting fun _ => hturn).trans (judgeTrigger_of_reached hrun hv)
    obtain ⟨hhlc, htrip, -⟩ := trip_latches (s := s.triggered .emergency) .brakeTest hfree
    rw [hjudged]
    refine ⟨trip_triggered_test hfree hturn, by rw [hhlc], by rw [htrip], by rw [htrip]; rfl, ?_, ?_, ?_⟩
    · simp [State.ebHold, hhlc]
    · simp [State.sbDemand, hhlc]
    · simp [State.driveEnable, hhlc]
  have hjudged := judgeTest_of_braking hbraking hturn
  refine ⟨fun hmoving => hjudged.trans (judgeStopEnd_of_moving hl hmoving), fun hended hresult => ?judged,
    fun hended habort hmark => ?aborted⟩
  all_goals rw [hjudged, judgeStopEnd_of_ended hl hended]
  case judged =>
    rw [endStage_of_judged hl hresult, BrakeTest.judged_eq, StageId.code_eq]
    rfl
  case aborted =>
    rw [endStage_of_aborted habort hmark, BrakeTest.setStage_eq, StageId.code_eq]
    rfl

end Sys2Proof.Machine

end

/-! ## BRAKE_TEST and BRAKE_TEST_ABORT (R66, R67, R75, R77) -/

section

namespace Sys2Proof.Machine

section

variable {s : State} {mask : Byte} {v : Nat} {id : StageId}

/-! ### BRAKE_TEST (R67) -/

/-- A mask selects a stage and sets no other bit exactly when it is 1, 2 or 3. -/
theorem brakeMask_bad_iff (mask : Byte) :
    (mask &&& 0x03 = 0 ∨ mask &&& 0xFC ≠ 0) ↔ ¬ (mask = 1 ∨ mask = 2 ∨ mask = 3) := by
  revert mask
  decide

theorem decideBrakeTest_of_state (h : ¬ (s.hlc.state = .parked ∨ s.hlc.state = .boarding)) :
    decideBrakeTest mask v s = refuse .state s :=
  if_pos h

section

variable (hrest : s.hlc.state = .parked ∨ s.hlc.state = .boarding)

include hrest

theorem decideBrakeTest_of_busy (h : s.test.state = .active) : decideBrakeTest mask v s = refuse .busy s := by
  rw [decideBrakeTest, if_neg (not_not.mpr hrest), if_pos h]

variable (hfree : s.test.state ≠ .active)

include hfree

theorem decideBrakeTest_of_mask (h : ¬ (mask = 1 ∨ mask = 2 ∨ mask = 3)) :
    decideBrakeTest mask v s = refuse .badMask s := by
  rw [decideBrakeTest, if_neg (not_not.mpr hrest), if_neg hfree, if_pos ((brakeMask_bad_iff mask).mpr h)]

variable (hmask : mask = 1 ∨ mask = 2 ∨ mask = 3)

include hmask

/-- With haul, test and mask as they must be, the speed decides. -/
theorem decideBrakeTest_of_speed : decideBrakeTest mask v s =
    if v < 500 ∨ s.param (·.vLineMax) 0 < v then refuse .range s
    else accept [] (s.withTest (s.test.started (mask.getLsbD 0) (mask.getLsbD 1) v)) := by
  rw [decideBrakeTest, if_neg (not_not.mpr hrest), if_neg hfree,
    if_neg fun h => (brakeMask_bad_iff mask).mp h hmask]

end

/-- The test that each of the three masks starts (R66, R67). -/
theorem started_of_mask (t : BrakeTest) (hmask : mask = 1 ∨ mask = 2 ∨ mask = 3) (v : Nat) :
    t.started (mask.getLsbD 0) (mask.getLsbD 1) v =
      { state := .active, selSvc := decide (mask ≠ 2), selEmg := decide (mask ≠ 1), vTest := v,
        abortPending := false, failureMark := false,
        svc := ⟨if mask = 2 then .idle else .waiting, 0, 0, 0, 0, 0, 0⟩,
        emg := ⟨if mask = 2 then .waiting else .idle, 0, 0, 0, 0, 0, 0⟩,
        svcFailed := t.svcFailed, emgFailed := t.emgFailed } := by
  obtain rfl | rfl | rfl := hmask <;> rfl

/-! ### BRAKE_TEST_ABORT (R75) -/

/-- The stage of a status, SERVICE first. -/
theorem BrakeTest.exists_inTurn {t : BrakeTest} {st : StageStatus}
    (h : t.svc.status = st ∨ (¬ t.svc.live ∧ t.emg.status = st)) : ∃ id, (t.stage id).status = st ∧ t.InTurn id := by
  obtain hsvc | ⟨hturn, hemg⟩ := h
  · exact ⟨.service, hsvc, t.service_inTurn⟩
  · exact ⟨.emergency, hemg, fun _ => hturn⟩

/-- A live stage in its turn is the current one (R66). -/
theorem BrakeTest.current_of_inTurn {t : BrakeTest} (hlive : (t.stage id).live) (hturn : t.InTurn id) :
    t.current = some id := by
  cases id with
  | service => exact if_pos hlive
  | emergency => exact (if_neg (hturn rfl)).trans (if_pos hlive)

/-- Of a WAITING stage in its turn: it is SERVICE exactly if SERVICE is WAITING. -/
theorem BrakeTest.service_waiting_iff {t : BrakeTest} (h : (t.stage id).status = .waiting) (hturn : t.InTurn id) :
    t.svc.status = .waiting ↔ id = .service := by
  cases id with
  | service => exact iff_of_true h rfl
  | emergency => exact iff_of_false (fun hsvc => hturn rfl (.inl hsvc)) nofun

theorem decideAbort_of_inactive (h : s.test.state ≠ .active) : decideAbort s = refuse .nothingActive s :=
  if_neg h

theorem decideAbort_of_braking (hactive : s.test.state = .active) (h : (s.test.stage id).status = .braking)
    (hturn : s.test.InTurn id) : decideAbort s = accept [] (s.withTest { s.test with abortPending := true }) := by
  simp [decideAbort, hactive, BrakeTest.current_of_inTurn (.inr h) hturn, h]

theorem decideAbort_of_waiting (hactive : s.test.state = .active) (h : (s.test.stage id).status = .waiting)
    (hturn : s.test.InTurn id) : decideAbort s = accept [] (abortWaiting id s) := by
  simp [decideAbort, hactive, BrakeTest.current_of_inTurn (.inl h) hturn, h]

/-- The test with its WAITING stage aborted (R75). -/
def BrakeTest.waitingAborted (t : BrakeTest) : BrakeTest :=
  if t.svc.status = .waiting then { t with state := .idle, svc := { t.svc with status := .aborted } }
  else { t with state := .idle, emg := { t.emg with status := .aborted } }

/-- The WAITING stage aborted, with its BRAKE_TEST_RESULT (R75, R77). -/
def State.abortRaised (s : State) : State :=
  raise .brakeTestResult
    ((if s.test.svc.status = .waiting then (1 : Byte) else (2 : Byte)) ++ (3 : Byte) ++ (0 : BitVec 16))
    { s with test := s.test.waitingAborted }

theorem abortWaiting_eq (h : (s.test.stage id).status = .waiting) (hturn : s.test.InTurn id) :
    abortWaiting id s = s.abortRaised := by
  have hservice := BrakeTest.service_waiting_iff h hturn
  unfold State.abortRaised BrakeTest.waitingAborted
  cases id with
  | service =>
    rw [if_pos (hservice.mpr rfl), if_pos (hservice.mpr rfl)]
    rfl
  | emergency =>
    have hother : s.test.svc.status ≠ .waiting := fun hsvc => nomatch hservice.mp hsvc
    rw [if_neg hother, if_neg hother]
    rfl

@[simp] theorem abortRaised_frame (s : State) : s.abortRaised.test = s.test.waitingAborted ∧
    s.abortRaised.rif.reply = s.rif.reply ∧ s.abortRaised.hlc = s.hlc ∧ s.abortRaised.brs = s.brs ∧
    s.abortRaised.env = s.env ∧ s.abortRaised.moe = s.moe ∧ s.abortRaised.dru = s.dru ∧ s.abortRaised.adu = s.adu ∧
    s.abortRaised.mga = s.mga := by
  simp [State.abortRaised]

theorem abortRaised_count (s : State) : s.abortRaised.rpu.slots[EventKind.brakeTestResult.code].count =
    satAdd s.rpu.slots[EventKind.brakeTestResult.code].count 1 := by
  rw [State.abortRaised, raise_count, if_pos rfl]

end

/-- Settles O27: a request is refused by the checks of `decideBrakeTest` in order, or starts the test; an abort is
decided by the stage in its turn. -/
theorem brakeTestStartsAndAborts : Obligations.BrakeTestStartsAndAborts := by
  unfold Obligations.BrakeTestStartsAndAborts
  refine ⟨fun s arr tag mask v1 v0 l h hl => ?start, fun s arr tag h => ⟨fun hinactive => ?inactive,
    fun hactive hbraking => ?braking, fun hactive hwaiting => ?waiting⟩⟩
  case start =>
    have hrefused : ∀ r, decideBrakeTest mask (v1 ++ v0).toNat (s.asked arr) = refuse r (s.asked arr) →
        exec (.brakeTest arr tag [mask, v1, v0]) s =
          .next { begin arr.elapsed s with rif := s.answered (mgmtReply s arr 0x0E tag r.code []) } :=
      fun r hd => exec_of_refused (code := 0x0E) rfl rfl h hd
    have hmax : (s.asked arr).param (·.vLineMax) 0 = l.vLineMax := param_of_line (s := s.asked arr) hl (·.vLineMax)
    refine ⟨fun hstate => hrefused .state (decideBrakeTest_of_state (s := s.asked arr) hstate),
      fun hrest => ⟨fun hbusy => hrefused .busy (decideBrakeTest_of_busy (s := s.asked arr) hrest hbusy),
        fun hfree => ⟨fun h1 h2 h3 => hrefused .badMask
          (decideBrakeTest_of_mask (s := s.asked arr) hrest hfree
            fun hmask => hmask.elim h1 fun hmask => hmask.elim h2 h3), fun hmask => ?_⟩⟩⟩
    have hd := decideBrakeTest_of_speed (s := s.asked arr) (v := (v1 ++ v0).toNat) hrest hfree hmask
    rw [hmax] at hd
    refine ⟨fun hrange => hrefused .range (hd.trans (if_pos hrange)), fun hlow hhigh => ?_⟩
    rw [if_neg (by omega), started_of_mask _ hmask] at hd
    exact exec_of_decided (c := .brakeTest arr tag [mask, v1, v0]) rfl h hd rfl
  case inactive =>
    exact exec_of_refusal (c := .brakeTestAbort arr tag []) rfl h (decideAbort_of_inactive (s := s.asked arr) hinactive)
  case braking =>
    obtain ⟨id, hstage, hturn⟩ := BrakeTest.exists_inTurn hbraking
    exact exec_of_decided (c := .brakeTestAbort arr tag []) rfl h
      (decideAbort_of_braking (s := s.asked arr) hactive hstage hturn) rfl
  case waiting =>
    obtain ⟨id, hstage, hturn⟩ := BrakeTest.exists_inTurn hwaiting
    have hd := decideAbort_of_waiting (s := s.asked arr) hactive hstage hturn
    rw [abortWaiting_eq (s := s.asked arr) hstage hturn] at hd
    have hexec := exec_of_decided (c := .brakeTestAbort arr tag []) rfl h hd (by simp [accept])
    have hreply : (s.asked arr).abortRaised.rif.reply = s.rif.reply := by simp
    refine ⟨?_, _, hexec, ?_⟩
    · rw [hexec, accept, State.replied, hreply]
      rfl
    · simp only [accept, replied_frame, abortRaised_frame, abortRaised_count, asked_frame, asked_kept,
        and_true, true_and]
      exact ⟨rfl, rfl⟩

end Sys2Proof.Machine

end

/-! ## The arm expiry and the drive record (R89, R90, R93, R98) -/

section

namespace Sys2Proof.Machine

/-! ### Steps that take no pending activation (R178) -/

/-- A step that does not lead into PARKED or TRIPPED is over with its act. -/
theorem settle_of_staying {before after : State} (h : after.hlc.state = before.hlc.state ∨
    (after.hlc.state ≠ .parked ∧ after.hlc.state ≠ .tripped)) : settle before after = after := by
  refine if_neg fun ⟨hchanged, hrest⟩ => ?_
  obtain hsame | ⟨hparked, htripped⟩ := h
  · exact hchanged hsame
  · exact hrest.elim hparked htripped

/-- What is said of the act of such a step is said of the state it completes in. -/
theorem completes_of_act {s : State} {c : Instr} {e : Time} {P : State → Prop} (he : rowElapsed c = some e)
    (hrun : s.inReset = false)
    (hstays : (rowAct c (begin e s)).hlc.state = s.hlc.state ∨
      ((rowAct c (begin e s)).hlc.state ≠ .parked ∧ (rowAct c (begin e s)).hlc.state ≠ .tripped))
    (hP : P (rowAct c (begin e s))) : Completes c s P :=
  ⟨_, (exec_of_running he hrun).trans (congrArg _ (settle_of_staying hstays)), hP⟩

theorem Settles.imp {c : Instr} {s : State} {P Q : State → Prop} (h : Settles c s P) (hPQ : ∀ t, P t → Q t) :
    Settles c s Q := by
  obtain ⟨e, u, he, hexec, hP, hmga⟩ := h
  exact ⟨e, u, he, hexec, hPQ u hP, hmga⟩

theorem Completes.imp {c : Instr} {s : State} {P Q : State → Prop} (h : Completes c s P) (hPQ : ∀ t, P t → Q t) :
    Completes c s Q := by
  obtain ⟨t, hexec, hP⟩ := h
  exact ⟨t, hexec, hPQ t hP⟩

/-- At rest SB_DEMAND is asserted and DRIVE_ENABLE is not (R81). -/
theorem outputs_of_rest {s : State} (hrun : s.inReset = false) (hrest : s.hlc.state.atRest = true) :
    s.sbDemand = true ∧ s.driveEnable = false := by
  obtain h | h | h := (HaulState.atRest_iff _).mp hrest <;> simp [State.sbDemand, State.driveEnable, hrun, h]

theorem Origin.toState_atRest (o : Origin) : o.toState.atRest = true := by
  cases o <;> rfl

/-! ### The arm expiry (R89) -/

section

variable {s : State} {o : Origin} {l : Line}

theorem armExpiry_of_idle (h : s.hlc.state ≠ .armed ∨ due s.hlc.armTimer s.clock = false) : armExpiry s = s := by
  refine if_neg fun ⟨harmed, hdue⟩ => ?_
  obtain hother | hearly := h
  · exact hother harmed
  · simp [hearly] at hdue

/-- The return to the origin with ARM_TIMEOUT: the origin, the target and t_arm (R89). -/
def State.armTimedOut (s : State) (o : Origin) (l : Line) : State :=
  raise .armTimeout (o.toState.code ++ indexByte s.hlc.target ++ BitVec.ofNat 16 l.tArm) (returnToOrigin s)

theorem armExpiry_of_due (harmed : s.hlc.state = .armed) (hdue : due s.hlc.armTimer s.clock = true)
    (ho : s.hlc.origin = some o) (hl : s.line = some l) : armExpiry s = s.armTimedOut o l := by
  rw [armExpiry, if_pos ⟨harmed, hdue⟩, ho, param_of_line hl]
  rfl

/-- The haul back at its origin and the forced set-point, under the event. -/
theorem armTimedOut_returns (ho : s.hlc.origin = some o) :
    (s.armTimedOut o l).hlc = { s.hlc with state := o.toState, boardingOpen := false, armTimer := none } ∧
    (s.armTimedOut o l).env = { s.env with mode := .off, e := 0 } ∧
    (s.armTimedOut o l).rif.force = some (s.forcedZero s.rif.txSeq) ∧
    (s.armTimedOut o l).rpu.slots[EventKind.armTimeout.code].count =
      satAdd s.rpu.slots[EventKind.armTimeout.code].count 1 ∧
    (s.armTimedOut o l).brs.tier = .normal := by
  obtain ⟨-, henv⟩ := returnToOrigin_of_origin ho
  obtain ⟨htier, -⟩ := returnToOrigin_tier s
  have hcount : (s.armTimedOut o l).rpu.slots[EventKind.armTimeout.code].count =
      satAdd s.rpu.slots[EventKind.armTimeout.code].count 1 := by
    simp only [State.armTimedOut, raise_count, if_true, returnToOrigin_frame]
  refine ⟨?_, ?_, ?_, hcount, ?_⟩ <;>
    simp [State.armTimedOut, returnToOrigin_hlc ho, henv, returnToOrigin_force, htier]

@[simp] theorem armTimedOut_frame (s : State) (o : Origin) (l : Line) :
    (s.armTimedOut o l).inReset = s.inReset ∧ (s.armTimedOut o l).moe = s.moe ∧ (s.armTimedOut o l).dru = s.dru ∧
    (s.armTimedOut o l).mga = s.mga ∧ (s.armTimedOut o l).test = s.test := by
  simp [State.armTimedOut]

end

/-- Settles O30: the expiry is `State.armTimedOut` where it is reached in ARMED, and nothing elsewhere. -/
theorem armExpiryReturnsTheHaulToItsOrigin : Obligations.ArmExpiryReturnsTheHaulToItsOrigin := by
  unfold Obligations.ArmExpiryReturnsTheHaulToItsOrigin
  intro s e hrun
  refine ⟨fun hidle => exec_of_idle rfl hrun (armExpiry_of_idle (s := begin e s) hidle),
    fun harmed hdue o l ho hl => ?_⟩
  have hact : rowAct (.armExpiry e) (begin e s) = (begin e s).armTimedOut o l :=
    armExpiry_of_due (s := begin e s) harmed hdue ho hl
  obtain ⟨hhlc, henv, hforce, hcount, htier⟩ := armTimedOut_returns (s := begin e s) (l := l) ho
  obtain ⟨hreset, hmoe, hdru, hmga, htest⟩ := armTimedOut_frame (begin e s) o l
  obtain ⟨hbrake, hdrive⟩ := outputs_of_rest (hreset.trans hrun) (by rw [hhlc]; exact o.toState_atRest)
  refine ⟨by rw [exec_of_running (e := e) rfl hrun, hact]; rfl,
    settles_of_act (e := e) rfl hrun (by rw [hact]; exact hmga) ?_⟩
  rw [hact]
  exact ⟨hhlc, henv, hforce, hcount, htier, hbrake, hdrive, hmoe, hdru, hmga, htest⟩

/-! ### The drive record (R98) -/

section

variable {s : State}

theorem driveLost_of_rest (h : s.hlc.state.atRest = true) : driveLost s = s :=
  if_pos h

theorem driveLost_of_run (h : s.hlc.state.atRest = false) : driveLost s = demand .drive s :=
  if_neg (by simp [h])

/-- The haul record with another drive record. -/
def Hlc.withDrive (x : Hlc) (d : Drive) : Hlc := { x with drive := d }

theorem driveExpiry_of_early (h : due s.hlc.drive.expiry s.clock = false) : driveExpiry s = s :=
  if_neg (by simp [h])

theorem driveExpiry_of_due (h : due s.hlc.drive.expiry s.clock = true) : driveExpiry s =
    driveLost (s.withHlc (s.hlc.withDrive { s.hlc.drive with expiry := none })) :=
  if_pos h

/-- The state in which the drive expiry has been made idle. -/
def State.driveLapsed (s : State) (e : Time) : State :=
  (begin e s).withHlc (s.hlc.withDrive { s.hlc.drive with expiry := none })

/-- The record of a DRIVE_STATUS (R98). -/
def State.driveReported (s : State) (ready fault v1 v0 : Byte) (now : Time) : Drive :=
  { ready := ready, fault := fault, speed := v1 ++ v0, arrival := some now,
    expiry := s.line.map fun l => { start := now, dur := l.tDriveFresh } }

variable {ready fault v1 v0 : Byte}

theorem takeDrive_of_ready (h : ready = 1) : takeDrive [ready, fault, v1, v0] s =
    s.withHlc (s.hlc.withDrive (s.driveReported ready fault v1 v0 s.clock)) :=
  if_pos h

theorem takeDrive_of_not_ready (h : ready ≠ 1) : takeDrive [ready, fault, v1, v0] s =
    driveLost (s.withHlc (s.hlc.withDrive (s.driveReported ready fault v1 v0 s.clock))) :=
  if_neg h

/-- The state in which a DRIVE_STATUS that passes by has been stored. -/
def State.drivePassed (s : State) (arr : Arrival) (ready fault v1 v0 : Byte) : State :=
  (s.passed arr 0x21 [ready, fault, v1, v0]).withHlc
    (s.hlc.withDrive (s.driveReported ready fault v1 v0 (s.clock + arr.elapsed)))

/-- A DRIVE_STATUS of the drive that passes by is stored; its loss of readiness is judged out of rest (R98). -/
theorem rowAct_driveStatus {arr : Arrival} (h : PassesBy s arr 0x21 [ready, fault, v1, v0])
    (hrole : s.roleOf arr.src = some .drive) :
    (ready = 1 → rowAct (.driveStatus arr [ready, fault, v1, v0]) (begin arr.elapsed s) =
      s.drivePassed arr ready fault v1 v0) ∧
    (ready ≠ 1 → rowAct (.driveStatus arr [ready, fault, v1, v0]) (begin arr.elapsed s) =
      driveLost (s.drivePassed arr ready fault v1 v0)) := by
  have hhand : (begin arr.elapsed s).roleOf (frameOf arr 0x21 [ready, fault, v1, v0]).src = some .drive := hrole
  have hdeal : rowAct (.driveStatus arr [ready, fault, v1, v0]) (begin arr.elapsed s) =
      takeDrive [ready, fault, v1, v0] (s.passed arr 0x21 [ready, fault, v1, v0]) := by
    rw [rowAct_of_arrives (kind := 0x21) (payload := [ready, fault, v1, v0]) rfl h.toArrives h.fromOther]
    change dealDrive (frameOf arr 0x21 [ready, fault, v1, v0]) (begin arr.elapsed s) = _
    rw [dealDrive, if_pos hhand]
    exact dealRead_of_passes h rfl _
  exact ⟨fun hready => hdeal.trans (takeDrive_of_ready hready),
    fun hready => hdeal.trans (takeDrive_of_not_ready hready)⟩

/-! ### Readiness lost out of rest (R90, R93, R94) -/

variable {c : Instr} {e : Time} {u : State}

theorem completes_driveLost_of_running (he : rowElapsed c = some e) (hrun : s.inReset = false)
    (hact : rowAct c (begin e s) = driveLost u) (hst : u.hlc.state = .running) : Completes c s fun t =>
      t.hlc = { u.hlc with state := .serviceStop, stopCause := some .drive, further := 0 } ∧
      t.rif.fifo = u.rif.fifo ∧ t.rif.force = some (u.forcedZero u.rif.txSeq) ∧ t.brs.sup.active = true ∧
      t.moe = u.moe ∧ t.dru = u.dru ∧ t.adu = u.adu ∧ t.mga = u.mga := by
  rw [driveLost_of_run (HaulState.atRest_of_run (by simp [hst]))] at hact
  obtain ⟨hhlc, -, -, hsup, hforce, -, hadu⟩ := demand_stops (cause := .drive) hst
  refine completes_of_act he hrun (.inr ?_) ?_
  · rw [hact, hhlc]
    exact ⟨nofun, nofun⟩
  · rw [hact]
    exact ⟨hhlc, (Undisturbed.demand .drive u).fifo, hforce, by rw [hsup], by simp, by simp, hadu, by simp⟩

theorem settles_driveLost_of_armed (he : rowElapsed c = some e) (hrun : s.inReset = false)
    (hact : rowAct c (begin e s) = driveLost u) (hmga : u.mga = s.mga) (hst : u.hlc.state = .armed) {o : Origin}
    (ho : u.hlc.origin = some o) : Settles c s fun t =>
      t.hlc = { u.hlc with state := o.toState, boardingOpen := false, armTimer := none } ∧
      t.rif.fifo = u.rif.fifo ∧ t.rif.force = some (u.forcedZero u.rif.txSeq) ∧
      t.env = { u.env with mode := .off, e := 0 } ∧ t.moe = u.moe ∧ t.dru = u.dru ∧ t.mga = u.mga := by
  rw [driveLost_of_run (HaulState.atRest_of_run (by simp [hst]))] at hact
  obtain ⟨hhlc, henv, -, -, hforce, -⟩ := demand_returns (cause := .drive) hst ho
  refine settles_of_act he hrun (by rw [hact]; simpa using hmga) ?_
  rw [hact]
  exact ⟨hhlc, (Undisturbed.demand .drive u).fifo, hforce, henv, by simp, by simp, by simp⟩

theorem completes_driveLost_of_stopped (he : rowElapsed c = some e) (hrun : s.inReset = false)
    (hact : rowAct c (begin e s) = driveLost u) (hsame : u.hlc.state = s.hlc.state) (hst : u.hlc.state = .serviceStop) :
    Completes c s fun t =>
      t.hlc = { u.hlc with further := min (u.hlc.further + 1) 255 } ∧ t.env = u.env ∧ t.brs = u.brs ∧
      t.moe = u.moe ∧ t.dru = u.dru ∧ t.adu = u.adu ∧ t.mga = u.mga := by
  rw [driveLost_of_run (HaulState.atRest_of_run (by simp [hst]))] at hact
  obtain ⟨hhlc, henv, hbrs, hadu, -⟩ := demand_counts_further (cause := .drive) hst
  refine completes_of_act he hrun (.inl ?_) ?_
  · rw [hact, hhlc]
    exact hsame
  · rw [hact]
    exact ⟨hhlc, henv, hbrs, by simp, by simp, hadu, by simp⟩

end

/-- Settles O31: a report and an expiry change the drive record, and where readiness is lost out of rest the demand
acts on that state by its haul state. -/
theorem driveReadinessIsJudged : Obligations.DriveReadinessIsJudged := by
  unfold Obligations.DriveReadinessIsJudged
  refine ⟨fun s arr r f v1 v0 h hrole => ?status, fun s e hrun => ⟨fun hearly => ?early, fun hdue => ?expired⟩⟩
  case early => exact exec_of_idle rfl hrun (driveExpiry_of_early (s := begin e s) hearly)
  case status =>
    intro now d
    obtain ⟨hstored, hlost⟩ := rowAct_driveStatus h hrole
    refine ⟨fun hquiet => ?quiet, fun hready hst => ?running, fun hready hst o ho => ?armed, fun hready hst => ?stopped⟩
    case quiet =>
      have hact : rowAct (.driveStatus arr [r, f, v1, v0]) (begin arr.elapsed s) = s.drivePassed arr r f v1 v0 := by
        by_cases hready : r = 1
        · exact hstored hready
        · exact (hlost hready).trans (driveLost_of_rest ((HaulState.atRest_iff _).mpr (hquiet.resolve_left hready)))
      rw [exec_of_running (e := arr.elapsed) rfl h.running, hact]
      exact congrArg _ (settle_of_same rfl)
    case running =>
      exact completes_driveLost_of_running (u := s.drivePassed arr r f v1 v0) rfl h.running (hlost hready) hst
    case armed =>
      refine (settles_driveLost_of_armed (u := s.drivePassed arr r f v1 v0) rfl h.running (hlost hready) rfl hst
        ho).imp fun t ht => ?_
      obtain ⟨hhlc, hfifo, -, -, hmoe, hdru, hmga⟩ := ht
      exact ⟨hhlc, hfifo, hmoe, hdru, hmga⟩
    case stopped =>
      exact completes_driveLost_of_stopped (u := s.drivePassed arr r f v1 v0) rfl h.running (hlost hready) rfl hst
  case expired =>
    have hact : rowAct (.driveExpiry e) (begin e s) = driveLost (s.driveLapsed e) :=
      driveExpiry_of_due (s := begin e s) hdue
    refine ⟨fun hrest => ?rest, fun hst => ?running, fun hst o ho => ?armed, fun hst => ?stopped⟩
    case rest =>
      rw [driveLost_of_rest (s := s.driveLapsed e) ((HaulState.atRest_iff _).mpr hrest)] at hact
      rw [exec_of_running (e := e) rfl hrun, hact]
      exact congrArg _ (settle_of_same rfl)
    case running =>
      refine (completes_driveLost_of_running (u := s.driveLapsed e) rfl hrun hact hst).imp fun t ht => ?_
      obtain ⟨hhlc, -, hrest⟩ := ht
      exact ⟨hhlc, hrest⟩
    case armed =>
      refine (settles_driveLost_of_armed (u := s.driveLapsed e) rfl hrun hact rfl hst ho).imp fun t ht => ?_
      obtain ⟨hhlc, -, hrest⟩ := ht
      exact ⟨hhlc, hrest⟩
    case stopped => exact completes_driveLost_of_stopped (u := s.driveLapsed e) rfl hrun hact rfl hst

end Sys2Proof.Machine

end

/-! ## The line commands OPEN, CLOSE_BOARDING, STOP and PARK (R82–R85, R91, R92, R148) -/

section

namespace Sys2Proof.Machine

/-! ### Accepted line commands (R83, R164) -/

/-- A state with the acceptance of a line command behind the replies that the command has found in REPLY. -/
def State.lineAccepted (u s : State) (arr : Arrival) (tag command : Byte) : State :=
  { u with rif := { u.rif with reply := s.rif.reply ++ [lineReply s arr tag 0x50 command 0x00] } }

@[simp] theorem lineAccepted_frame (u s : State) (arr : Arrival) (tag command : Byte) :
    (u.lineAccepted s arr tag command).inReset = u.inReset ∧ (u.lineAccepted s arr tag command).mga = u.mga ∧
    (u.lineAccepted s arr tag command).moe = u.moe ∧ (u.lineAccepted s arr tag command).hlc = u.hlc ∧
    (u.lineAccepted s arr tag command).env = u.env ∧ (u.lineAccepted s arr tag command).brs = u.brs ∧
    (u.lineAccepted s arr tag command).test = u.test ∧ (u.lineAccepted s arr tag command).dru = u.dru ∧
    (u.lineAccepted s arr tag command).adu = u.adu ∧ (u.lineAccepted s arr tag command).rpu = u.rpu ∧
    (u.lineAccepted s arr tag command).rif.force = u.rif.force :=
  ⟨rfl, rfl, rfl, rfl, rfl, rfl, rfl, rfl, rfl, rfl, rfl⟩

section

variable {s u : State} {c : Instr} {arr : Arrival} {command argument tag : Byte}

/-- An accepted line command is the state of its decision with the reply placed. -/
theorem rowAct_of_accepted_line (hc : rowFrame c = some (arr, 0x50, [command, argument, tag]))
    (h : ConsoleArrives s arr 0x50 [command, argument, tag])
    (hd : decideLine command argument (s.asked arr) = (.accepted, u)) (hreply : u.rif.reply = s.rif.reply) :
    rowAct c (begin arr.elapsed s) = u.lineAccepted s arr tag command := by
  rw [rowAct_of_console hc h, hd, State.lineReplied, hreply]
  rfl

/-- An accepted line command before the end of its step takes a pending activation. -/
theorem exec_of_accepted_line (he : rowElapsed c = some arr.elapsed)
    (hc : rowFrame c = some (arr, 0x50, [command, argument, tag]))
    (h : ConsoleArrives s arr 0x50 [command, argument, tag])
    (hd : decideLine command argument (s.asked arr) = (.accepted, u)) (hreply : u.rif.reply = s.rif.reply) :
    exec c s = .next (settle (begin arr.elapsed s) (u.lineAccepted s arr tag command)) := by
  rw [exec_of_running he h.running, rowAct_of_accepted_line hc h hd hreply]

end

/-! ### OPEN (R82, R84) -/

/-- The search for a berth is the search for the first stop whose window contains the position. -/
theorem findBerth_eq (pos : Int) (i : Nat) (stops : List Stop) :
    findBerth pos i stops = (stops.findIdx? (·.contains pos)).map (· + i) := by
  induction stops generalizing i with
  | nil => rfl
  | cons st rest ih =>
    rw [findBerth, List.findIdx?_cons]
    split
    · simp
    · rw [ih, Option.map_map]
      congr 1
      funext j
      simp only [Function.comp_apply]
      omega

theorem berthing_eq_some_iff {s : State} {pos : Int} {i : Nat} : s.berthing pos = some i ↔
    ∃ st, s.stops[i]? = some st ∧ (pos - st.pos).natAbs ≤ st.half ∧
      ∀ j, j < i → ∀ st', s.stops[j]? = some st' → st'.half < (pos - st'.pos).natAbs := by
  simp only [State.berthing, findBerth_eq, Nat.add_zero, Option.map_id', List.findIdx?_eq_some_iff_getElem,
    Stop.contains, decide_eq_true_eq, Nat.not_le]
  constructor
  · rintro ⟨hi, hat, hbelow⟩
    refine ⟨_, List.getElem?_eq_getElem hi, hat, fun j hj st' hst' => ?_⟩
    obtain ⟨-, rfl⟩ := List.getElem?_eq_some_iff.mp hst'
    exact hbelow j hj
  · rintro ⟨st, hst, hat, hbelow⟩
    obtain ⟨hi, rfl⟩ := List.getElem?_eq_some_iff.mp hst
    exact ⟨hi, hat, fun j hj => hbelow j hj _ (List.getElem?_eq_getElem (hj.trans hi))⟩

section

variable {s : State}

theorem anyFailed_iff (t : BrakeTest) : t.anyFailed = true ↔ t.svcFailed = true ∨ t.emgFailed = true := by
  simp [BrakeTest.anyFailed]

/-- The haul stands at rest, its position trusted (R84). -/
def State.Berthed (s : State) : Prop := s.moe.still = true ∧ s.moe.status.trusted = true

theorem berthable_of_berthed (h : s.Berthed) : s.berthable = s.berthing s.moe.last.posA := by
  obtain ⟨hstill, htrusted⟩ := h
  simp [State.berthable, hstill, htrusted]

theorem berthable_of_not_berthed (h : ¬ s.Berthed) : s.berthable = none :=
  if_neg (by simpa [State.Berthed] using h)

theorem openLine_of_moving (h : s.hlc.state = .armed ∨ s.hlc.state = .running ∨ s.hlc.state = .serviceStop ∨
    s.hlc.state = .tripped) : openLine s = (.state, s) := by
  obtain h | h | h | h := h <;> simp only [openLine, h]

theorem openLine_of_no_berth (h : s.hlc.state = .parked) (hberth : s.berthable = none) :
    openLine s = (.notBerthed, s) := by
  simp only [openLine, h, hberth]

/-- In PARKED at a stop the brakes decide. -/
theorem openLine_of_berth (h : s.hlc.state = .parked) {i : Nat} (hberth : s.berthable = some i) :
    openLine s = if s.test.anyFailed then (.brakeTestFailed, s)
      else (.accepted, enterRest .boarding (some i) true s) := by
  simp only [openLine, h, hberth]

theorem openLine_of_open (h : s.hlc.state = .boarding) (hopen : s.hlc.boardingOpen = true) :
    openLine s = (.alreadyOpen, s) := by
  simp only [openLine, h, hopen, if_true]

/-- In BOARDING with boarding closed the brakes decide. -/
theorem openLine_of_closed (h : s.hlc.state = .boarding) (hclosed : s.hlc.boardingOpen = false) :
    openLine s = if s.test.anyFailed then (.brakeTestFailed, s)
      else (.accepted, s.withHlc { s.hlc with boardingOpen := true }) := by
  simp [openLine, h, hclosed]

end

/-- Settles O32: the berth is the first stop that `List.findIdx?` finds, and OPEN is refused by the checks of
`openLine` in order or enters BOARDING there. -/
theorem openBerthsTheHaul : Obligations.OpenBerthsTheHaul := by
  unfold Obligations.OpenBerthsTheHaul
  refine ⟨fun s pos i => berthing_eq_some_iff, fun s arr argument tag h => ?_⟩
  intro refused failed berthed
  have hrefused : ∀ {r : LineResult}, openLine (s.asked arr) = (r, s.asked arr) → refused r.code :=
    fun hd => exec_of_refused_line (c := .lineOpen arr argument tag) rfl rfl h hd
  have hact : ∀ {u : State}, openLine (s.asked arr) = (.accepted, u) → u.rif.reply = s.rif.reply →
      rowAct (.lineOpen arr argument tag) (begin arr.elapsed s) = u.lineAccepted s arr tag 0x01 :=
    fun hd hreply => rowAct_of_accepted_line (c := .lineOpen arr argument tag) rfl h hd hreply
  refine ⟨fun hmoving => hrefused (openLine_of_moving (s := s.asked arr) hmoving),
    fun hparked haway => hrefused (openLine_of_no_berth (s := s.asked arr) hparked ?away),
    fun hparked hberthed i hi => ?berth,
    fun hboarding hopen => hrefused (openLine_of_open (s := s.asked arr) hboarding hopen),
    fun hboarding hclosed => ?reopen⟩
  case away =>
    by_cases hberthed : berthed
    · exact (berthable_of_berthed (s := s.asked arr) hberthed).trans (haway.resolve_left (not_not.mpr hberthed))
    · exact berthable_of_not_berthed (s := s.asked arr) hberthed
  case berth =>
    have hd := openLine_of_berth (s := s.asked arr) hparked
      ((berthable_of_berthed (s := s.asked arr) hberthed).trans hi)
    refine ⟨fun hfailed => hrefused (hd.trans (if_pos ((anyFailed_iff _).mpr hfailed))), fun hsound => ?_⟩
    have hact := hact (hd.trans (if_neg (mt (anyFailed_iff _).mp hsound))) (by simp)
    have henv := enterRest_env (st := .boarding) rfl (some i) true (s.asked arr)
    refine completes_of_act (e := arr.elapsed) rfl h.running (.inr (by simp [hact])) ?_
    rw [hact]
    refine ⟨by simp, by simp [henv], by simp [enterRest_adu], ?_, by simp, by simp, by simp, by simp, by simp, by simp⟩
    simp only [State.lineAccepted, enterRest_frame]
    rfl
  case reopen =>
    have hd := openLine_of_closed (s := s.asked arr) hboarding hclosed
    refine ⟨fun hfailed => hrefused (hd.trans (if_pos ((anyFailed_iff _).mpr hfailed))), fun hsound => ?_⟩
    rw [exec_of_running (e := arr.elapsed) rfl h.running,
      hact (hd.trans (if_neg (mt (anyFailed_iff _).mp hsound))) rfl]
    exact congrArg _ (settle_of_same rfl)

/-! ### CLOSE_BOARDING (R85) -/

/-- Settles O33: the one check of `closeBoarding`. -/
theorem closeBoardingEndsAdmission : Obligations.CloseBoardingEndsAdmission := by
  unfold Obligations.CloseBoardingEndsAdmission
  intro s arr argument tag h
  refine ⟨fun hopen => ?_, fun hclosed => ?_⟩
  · have hd : closeBoarding (s.asked arr) =
        (.accepted, (s.asked arr).withHlc { s.hlc with boardingOpen := false }) := if_pos hopen
    rw [exec_of_accepted_line (c := .closeBoarding arr argument tag) rfl rfl h hd rfl]
    exact congrArg _ (settle_of_same rfl)
  · exact exec_of_refused_line (c := .closeBoarding arr argument tag) (r := .state) rfl rfl h (if_neg hclosed)

/-! ### STOP (R91) -/

section

variable {s : State}

theorem stopLine_of_armed (h : s.hlc.state = .armed) : stopLine s = (.accepted, returnToOrigin s) := by
  simp only [stopLine, h]

theorem stopLine_of_run (h : s.hlc.state = .running ∨ s.hlc.state = .serviceStop) :
    stopLine s = (.accepted, demand .console s) := by
  obtain h | h := h <;> simp only [stopLine, h]

theorem stopLine_of_rest (h : s.hlc.state = .parked ∨ s.hlc.state = .boarding ∨ s.hlc.state = .tripped) :
    stopLine s = (.state, s) := by
  obtain h | h | h := h <;> simp only [stopLine, h]

/-- A STOP of a run keeps DRIVE_ENABLE, for its cause is not BRAKE_TEST (R81, R94). -/
theorem outputs_of_service_stop (hrun : s.inReset = false) (h : s.hlc.state = .serviceStop)
    (hcause : s.hlc.stopCause ≠ some .brakeTest) : s.sbDemand = true ∧ s.driveEnable = true := by
  simp [State.sbDemand, State.driveEnable, hrun, h, hcause]

variable {arr : Arrival} {argument tag : Byte}

theorem rowAct_lineStop_of_armed (h : ConsoleArrives s arr 0x50 [0x04, argument, tag]) (hst : s.hlc.state = .armed) :
    rowAct (.lineStop arr argument tag) (begin arr.elapsed s) =
      (returnToOrigin (s.asked arr)).lineAccepted s arr tag 0x04 :=
  rowAct_of_accepted_line (c := .lineStop arr argument tag) rfl h (stopLine_of_armed (s := s.asked arr) hst)
    (Undisturbed.returnToOrigin _).reply

theorem rowAct_lineStop_of_run (h : ConsoleArrives s arr 0x50 [0x04, argument, tag])
    (hst : s.hlc.state = .running ∨ s.hlc.state = .serviceStop) :
    rowAct (.lineStop arr argument tag) (begin arr.elapsed s) =
      (demand .console (s.asked arr)).lineAccepted s arr tag 0x04 :=
  rowAct_of_accepted_line (c := .lineStop arr argument tag) rfl h (stopLine_of_run (s := s.asked arr) hst)
    (Undisturbed.demand _ _).reply

end

/-! ### PARK (R92, R148) -/

section

variable {s : State}

theorem parkLine_of_state (h : s.hlc.state ≠ .boarding) : parkLine s = (.state, s) :=
  if_pos h

theorem parkLine_of_doors (h : s.hlc.state = .boarding)
    (hdoors : ¬ ∀ car side, (s.dru.door car side).state = .locked) : parkLine s = (.doors, s) := by
  rw [← Dru.allLocked_iff, Bool.not_eq_true] at hdoors
  simp [parkLine, h, hdoors]

theorem parkLine_of_locked (h : s.hlc.state = .boarding)
    (hdoors : ∀ car side, (s.dru.door car side).state = .locked) :
    parkLine s = (.accepted, parkGrants (enterRest .parked s.hlc.berth false s)) := by
  rw [← Dru.allLocked_iff] at hdoors
  simp [parkLine, h, hdoors]

/-- The Admission Unit without its grants, which are counted GRANT_PARKED (R148). -/
def Adu.parked (a : Adu) : Adu :=
  { a with grants := [], counters := bumpBy a.counters AduCounter.grantParked.idx a.grants.length }

/-- The grants removed, with one GRANT_EXPIRED where there was one (R148, R152). -/
theorem parkGrants_of_adu {a : Adu} (h : s.adu = a) : parkGrants s =
    if a.grants.length = 0 then s.withAdu a.parked
    else raise .grantExpired (BitVec.ofNat 8 a.grants.length ++ (0 : Byte) ++ (0xFF : Byte) ++ (0 : Byte))
      (s.withAdu a.parked) := by
  subst h
  rfl

theorem parkGrants_adu (s : State) : (parkGrants s).adu = s.adu.parked := by
  rw [parkGrants_of_adu rfl]
  split <;> simp

theorem parkGrants_sends (s : State) : (parkGrants s).rif.reply = s.rif.reply ∧
    (parkGrants s).rpu.slots[EventKind.grantExpired.code].count =
      if s.adu.grants.length = 0 then s.rpu.slots[EventKind.grantExpired.code].count
      else satAdd s.rpu.slots[EventKind.grantExpired.code].count 1 := by
  rw [parkGrants_of_adu rfl]
  split
  · exact ⟨rfl, rfl⟩
  · simp only [raise_kept, raise_count, if_true]
    exact ⟨rfl, rfl⟩

/-- What an accepted PARK leaves. -/
theorem parkGrants_enterRest (s : State) (berth : Option Nat) :
    let t := parkGrants (enterRest .parked berth false s)
    t.hlc = { s.hlc with state := .parked, berth := berth, boardingOpen := false, armTimer := none } ∧
    t.adu = s.adu.parked ∧ t.env = { s.env with mode := .off, e := 0 } ∧ t.rif.reply = s.rif.reply ∧
    t.rpu.slots[EventKind.grantExpired.code].count =
      (if s.adu.grants.length = 0 then s.rpu.slots[EventKind.grantExpired.code].count
       else satAdd s.rpu.slots[EventKind.grantExpired.code].count 1) ∧
    t.moe = s.moe ∧ t.dru = s.dru ∧ t.mga = s.mga ∧ t.test = s.test := by
  intro t
  have hadu : (enterRest .parked berth false s).adu = s.adu := by simp [enterRest_adu]
  obtain ⟨hreply, hcount⟩ := parkGrants_sends (enterRest .parked berth false s)
  simp only [enterRest_frame, hadu] at hreply hcount
  have henv := enterRest_env (st := .parked) rfl berth false s
  refine ⟨by simp [t], by rw [← hadu]; exact parkGrants_adu _, by simp [t, henv], hreply, hcount, ?_⟩
  simp [t]

end

/-- Settles O35: STOP is the return or the demand by haul state, PARK is `parkGrants` after the entry to PARKED, and a
code that is none of the five is refused. -/
theorem stopAndParkEndTheRunAndTheBoarding : Obligations.StopAndParkEndTheRunAndTheBoarding := by
  unfold Obligations.StopAndParkEndTheRunAndTheBoarding
  refine ⟨fun s arr argument tag h => ?stop, fun s arr argument tag h => ?park,
    fun s arr command argument tag h hc => ?unknown⟩
  case stop =>
    intro reply found answered
    have hanswered : ∀ {u : State}, stopLine (s.asked arr) = (.accepted, u) → Undisturbed (s.asked arr) u →
        answered u :=
      fun hd hkept => exec_of_accepted_line (c := .lineStop arr argument tag) rfl rfl h hd hkept.reply
    refine ⟨fun hst => hanswered (stopLine_of_armed (s := s.asked arr) hst) (.returnToOrigin _),
      fun hst => hanswered (stopLine_of_run (s := s.asked arr) hst) (.demand _ _),
      fun hst => exec_of_refused_line (c := .lineStop arr argument tag) (r := .state) rfl rfl h
        (stopLine_of_rest (s := s.asked arr) hst),
      fun hst o ho => ?armed, fun hst => ?running, fun hst => ?stopped⟩
    case armed =>
      have hact := rowAct_lineStop_of_armed h hst
      refine settles_of_act (e := arr.elapsed) rfl h.running (by rw [hact]; simp) ?_
      have hhlc := returnToOrigin_hlc (s := s.asked arr) ho
      obtain ⟨-, henv⟩ := returnToOrigin_of_origin (s := s.asked arr) ho
      have hforce := returnToOrigin_force (s.asked arr)
      rw [hact]
      exact ⟨hhlc, henv, rfl, hforce, by simp, by simp, by simp, by simp⟩
    case running =>
      have hact := rowAct_lineStop_of_run h (.inl hst)
      obtain ⟨hhlc, -, -, hsup, hforce, -, hadu⟩ := demand_stops (cause := .console) (s := s.asked arr) hst
      obtain ⟨-, -, hreset, -, -, -, hmga, hmoe, hdru⟩ := demand_frame .console (s.asked arr)
      obtain ⟨hbrake, hdrive⟩ := outputs_of_service_stop (hreset.trans h.running) (by rw [hhlc])
        (by rw [hhlc]; exact nofun)
      refine completes_of_act (e := arr.elapsed) rfl h.running (.inr ?_) ?_
      · rw [hact]
        simp only [lineAccepted_frame, hhlc]
        exact ⟨nofun, nofun⟩
      · rw [hact]
        exact ⟨hhlc, rfl, hforce, hbrake, hdrive, congrArg Supervision.active hsup, hmoe, hdru, hadu, hmga⟩
    case stopped =>
      have hact := rowAct_lineStop_of_run h (.inr hst)
      obtain ⟨hhlc, henv, hbrs, hadu, -⟩ := demand_counts_further (cause := .console) (s := s.asked arr) hst
      obtain ⟨-, -, -, -, -, -, hmga, hmoe, hdru⟩ := demand_frame .console (s.asked arr)
      refine completes_of_act (e := arr.elapsed) rfl h.running (.inl ?_) ?_
      · rw [hact]
        simp only [lineAccepted_frame, hhlc]
        rfl
      · rw [hact]
        exact ⟨hhlc, rfl, henv, hbrs, hmoe, hdru, hadu, hmga⟩
  case park =>
    intro refused n
    have hdecided : s.hlc.state = .boarding → (∀ car side, (s.dru.door car side).state = .locked) →
        decideLine 0x05 argument (s.asked arr) =
          (.accepted, parkGrants (enterRest .parked s.hlc.berth false (s.asked arr))) :=
      fun hst hdoors => parkLine_of_locked (s := s.asked arr) hst hdoors
    obtain ⟨hhlc, hadu, henv, hreply, hcount, hmoe, hdru, hmga, htest⟩ :=
      parkGrants_enterRest (s.asked arr) s.hlc.berth
    refine ⟨fun hst => exec_of_refused_line (c := .park arr argument tag) (r := .state) rfl rfl h
        (parkLine_of_state (s := s.asked arr) hst),
      fun hst hdoors => exec_of_refused_line (c := .park arr argument tag) (r := .doors) rfl rfl h
        (parkLine_of_doors (s := s.asked arr) hst hdoors),
      fun hst hdoors => ?parked, fun hst hdoors => ?answered⟩
    case parked =>
      have hact := rowAct_of_accepted_line (c := .park arr argument tag) rfl h (hdecided hst hdoors) hreply
      refine settles_of_act (e := arr.elapsed) rfl h.running (by rw [hact]; exact hmga) ?_
      rw [hact]
      exact ⟨hhlc, hadu, hcount, rfl, henv, hmoe, hdru, hmga, htest⟩
    case answered =>
      have hkept : (enterRest .parked s.hlc.berth false (s.asked arr)).adu = s.adu := by simp [enterRest_adu]
      intro parked removed u
      have hu : parkGrants (enterRest .parked s.hlc.berth false (s.asked arr)) = u := parkGrants_of_adu hkept
      rw [exec_of_accepted_line (c := .park arr argument tag) rfl rfl h (hdecided hst hdoors) hreply, hu]
      rfl
  case unknown =>
    have hlisted : ∀ k : Byte, k.toNat ≤ 5 → k ≠ 0 → command ≠ k := by
      rintro k hk h0 rfl
      exact hc.elim h0 (Nat.not_lt.mpr hk)
    refine exec_of_refused_line (c := .unknownCommand arr command argument tag) (r := .unknownCommand) rfl rfl h ?_
    simp [decideLine, hlisted]

end Sys2Proof.Machine

end

/-! ## Door reports (R99, R104, R109, R112–R115) -/

section

namespace Sys2Proof.Machine

/-! ### The DOOR class stands where no command is placed (R108) -/

theorem placeKind_door (k : Fin 28) (s : State) : (placeKind k s).rif.door = s.rif.door := by
  unfold placeKind
  split <;> simp [placeReport]

theorem selectUpTo_door (n : Nat) (s : State) : (selectUpTo n s).rif.door = s.rif.door := by
  induction n generalizing s with
  | zero => rfl
  | succ n ih =>
    unfold selectUpTo
    split
    · cases s.nextKind with
      | some k => exact (ih _).trans (placeKind_door k s)
      | none => rfl
    · rfl

@[simp] theorem raise_door (k : EventKind) (detail : BitVec 32) (s : State) :
    (raise k detail s).rif.door = s.rif.door := by
  rw [raise_eq]
  split
  · rw [selectReports]
    split
    · rfl
    · exact selectUpTo_door _ _
  · rfl

@[simp] theorem placeForce_door (s : State) : (placeForce s).rif.door = s.rif.door := by
  simp only [placeForce, State.withRif_rif]
  split <;> rfl

theorem returnToOrigin_door (s : State) : (returnToOrigin s).rif.door = s.rif.door := by
  simp [returnToOrigin]

theorem testOnTrip_door (cause : TripCause) (s : State) : (testOnTrip cause s).rif.door = s.rif.door := by
  unfold testOnTrip
  split
  · split
    · rfl
    · split
      · rfl
      · simp [abortService]
  · rfl

theorem trip_door (cause : TripCause) (s : State) : (trip cause s).rif.door = s.rif.door := by
  cases h : s.brs.trip.latched with
  | true => simp [trip_of_latched h, testOnTrip_door, addTrip, raiseTrip]
  | false => simp [trip_of_free h, testOnTrip_door, latchTrip, enterTripped, raiseTrip]

/-! ### What a door report sends (R113, R114) -/

/-- The FIFO and the DOOR class stand, and so many DOOR_FAULT and DOOR_OBSTRUCTED are counted. -/
structure DoorEvents (faults obstructed : Nat) (s t : State) : Prop where
  fifo : t.rif.fifo = s.rif.fifo
  door : t.rif.door = s.rif.door
  faults : t.rpu.slots[EventKind.doorFault.code].count = satAdd s.rpu.slots[EventKind.doorFault.code].count faults
  obstructed : t.rpu.slots[EventKind.doorObstructed.code].count =
    satAdd s.rpu.slots[EventKind.doorObstructed.code].count obstructed

theorem DoorEvents.trans {m m' n n' : Nat} {s t u : State} (h : DoorEvents m n s t) (h' : DoorEvents m' n' t u) :
    DoorEvents (m + m') (n + n') s u :=
  ⟨h'.fifo.trans h.fifo, h'.door.trans h.door, by rw [h'.faults, h.faults, satAdd_satAdd],
    by rw [h'.obstructed, h.obstructed, satAdd_satAdd]⟩

theorem DoorEvents.of_undisturbed {s t : State} (h : Undisturbed s t) (hdoor : t.rif.door = s.rif.door) :
    DoorEvents 0 0 s t :=
  ⟨h.fifo, hdoor, by rw [satAdd_zero, h.count _ (by decide)], by rw [satAdd_zero, h.count _ (by decide)]⟩

theorem DoorEvents.of_same {s t : State} (hrif : t.rif = s.rif) (hrpu : t.rpu = s.rpu) : DoorEvents 0 0 s t :=
  ⟨by rw [hrif], by rw [hrif], by rw [hrpu, satAdd_zero], by rw [hrpu, satAdd_zero]⟩

theorem DoorEvents.trip (cause : TripCause) (s : State) : DoorEvents 0 0 s (trip cause s) :=
  .of_undisturbed (Undisturbed.trip cause s) (trip_door cause s)

theorem DoorEvents.faultDoor (car : Car) (side : Side) (why : DoorFaultReason) (judgedIn : HaulState) (s : State) :
    DoorEvents 1 0 s (faultDoor car side why judgedIn s) := by
  have hother : EventKind.doorObstructed.code ≠ EventKind.doorFault.code := by decide
  refine ⟨by simp [Machine.faultDoor], by simp [Machine.faultDoor], ?_, ?_⟩
  · simp only [Machine.faultDoor, raise_count, if_true, settleDoor_frame]
  · simp only [Machine.faultDoor, raise_count, if_neg hother, settleDoor_frame, satAdd_zero]

theorem DoorEvents.raiseObstructed (detail : BitVec 32) (s : State) :
    DoorEvents 0 1 s (raise .doorObstructed detail s) := by
  have hother : EventKind.doorFault.code ≠ EventKind.doorObstructed.code := by decide
  refine ⟨by simp, by simp, ?_, ?_⟩
  · rw [raise_count, if_neg hother, satAdd_zero]
  · rw [raise_count, if_pos rfl]

theorem DoorEvents.judgeMovingOpen (tripped : Bool) (s : State) : DoorEvents 0 0 s (judgeMovingOpen tripped s) := by
  have hset : ∀ b, DoorEvents 0 0 s (setMovingOpen b s) := fun b => .of_same (by simp) (by simp)
  unfold Machine.judgeMovingOpen
  split
  · split
    · split
      · exact hset true
      · exact (hset true).trans (.trip _ _)
    · exact hset false
  · exact .of_same rfl rfl

/-! ### One record against its side of a report (R109, R112–R114) -/

/-- The row of a record's state: what it becomes when its side is reported secure or not. -/
def DoorRecord.reported (r : DoorRecord) (secure : Bool) : DoorRecord :=
  match r.state, secure with
  | .locked, true => r
  | .locked, false => { state := .fault, timer := none }
  | .releasing, true => r
  | .releasing, false => { state := .released, timer := none }
  | .released, _ => r
  | .closing, true => { state := .locked, timer := none }
  | .closing, false => r
  | .fault, true => { state := .locked, timer := none }
  | .fault, false => r

/-- The side is reported unlocked under a LOCKED record (R99, R114). -/
def DoorRecord.unlockedBy (r : DoorRecord) (x : SideStatus) : Bool := r.state == .locked && !x.secure

/-- The side is reported obstructed while its record is CLOSING (R113). -/
def DoorRecord.obstructedBy (r : DoorRecord) (x : SideStatus) : Bool :=
  r.state == .closing && !x.secure && x.obstructed

/-- The haul is on a run, which a door that opens trips (R114). -/
def State.OnRun (s : State) : Prop := s.hlc.state = .running ∨ s.hlc.state = .serviceStop

/-- The haul record, the Brake Supervisor, the envelope and the Admission Unit stand. -/
structure HaulStands (s t : State) : Prop where
  hlc : t.hlc = s.hlc
  brs : t.brs = s.brs
  env : t.env = s.env
  adu : t.adu = s.adu

theorem HaulStands.trans {s t u : State} (h : HaulStands s t) (h' : HaulStands t u) : HaulStands s u :=
  ⟨h'.hlc.trans h.hlc, h'.brs.trans h.brs, h'.env.trans h.env, h'.adu.trans h.adu⟩

/-- The detail of DOOR_OBSTRUCTED: car, side and the ms left on the close timer (R113). -/
def State.obstruction (s : State) (car : Car) (side : Side) : BitVec 32 :=
  detailBBW (carCode car) (sideCode side)
    (BitVec.ofNat 16 (sat16 ((s.dru.door car side).timer.elim 0 (·.left s.clock))))

theorem Dru.setDoor_door (d : Dru) (car : Car) (side : Side) : d.setDoor car side (d.door car side) = d := by
  cases car <;> cases side <;> rfl

section

variable {s : State} {car : Car} {side : Side} {x : SideStatus}

theorem unlockedBy_iff {r : DoorRecord} : r.unlockedBy x = true ↔ r.state = .locked ∧ x.secure = false := by
  simp [DoorRecord.unlockedBy]

theorem judgeSide_of_unlocked_at_rest (hr : (s.dru.door car side).state = .locked) (hx : x.secure = false)
    (hrun : ¬ s.OnRun) : judgeSide car side x s = (faultDoor car side .unexpected s.hlc.state s, false) := by
  have hrun' : ¬ (s.hlc.state = .running ∨ s.hlc.state = .serviceStop) := hrun
  simp [judgeSide, hr, hx, hrun']

theorem judgeSide_of_unlocked_on_run (hr : (s.dru.door car side).state = .locked) (hx : x.secure = false)
    (hrun : s.OnRun) : judgeSide car side x s =
      (faultDoor car side .unexpected s.hlc.state (trip .doorOpenMoving s), true) := by
  have hrun' : s.hlc.state = .running ∨ s.hlc.state = .serviceStop := hrun
  simp [judgeSide, hr, hx, hrun']

/-- A record that is not unlocked takes its row; an obstruction is raised (R109, R112, R113). -/
theorem judgeSide_of_other (h : (s.dru.door car side).unlockedBy x = false) : judgeSide car side x s =
    (if (s.dru.door car side).obstructedBy x then raise .doorObstructed (s.obstruction car side) s
      else setDoor car side ((s.dru.door car side).reported x.secure) s, false) := by
  have hself : setDoor car side (s.dru.door car side) s = s := by
    rw [setDoor, Dru.setDoor_door]
    rfl
  have hrow : ∀ {st : DoorState}, (s.dru.door car side).state = st → ∀ {b : Bool}, x.secure = b →
      (s.dru.door car side).obstructedBy x = (st == .closing && !b && x.obstructed) := fun hst _ hx => by
    rw [DoorRecord.obstructedBy, hst, hx]
  cases hst : (s.dru.door car side).state with
  | locked =>
    have hx : x.secure = true := by simpa [DoorRecord.unlockedBy, hst] using h
    simp [judgeSide, hst, hx, hrow hst hx, DoorRecord.reported, hself]
  | releasing =>
    cases hx : x.secure <;> simp [judgeSide, hst, hx, hrow hst hx, DoorRecord.reported, hself, settleDoor]
  | released => simp [judgeSide, hst, hrow hst rfl, DoorRecord.reported, hself]
  | closing =>
    cases hx : x.secure with
    | true => simp [judgeSide, hst, hx, hrow hst hx, DoorRecord.reported, settleDoor]
    | false =>
      cases ho : x.obstructed with
      | true =>
        cases ht : (s.dru.door car side).timer <;>
          simp [judgeSide, hst, hx, ho, ht, hrow hst hx, State.obstruction]
      | false => simp [judgeSide, hst, hx, ho, hrow hst hx, DoorRecord.reported, hself]
  | fault =>
    cases hx : x.secure <;> simp [judgeSide, hst, hx, hrow hst hx, DoorRecord.reported, hself, settleDoor]

/-- The three ways in which a record is judged. -/
theorem judgeSide_cases (car : Car) (side : Side) (x : SideStatus) (s : State) :
    ((s.dru.door car side).unlockedBy x = false ∧ judgeSide car side x s =
      (if (s.dru.door car side).obstructedBy x then raise .doorObstructed (s.obstruction car side) s
        else setDoor car side ((s.dru.door car side).reported x.secure) s, false)) ∨
    ((s.dru.door car side).unlockedBy x = true ∧ ¬ s.OnRun ∧
      judgeSide car side x s = (faultDoor car side .unexpected s.hlc.state s, false)) ∨
    ((s.dru.door car side).unlockedBy x = true ∧ s.OnRun ∧
      judgeSide car side x s = (faultDoor car side .unexpected s.hlc.state (trip .doorOpenMoving s), true)) := by
  cases h : (s.dru.door car side).unlockedBy x with
  | false => exact .inl ⟨rfl, judgeSide_of_other h⟩
  | true =>
    obtain ⟨hr, hx⟩ := unlockedBy_iff.mp h
    by_cases hrun : s.OnRun
    · exact .inr (.inr ⟨rfl, hrun, judgeSide_of_unlocked_on_run hr hx hrun⟩)
    · exact .inr (.inl ⟨rfl, hrun, judgeSide_of_unlocked_at_rest hr hx hrun⟩)

theorem reported_of_unlocked {r : DoorRecord} (h : r.unlockedBy x = true) :
    r.reported x.secure = { state := .fault, timer := none } := by
  obtain ⟨hr, hx⟩ := unlockedBy_iff.mp h
  simp [DoorRecord.reported, hr, hx]

theorem reported_of_obstructed {r : DoorRecord} (h : r.obstructedBy x = true) : r.reported x.secure = r := by
  simp only [DoorRecord.obstructedBy, Bool.and_eq_true, beq_iff_eq, Bool.not_eq_true'] at h
  obtain ⟨⟨hr, hx⟩, -⟩ := h
  simp [DoorRecord.reported, hr, hx]

theorem obstructedBy_of_unlocked {r : DoorRecord} (h : r.unlockedBy x = true) : r.obstructedBy x = false := by
  obtain ⟨hr, -⟩ := unlockedBy_iff.mp h
  simp [DoorRecord.obstructedBy, hr]

/-- Judging moves the one record. -/
theorem judgeSide_dru (car : Car) (side : Side) (x : SideStatus) (s : State) :
    (judgeSide car side x s).1.dru = s.dru.setDoor car side ((s.dru.door car side).reported x.secure) := by
  obtain ⟨-, heq⟩ | ⟨h, -, heq⟩ | ⟨h, -, heq⟩ := judgeSide_cases car side x s <;> rw [heq]
  · cases ho : (s.dru.door car side).obstructedBy x with
    | true => simp [reported_of_obstructed ho, Dru.setDoor_door]
    | false => simp [setDoor]
  all_goals simp [faultDoor, settleDoor, setDoor, reported_of_unlocked h]

/-- Judging counts the DOOR_FAULT of an unlocked side and the DOOR_OBSTRUCTED of an obstructed one. -/
theorem judgeSide_events (car : Car) (side : Side) (x : SideStatus) (s : State) :
    DoorEvents ((s.dru.door car side).unlockedBy x).toNat ((s.dru.door car side).obstructedBy x).toNat s
      (judgeSide car side x s).1 := by
  obtain ⟨h, heq⟩ | ⟨h, -, heq⟩ | ⟨h, -, heq⟩ := judgeSide_cases car side x s <;> rw [heq, h]
  · cases ho : (s.dru.door car side).obstructedBy x with
    | true => exact .raiseObstructed _ _
    | false => exact .of_same (by simp) (by simp)
  all_goals rw [obstructedBy_of_unlocked h]
  · exact .faultDoor _ _ _ _ _
  · exact (DoorEvents.trip _ _).trans (.faultDoor _ _ _ _ _)

/-- Judging leaves the haul alone unless it opens a door of a run. -/
theorem judgeSide_stands (h : (s.dru.door car side).unlockedBy x = false ∨ ¬ s.OnRun) :
    HaulStands s (judgeSide car side x s).1 ∧ (judgeSide car side x s).2 = false := by
  obtain ⟨-, heq⟩ | ⟨-, -, heq⟩ | ⟨hopen, hrun, -⟩ := judgeSide_cases car side x s
  · rw [heq]
    refine ⟨?_, rfl⟩
    simp only
    split <;> exact ⟨by simp, by simp, by simp, by simp⟩
  · rw [heq]
    exact ⟨⟨by simp, by simp, by simp, by simp⟩, rfl⟩
  · exact absurd h (by simp [hopen, hrun])

/-- DOOR_OPEN_MOVING has latched the trip of a haul that no trip had stopped (R55, R114, R115). -/
structure OpenTripped (s t : State) : Prop where
  hlc : t.hlc = { s.hlc with state := .tripped, berth := none, boardingOpen := false, armTimer := none }
  trip : t.brs.trip = { latched := true, first := some .doorOpenMoving, causes := 128, posA := s.moe.last.posA,
                        v := s.moe.last.signed, time := s.clock }
  adu : t.adu = s.adu

theorem OpenTripped.of_trip (h : s.brs.trip.latched = false) : OpenTripped s (Machine.trip .doorOpenMoving s) := by
  obtain ⟨hhlc, htrip, hadu⟩ := trip_latches .doorOpenMoving h
  exact ⟨hhlc, htrip, hadu⟩

theorem OpenTripped.stands {t u : State} (h : OpenTripped s t) (h' : HaulStands t u) : OpenTripped s u :=
  ⟨h'.hlc.trans h.hlc, (congrArg Brs.trip h'.brs).trans h.trip, h'.adu.trans h.adu⟩

theorem OpenTripped.not_onRun {t : State} (h : OpenTripped s t) : ¬ t.OnRun := by
  simp [State.OnRun, h.hlc]

/-- A door that opens on a run trips, whatever the speed (R114). -/
theorem judgeSide_trips (hopen : (s.dru.door car side).unlockedBy x = true) (hrun : s.OnRun)
    (hfree : s.brs.trip.latched = false) :
    OpenTripped s (judgeSide car side x s).1 ∧ (judgeSide car side x s).2 = true := by
  obtain ⟨hr, hx⟩ := unlockedBy_iff.mp hopen
  rw [judgeSide_of_unlocked_on_run hr hx hrun]
  exact ⟨(OpenTripped.of_trip hfree).stands ⟨by simp, by simp, by simp, by simp⟩, rfl⟩

end

/-! ### Both records of a car (R114) -/

/-- The left side judged, then the right one; the second result says that a side has tripped the haul. -/
def judgeSides (car : Car) (x : Side → SideStatus) (s : State) : State × Bool :=
  let y := judgeSide car .left (x .left) s
  let z := judgeSide car .right (x .right) y.1
  (z.1, y.2 || z.2)

/-- The Door Release Unit with both records of a car judged. -/
def Dru.judged (d : Dru) (car : Car) (x : Side → SideStatus) : Dru :=
  (d.setDoor car .left ((d.door car .left).reported (x .left).secure)).setDoor car .right
    ((d.door car .right).reported (x .right).secure)

theorem Dru.judged_door (d : Dru) (car : Car) (x : Side → SideStatus) (car' : Car) (side : Side) :
    (d.judged car x).door car' side =
      if car' = car then (d.door car side).reported (x side).secure else d.door car' side := by
  simp only [Dru.judged, Dru.door_setDoor]
  cases side <;> simp

theorem Dru.judged_beside (d : Dru) (car : Car) (x : Side → SideStatus) :
    (d.judged car x).movingOpen = d.movingOpen ∧ ∀ car', (d.judged car x).reports car' = d.reports car' := by
  refine ⟨by simp [Dru.judged], fun car' => ?_⟩
  cases car' <;> simp [Dru.judged, Dru.reports]

section

variable {s : State} {car : Car} {x : Side → SideStatus}

/-- The report unlocks a side of the car. -/
def State.Unlocked (s : State) (car : Car) (x : Side → SideStatus) : Prop :=
  ∃ side, (s.dru.door car side).unlockedBy (x side) = true

/-- The left side judged leaves the right one as it was. -/
theorem judgeSide_left_door (s : State) (car : Car) (x : SideStatus) :
    (judgeSide car .left x s).1.dru.door car .right = s.dru.door car .right := by
  simp [judgeSide_dru, Dru.door_setDoor]

theorem judgeSides_dru (s : State) (car : Car) (x : Side → SideStatus) :
    (judgeSides car x s).1.dru = s.dru.judged car x := by
  simp only [judgeSides, judgeSide_dru, Dru.judged]
  simp [Dru.door_setDoor]

theorem judgeSides_frame (s : State) (car : Car) (x : Side → SideStatus) :
    (judgeSides car x s).1.clock = s.clock ∧ (judgeSides car x s).1.mga = s.mga ∧
    (judgeSides car x s).1.moe = s.moe := by
  simp [judgeSides]

theorem judgeSides_events (s : State) (car : Car) (x : Side → SideStatus) :
    DoorEvents
      (((s.dru.door car .left).unlockedBy (x .left)).toNat + ((s.dru.door car .right).unlockedBy (x .right)).toNat)
      (((s.dru.door car .left).obstructedBy (x .left)).toNat + ((s.dru.door car .right).obstructedBy (x .right)).toNat)
      s (judgeSides car x s).1 := by
  have hright := judgeSide_events car .right (x .right) (judgeSide car .left (x .left) s).1
  rw [judgeSide_left_door] at hright
  exact (judgeSide_events car .left (x .left) s).trans hright

theorem judgeSides_stands (h : ¬ s.Unlocked car x ∨ ¬ s.OnRun) :
    HaulStands s (judgeSides car x s).1 ∧ (judgeSides car x s).2 = false := by
  have hside : ∀ side, (s.dru.door car side).unlockedBy (x side) = false ∨ ¬ s.OnRun := fun side =>
    h.imp_left fun hnone => by simpa using fun hopen => hnone ⟨side, hopen⟩
  obtain ⟨hleft, htripped⟩ := judgeSide_stands (hside .left)
  have hside' := hside .right
  rw [← judgeSide_left_door s car (x .left)] at hside'
  obtain ⟨hright, htripped'⟩ := judgeSide_stands (s := (judgeSide car .left (x .left) s).1)
    (hside'.imp_right fun hrest => by simpa [State.OnRun, hleft.hlc] using hrest)
  exact ⟨hleft.trans hright, by simp [judgeSides, htripped, htripped']⟩

/-- The first side that opens on a run trips; the haul is TRIPPED for the other one. -/
theorem judgeSides_trips (hopen : s.Unlocked car x) (hrun : s.OnRun) (hfree : s.brs.trip.latched = false) :
    OpenTripped s (judgeSides car x s).1 ∧ (judgeSides car x s).2 = true := by
  cases hl : (s.dru.door car .left).unlockedBy (x .left) with
  | true =>
    obtain ⟨hleft, htripped⟩ := judgeSide_trips hl hrun hfree
    obtain ⟨hright, -⟩ := judgeSide_stands (s := (judgeSide car .left (x .left) s).1) (car := car) (side := .right)
      (x := x .right) (.inr hleft.not_onRun)
    exact ⟨hleft.stands hright, by simp [judgeSides, htripped]⟩
  | false =>
    have hr : (s.dru.door car .right).unlockedBy (x .right) = true := by
      obtain ⟨_ | _, hside⟩ := hopen
      · simp [hl] at hside
      · exact hside
    obtain ⟨hleft, -⟩ := judgeSide_stands (.inl hl)
    rw [← judgeSide_left_door s car (x .left)] at hr
    obtain ⟨hright, htripped⟩ := judgeSide_trips hr (by simpa [State.OnRun, hleft.hlc] using hrun)
      (by rw [hleft.brs]; exact hfree)
    refine ⟨⟨?_, ?_, hright.adu.trans hleft.adu⟩, by simp [judgeSides, htripped]⟩
    · exact hright.hlc.trans (by rw [hleft.hlc])
    · exact hright.trip.trans (by simp)

end

/-! ### Door open while moving (R115) -/

section

variable {s : State} {l : Line} {tripped : Bool}

/-- A record is not LOCKED and V is above v_still (R115). -/
def State.MovingOpen (s : State) (l : Line) : Prop :=
  (∃ car side, (s.dru.door car side).state ≠ .locked) ∧ l.vStill < s.moe.last.v

theorem movingOpenNow_iff : s.movingOpenNow l = true ↔ s.MovingOpen l := by
  have hopen : (!s.dru.allLocked) = true ↔ ∃ car side, (s.dru.door car side).state ≠ .locked := by
    rw [Bool.not_eq_true', ← Bool.not_eq_true, Dru.allLocked_iff]
    simp
  simp only [State.movingOpenNow, State.MovingOpen, Bool.and_eq_true, hopen, decide_eq_true_eq]

/-- The judgement, with the flag put in force. -/
theorem judgeMovingOpen_eq (hl : s.line = some l) : judgeMovingOpen tripped s =
    if s.movingOpenNow l && !(s.dru.movingOpen || tripped) then trip .doorOpenMoving (setMovingOpen true s)
    else setMovingOpen (s.movingOpenNow l) s := by
  simp only [judgeMovingOpen, hl]
  cases s.movingOpenNow l <;> cases s.dru.movingOpen <;> cases tripped <;> rfl

theorem judgeMovingOpen_dru (hl : s.line = some l) :
    (judgeMovingOpen tripped s).dru = { s.dru with movingOpen := s.movingOpenNow l } := by
  rw [judgeMovingOpen_eq hl]
  cases h : s.movingOpenNow l <;> cases s.dru.movingOpen <;> cases tripped <;> simp [setMovingOpen]

/-- No cause is taken where nothing moves, the flag is set already or the report has tripped. -/
theorem judgeMovingOpen_of_quiet (hl : s.line = some l)
    (h : ¬ s.MovingOpen l ∨ s.dru.movingOpen = true ∨ tripped = true) :
    judgeMovingOpen tripped s = setMovingOpen (s.movingOpenNow l) s := by
  rw [judgeMovingOpen_eq hl, if_neg]
  rw [← movingOpenNow_iff] at h
  obtain h | h | h := h <;> simp [h]

theorem judgeMovingOpen_of_opening (hl : s.line = some l) (hmoving : s.MovingOpen l)
    (hflag : s.dru.movingOpen = false) :
    judgeMovingOpen false s = trip .doorOpenMoving (setMovingOpen true s) := by
  rw [judgeMovingOpen_eq hl, if_pos]
  simp [movingOpenNow_iff.mpr hmoving, hflag]

theorem judgeMovingOpen_stands (hl : s.line = some l)
    (h : ¬ s.MovingOpen l ∨ s.dru.movingOpen = true ∨ tripped = true) : HaulStands s (judgeMovingOpen tripped s) := by
  rw [judgeMovingOpen_of_quiet hl h]
  exact ⟨by simp, by simp, by simp, by simp⟩

end

/-! ### A report taken (R99, R104) -/

section

variable {s : State} {car : Car} {x : Side → SideStatus} {l : Line}

theorem unlocks_iff (s : State) (car : Car) (x : Side → SideStatus) :
    s.unlocks car (x .left) (x .right) = true ↔ s.Unlocked car x := by
  rw [State.unlocks, Bool.or_eq_true]
  constructor
  · rintro (h | h)
    · exact ⟨.left, h⟩
    · exact ⟨.right, h⟩
  · rintro ⟨_ | _, h⟩
    · exact .inl h
    · exact .inr h

/-- The state in which the records are judged: the report stored, and an ARMED haul whose door it unlocks returned to
its origin (R99, R104). -/
def State.reportFound (s : State) (car : Car) (x : Side → SideStatus) : State :=
  let u := storeReport car (x .left) (x .right) s
  if u.hlc.state = .armed ∧ u.unlocks car (x .left) (x .right) then returnToOrigin u else u

/-- A report taken is judged in that state, side by side, and then the doors that are open while moving. -/
theorem takeDoorReport_eq (s : State) (car : Car) (x : Side → SideStatus) :
    takeDoorReport car (x .left) (x .right) s =
      judgeMovingOpen (judgeSides car x (s.reportFound car x)).2 (judgeSides car x (s.reportFound car x)).1 := rfl

/-- The door reports stored leave the records as they are. -/
theorem storeReport_unlocked (s : State) (car : Car) (x : Side → SideStatus) :
    (storeReport car (x .left) (x .right) s).Unlocked car x ↔ s.Unlocked car x := by
  simp [State.Unlocked, storeReport]

theorem reportFound_of_other (h : ¬ (s.hlc.state = .armed ∧ s.Unlocked car x)) :
    s.reportFound car x = storeReport car (x .left) (x .right) s := by
  refine if_neg ?_
  rwa [unlocks_iff, storeReport_unlocked]

theorem reportFound_of_armed (harmed : s.hlc.state = .armed) (hopen : s.Unlocked car x) :
    s.reportFound car x = returnToOrigin (storeReport car (x .left) (x .right) s) := by
  refine if_pos ?_
  rw [unlocks_iff, storeReport_unlocked]
  exact ⟨harmed, hopen⟩

/-- The report and its freshness expiry (R104). -/
def State.reportStored (s : State) (left right : SideStatus) : CarReport :=
  { report := some ⟨left, right, s.clock⟩, expiry := s.line.map fun l => { start := s.clock, dur := l.tDoorFresh } }

@[simp] theorem reportFound_frame (s : State) (car : Car) (x : Side → SideStatus) :
    (s.reportFound car x).clock = s.clock ∧ (s.reportFound car x).mga = s.mga ∧ (s.reportFound car x).moe = s.moe ∧
    (s.reportFound car x).dru = s.dru.setReports car (s.reportStored (x .left) (x .right)) := by
  have hdru : (storeReport car (x .left) (x .right) s).dru =
      s.dru.setReports car (s.reportStored (x .left) (x .right)) := rfl
  simp only [State.reportFound]
  split <;> simp [hdru]

theorem reportFound_events (s : State) (car : Car) (x : Side → SideStatus) :
    DoorEvents 0 0 s (s.reportFound car x) := by
  have hstored : DoorEvents 0 0 s (storeReport car (x .left) (x .right) s) := .of_same (by simp) (by simp)
  simp only [State.reportFound]
  split
  · exact hstored.trans (.of_undisturbed (.returnToOrigin _) (returnToOrigin_door _))
  · exact hstored

/-- The records after a report. -/
def Dru.recordAfter (d : Dru) (car : Car) (x : Side → SideStatus) (car' : Car) (side : Side) : DoorRecord :=
  if car' = car then (d.door car side).reported (x side).secure else d.door car' side

/-- The DOOR_FAULT events of a report (R114). -/
def Dru.faultsOf (d : Dru) (car : Car) (x : Side → SideStatus) : Nat :=
  ([Side.left, .right].filter fun side => (d.door car side).unlockedBy (x side)).length

/-- The DOOR_OBSTRUCTED events of a report (R113). -/
def Dru.obstructionsOf (d : Dru) (car : Car) (x : Side → SideStatus) : Nat :=
  ([Side.left, .right].filter fun side => (d.door car side).obstructedBy (x side)).length

theorem length_filter_sides (p : Side → Bool) :
    ([Side.left, .right].filter p).length = (p .left).toNat + (p .right).toNat := by
  cases hl : p .left <;> cases hr : p .right <;> simp [hl, hr]

/-- A record is not LOCKED after the report, and V is above v_still. -/
def State.MovingAfter (s : State) (car : Car) (x : Side → SideStatus) (l : Line) : Prop :=
  (∃ car' side, (s.dru.recordAfter car x car' side).state ≠ .locked) ∧ l.vStill < s.moe.last.v

/-- What the judged sides leave of the doors. -/
theorem judged_found (s : State) (car : Car) (x : Side → SideStatus) :
    let w := (judgeSides car x (s.reportFound car x)).1
    (∀ car' side, w.dru.door car' side = s.dru.recordAfter car x car' side) ∧
    (∀ car', w.dru.reports car' = if car' = car then s.reportStored (x .left) (x .right) else s.dru.reports car') ∧
    w.dru.movingOpen = s.dru.movingOpen ∧ w.mga = s.mga ∧ w.moe = s.moe := by
  intro w
  obtain ⟨-, hmga, hmoe⟩ := judgeSides_frame (s.reportFound car x) car x
  have hdru : w.dru = (s.dru.setReports car (s.reportStored (x .left) (x .right))).judged car x :=
    (judgeSides_dru _ _ _).trans (by simp)
  obtain ⟨hflag, hreports⟩ := Dru.judged_beside (s.dru.setReports car (s.reportStored (x .left) (x .right))) car x
  refine ⟨fun car' side => ?_, fun car' => ?_, ?_, hmga.trans (by simp), hmoe.trans (by simp)⟩
  · rw [hdru, Dru.judged_door]
    simp [Dru.recordAfter]
  · rw [hdru, hreports]
    cases car <;> cases car' <;> rfl
  · rw [hdru, hflag]
    cases car <;> rfl

theorem judged_found_movingOpen (s : State) (car : Car) (x : Side → SideStatus) (l : Line) :
    (judgeSides car x (s.reportFound car x)).1.MovingOpen l ↔ s.MovingAfter car x l := by
  obtain ⟨hdoor, -, -, -, hmoe⟩ := judged_found s car x
  simp only [State.MovingOpen, State.MovingAfter, hdoor, hmoe]

/-- What a report leaves in every haul state: the report stored, the rows of the car's records, the moving-open flag and
the events (R104, R109, R112–R115). -/
structure ReportTaken (s : State) (car : Car) (x : Side → SideStatus) (l : Line) (t : State) : Prop where
  stored : t.dru.reports car = { report := some ⟨x .left, x .right, s.clock⟩,
                                 expiry := some { start := s.clock, dur := l.tDoorFresh } }
  others : ∀ car', car' ≠ car → t.dru.reports car' = s.dru.reports car'
  record : ∀ car' side, t.dru.door car' side = s.dru.recordAfter car x car' side
  flag : t.dru.movingOpen = true ↔ s.MovingAfter car x l
  events : DoorEvents (s.dru.faultsOf car x) (s.dru.obstructionsOf car x) s t
  moe : t.moe = s.moe
  mga : t.mga = s.mga

theorem takeDoorReport_taken (hl : s.line = some l) (car : Car) (x : Side → SideStatus) :
    ReportTaken s car x l (takeDoorReport car (x .left) (x .right) s) := by
  obtain ⟨hdoor, hreports, -, hmga, hmoe⟩ := judged_found s car x
  have hevents := ((reportFound_events s car x).trans (judgeSides_events (s.reportFound car x) car x)).trans
    (.judgeMovingOpen (judgeSides car x (s.reportFound car x)).2 _)
  have hsame : ∀ side, (s.reportFound car x).dru.door car side = s.dru.door car side := by simp
  have hmoving := judged_found_movingOpen s car x l
  rw [takeDoorReport_eq]
  generalize (judgeSides car x (s.reportFound car x)).1 = w at *
  have hdru := judgeMovingOpen_dru (tripped := (judgeSides car x (s.reportFound car x)).2) (s := w) (l := l)
    (by rw [State.line, hmga]; exact hl)
  have hkept : ∀ car', (judgeMovingOpen (judgeSides car x (s.reportFound car x)).2 w).dru.reports car' =
      w.dru.reports car' := fun car' => by rw [hdru]; cases car' <;> rfl
  refine ⟨?_, fun car' hne => ?_, fun car' side => ?_, ?_, ?_, by simpa using hmoe, by simpa using hmga⟩
  · rw [hkept, hreports, if_pos rfl, State.reportStored, hl]
    rfl
  · rw [hkept, hreports, if_neg hne]
  · rw [← hdoor, hdru]
    cases car' <;> cases side <;> rfl
  · rw [hdru, ← hmoving, ← movingOpenNow_iff]
  · simpa [Dru.faultsOf, Dru.obstructionsOf, length_filter_sides, hsame] using hevents

/-! ### The haul at a report, by haul state (R99, R114, R115) -/

/-- Where no door of a run or of an ARMED haul is unlocked, judging the sides leaves the haul alone. -/
theorem judged_found_stands (h : s.hlc.state.atRest = true ∨ ¬ s.Unlocked car x) :
    HaulStands s (judgeSides car x (s.reportFound car x)).1 ∧ (judgeSides car x (s.reportFound car x)).2 = false := by
  have hother : ¬ (s.hlc.state = .armed ∧ s.Unlocked car x) := fun ⟨harmed, hopen⟩ =>
    h.elim (fun hrest => by simp [harmed, HaulState.atRest] at hrest) fun hnone => hnone hopen
  have hstored : HaulStands s (storeReport car (x .left) (x .right) s) := ⟨by simp, by simp, by simp, by simp⟩
  rw [reportFound_of_other hother]
  have hquiet : ¬ (storeReport car (x .left) (x .right) s).Unlocked car x ∨
      ¬ (storeReport car (x .left) (x .right) s).OnRun := by
    rw [storeReport_unlocked, State.OnRun, hstored.hlc]
    refine h.symm.imp_right fun hrest hrun => ?_
    obtain hrun | hrun := hrun <;> simp [hrun, HaulState.atRest] at hrest
  obtain ⟨hstands, htripped⟩ := judgeSides_stands hquiet
  exact ⟨hstored.trans hstands, htripped⟩

/-- An ARMED haul has returned to its origin when the sides that send it back are judged (R90, R99). -/
theorem judged_found_returned (harmed : s.hlc.state = .armed) (hopen : s.Unlocked car x) {o : Origin}
    (ho : s.hlc.origin = some o) :
    let w := (judgeSides car x (s.reportFound car x)).1
    w.hlc = { s.hlc with state := o.toState, boardingOpen := false, armTimer := none } ∧
    w.brs.trip = s.brs.trip ∧ (judgeSides car x (s.reportFound car x)).2 = false := by
  have hhlc := returnToOrigin_hlc (s := storeReport car (x .left) (x .right) s) (o := o) (by simpa using ho)
  have hrest : ¬ (returnToOrigin (storeReport car (x .left) (x .right) s)).OnRun := by
    rw [State.OnRun, hhlc]
    cases o <;> simp [Origin.toState]
  rw [reportFound_of_armed harmed hopen]
  obtain ⟨hstands, htripped⟩ := judgeSides_stands (car := car) (x := x) (.inr hrest)
  refine ⟨hstands.hlc.trans (hhlc.trans (by simp)), ?_, htripped⟩
  rw [hstands.brs]
  simp [returnToOrigin]

/-- A report that takes no cause of R115 leaves the haul as its sides have left it. -/
theorem takeDoorReport_stands (hl : s.line = some l)
    (h : ¬ s.MovingAfter car x l ∨ s.dru.movingOpen = true ∨ (judgeSides car x (s.reportFound car x)).2 = true) :
    HaulStands (judgeSides car x (s.reportFound car x)).1 (takeDoorReport car (x .left) (x .right) s) := by
  obtain ⟨-, -, hflag, hmga, -⟩ := judged_found s car x
  rw [← judged_found_movingOpen, ← hflag] at h
  rw [takeDoorReport_eq]
  exact judgeMovingOpen_stands (by rw [State.line, hmga]; exact hl) h

/-- A report that finds a door open while moving takes the cause in the state that its sides have left (R115). -/
theorem takeDoorReport_of_opening (hl : s.line = some l) (hmoving : s.MovingAfter car x l)
    (hflag : s.dru.movingOpen = false) (hquiet : (judgeSides car x (s.reportFound car x)).2 = false) :
    takeDoorReport car (x .left) (x .right) s =
      trip .doorOpenMoving (setMovingOpen true (judgeSides car x (s.reportFound car x)).1) := by
  obtain ⟨-, -, hflag', hmga, -⟩ := judged_found s car x
  rw [takeDoorReport_eq, hquiet]
  exact judgeMovingOpen_of_opening (by rw [State.line, hmga]; exact hl)
    ((judged_found_movingOpen s car x l).mpr hmoving) (hflag'.trans hflag)

/-- A report that unlocks nothing of a haul under way and finds nothing moving leaves the haul alone. -/
theorem takeDoorReport_quiet (hl : s.line = some l) (h : s.hlc.state.atRest = true ∨ ¬ s.Unlocked car x)
    (hstill : ¬ s.MovingAfter car x l ∨ s.dru.movingOpen = true) :
    HaulStands s (takeDoorReport car (x .left) (x .right) s) :=
  (judged_found_stands h).1.trans (takeDoorReport_stands hl (hstill.imp_right .inl))

/-- Where it finds a door open while moving, the cause latches or joins the trip (R55, R56, R115). -/
theorem takeDoorReport_opening (hl : s.line = some l) (h : s.hlc.state.atRest = true ∨ ¬ s.Unlocked car x)
    (hmoving : s.MovingAfter car x l) (hflag : s.dru.movingOpen = false) :
    let t := takeDoorReport car (x .left) (x .right) s
    t.adu = s.adu ∧ (s.brs.trip.latched = false → OpenTripped s t) ∧
    (s.brs.trip.latched = true → t.hlc = s.hlc ∧
      t.brs.trip = { s.brs.trip with causes := s.brs.trip.causes ||| 128 }) := by
  intro t
  obtain ⟨hstands, hquiet⟩ := judged_found_stands h
  have ht : t = _ := takeDoorReport_of_opening hl hmoving hflag hquiet
  obtain ⟨hclock, -, hmoe⟩ := judgeSides_frame (s.reportFound car x) car x
  generalize (judgeSides car x (s.reportFound car x)).1 = w at hstands hclock hmoe ht
  have hlatched : (setMovingOpen true w).brs.trip.latched = s.brs.trip.latched := by simp [hstands.brs]
  cases hl : s.brs.trip.latched with
  | false =>
    obtain ⟨hhlc, htrip, hadu⟩ := trip_latches .doorOpenMoving (hlatched.trans hl)
    have hopened : OpenTripped s t := by
      rw [ht]
      refine ⟨hhlc.trans (by simp [hstands.hlc]), htrip.trans ?_, hadu.trans (by simp [hstands.adu])⟩
      simp [hmoe, hclock, TripCause.bit, TripCause.num]
    exact ⟨hopened.adu, fun _ => hopened, nofun⟩
  | true =>
    obtain ⟨hhlc, htrip, hadu⟩ := trip_joins .doorOpenMoving (hlatched.trans hl)
    rw [ht]
    exact ⟨hadu.trans (by simp [hstands.adu]), nofun, fun _ => ⟨hhlc.trans (by simp [hstands.hlc]),
      htrip.trans (by simp [hstands.brs, TripCause.bit, TripCause.num])⟩⟩

/-- A report that unlocks a door of an ARMED haul sends it back, and trips it where it moves (R99, R115). -/
theorem takeDoorReport_armed (hl : s.line = some l) (harmed : s.hlc.state = .armed) (hopen : s.Unlocked car x)
    {o : Origin} (ho : s.hlc.origin = some o) :
    let t := takeDoorReport car (x .left) (x .right) s
    ((¬ s.MovingAfter car x l ∨ s.dru.movingOpen = true) →
      t.hlc = { s.hlc with state := o.toState, boardingOpen := false, armTimer := none } ∧
      t.brs.trip = s.brs.trip) ∧
    (s.MovingAfter car x l → s.dru.movingOpen = false → s.brs.trip.latched = false →
      t.hlc = { s.hlc with state := .tripped, berth := none, boardingOpen := false, armTimer := none } ∧
      t.brs.trip = { latched := true, first := some .doorOpenMoving, causes := 128, posA := s.moe.last.posA,
                     v := s.moe.last.signed, time := s.clock }) := by
  intro t
  obtain ⟨hhlc, htrip, hquiet⟩ := judged_found_returned harmed hopen ho
  refine ⟨fun hstill => ?_, fun hmoving hflag hfree => ?_⟩
  · have hstands := takeDoorReport_stands hl (car := car) (x := x) (hstill.imp_right .inl)
    exact ⟨hstands.hlc.trans hhlc, (congrArg Brs.trip hstands.brs).trans htrip⟩
  · have ht : t = _ := takeDoorReport_of_opening hl hmoving hflag hquiet
    obtain ⟨hclock, -, hmoe⟩ := judgeSides_frame (s.reportFound car x) car x
    generalize (judgeSides car x (s.reportFound car x)).1 = w at hhlc htrip hclock hmoe ht
    obtain ⟨hhlc', htrip', -⟩ := trip_latches (s := setMovingOpen true w) .doorOpenMoving (by simpa [htrip] using hfree)
    rw [ht]
    exact ⟨hhlc'.trans (by simp [hhlc]), htrip'.trans (by simp [hmoe, hclock, TripCause.bit, TripCause.num])⟩

/-- A report that unlocks a door of a run trips it, whatever the speed (R114). -/
theorem takeDoorReport_on_run (hl : s.line = some l) (hrun : s.OnRun) (hopen : s.Unlocked car x)
    (hfree : s.brs.trip.latched = false) : OpenTripped s (takeDoorReport car (x .left) (x .right) s) := by
  have hother : ¬ (s.hlc.state = .armed ∧ s.Unlocked car x) := fun ⟨harmed, _⟩ => by
    simp [State.OnRun, harmed] at hrun
  have hfound := reportFound_of_other hother
  obtain ⟨hopened, htripped⟩ := judgeSides_trips (s := s.reportFound car x) (car := car) (x := x)
    (by rwa [hfound, storeReport_unlocked]) (by rw [hfound]; simpa [State.OnRun] using hrun)
    (by rw [hfound]; simpa using hfree)
  have hstands := hopened.stands (takeDoorReport_stands hl (.inr (.inr htripped)))
  exact ⟨hstands.hlc.trans (by simp [hfound]), hstands.trip.trans (by simp), hstands.adu.trans (by simp [hfound])⟩

end

/-! ### The frame (R104) -/

/-- The two status bytes of a report, by side. -/
def statusOf (left right : Byte) (side : Side) : SideStatus := sideStatusOf (if side = .left then left else right)

/-- A DOOR_STATE of a car's gateway that passes by is handed to the Door Release Unit. -/
theorem rowAct_doorState {s : State} {arr : Arrival} {left right : Byte} {car : Car}
    (h : PassesBy s arr 0x41 [left, right]) (hrole : s.roleOf arr.src = some (carRole car)) :
    rowAct (.doorState arr [left, right]) (begin arr.elapsed s) =
      takeDoorReport car (statusOf left right .left) (statusOf left right .right)
        (s.passed arr 0x41 [left, right]) := by
  have hcar : carOfRole ((begin arr.elapsed s).roleOf (frameOf arr 0x41 [left, right]).src) = some car := by
    have hsrc : (begin arr.elapsed s).roleOf (frameOf arr 0x41 [left, right]).src = some (carRole car) := hrole
    rw [hsrc]
    cases car <;> rfl
  rw [rowAct_of_arrives (kind := 0x41) (payload := [left, right]) rfl h.toArrives h.fromOther]
  change dealDoorState (frameOf arr 0x41 [left, right]) (begin arr.elapsed s) = _
  rw [dealDoorState, hcar]
  exact dealRead_of_passes h rfl _

/-- Out of ARMED the judgements follow the storing of the report at once. -/
theorem takeDoorReport_of_not_armed {s : State} (h : s.hlc.state ≠ .armed) (car : Car) (left right : SideStatus) :
    let y := judgeSide car .left left (storeReport car left right s)
    let z := judgeSide car .right right y.1
    takeDoorReport car left right s = judgeMovingOpen (y.2 || z.2) z.1 := by
  have hother : ¬ ((storeReport car left right s).hlc.state = .armed ∧
      (storeReport car left right s).unlocks car left right = true) := fun ⟨harmed, _⟩ => h harmed
  simp only [takeDoorReport, if_neg hother]

/-- Settles O37: a report is `ReportTaken` in every haul state; what it makes of the haul is read off the judged sides,
and then off the cause of R115 where it is taken. -/
theorem doorReportsMoveTheRecordsAndTrip : Obligations.DoorReportsMoveTheRecordsAndTrip := by
  unfold Obligations.DoorReportsMoveTheRecordsAndTrip
  refine ⟨fun s arr left right car l h hrole hl => ?reports, fun s l hl => ?moving,
    fun s car side x => ⟨fun hr hx hrun => ?faulted, fun hr hx hrun => ?tripping, fun timer hr ht hx ho => ?obstructed,
      fun left right hst => ?taken⟩⟩
  case reports =>
    intro now status stored frame rest unlocks row record moving faults obstructed taken tripped
    have hact := rowAct_doorState h hrole
    have hfound := takeDoorReport_taken (s := s.passed arr 0x41 [left, right]) hl car (statusOf left right)
    have hunlocked : (s.passed arr 0x41 [left, right]).Unlocked car (statusOf left right) ↔ unlocks :=
      exists_congr fun side => unlockedBy_iff
    have htaken : taken (rowAct (.doorState arr [left, right]) (begin arr.elapsed s)) := by
      rw [hact]
      exact ⟨hfound.stored, hfound.others, hfound.record, hfound.flag, hfound.events.faults, hfound.events.obstructed,
        hfound.events.fifo, hfound.events.door, hfound.moe, hfound.mga⟩
    have hsettles : ∀ {P : State → Prop}, P (rowAct (.doorState arr [left, right]) (begin arr.elapsed s)) →
        Settles (.doorState arr [left, right]) s P :=
      settles_of_act (e := arr.elapsed) rfl h.running (by rw [hact]; exact hfound.mga)
    have hquietly : rest ∨ ¬ unlocks → (s.passed arr 0x41 [left, right]).hlc.state.atRest = true ∨
        ¬ (s.passed arr 0x41 [left, right]).Unlocked car (statusOf left right) := fun hquiet =>
      hquiet.imp (HaulState.atRest_iff _).mpr (mt hunlocked.mp)
    refine ⟨fun hquiet hstill => ?quiet, fun hquiet hmoving hflag => ?opening,
      fun harmed hopen o ho => ?armed, fun hrun hopen hfree => ?onRun⟩
    case quiet =>
      have hkept := takeDoorReport_quiet (s := s.passed arr 0x41 [left, right]) hl (hquietly hquiet) hstill
      rw [← hact] at hkept
      exact completes_of_act (e := arr.elapsed) rfl h.running (.inl (congrArg Hlc.state hkept.hlc))
        ⟨htaken, hkept.hlc, hkept.brs, hkept.env, hkept.adu⟩
    case opening =>
      obtain ⟨hadu, hlatches, hjoins⟩ :=
        takeDoorReport_opening (s := s.passed arr 0x41 [left, right]) hl (hquietly hquiet) hmoving hflag
      rw [← hact] at hadu hlatches hjoins
      exact hsettles ⟨htaken, hadu, fun hfree => ⟨(hlatches hfree).hlc, (hlatches hfree).trip⟩, hjoins⟩
    case armed =>
      obtain ⟨hreturns, htrips⟩ :=
        takeDoorReport_armed (s := s.passed arr 0x41 [left, right]) hl harmed (hunlocked.mpr hopen) ho
      rw [← hact] at hreturns htrips
      exact ⟨fun hstill => hsettles ⟨htaken, hreturns hstill⟩,
        fun hmoving hflag hfree => hsettles ⟨htaken, htrips hmoving hflag hfree⟩⟩
    case onRun =>
      have htrips := takeDoorReport_on_run (s := s.passed arr 0x41 [left, right]) hl hrun (hunlocked.mpr hopen) hfree
      rw [← hact] at htrips
      exact hsettles ⟨htaken, ⟨htrips.hlc, htrips.trip⟩, htrips.adu⟩
  case moving =>
    intro t holds
    refine ⟨fun hmoving hflag => ?_, fun hmoving hflag => ?_, fun hstill => ?_⟩
    · have ht : t = _ := judgeMovingOpen_of_quiet hl (.inr (.inl hflag))
      rw [ht, movingOpenNow_iff.mpr hmoving, ← hflag]
      rfl
    · have ht : t = _ := judgeMovingOpen_of_opening hl hmoving hflag
      rw [ht]
      refine ⟨by simp [setMovingOpen], ?_⟩
      cases hlatched : s.brs.trip.latched with
      | false =>
        obtain ⟨hhlc, htrip, -⟩ := trip_latches (s := setMovingOpen true s) .doorOpenMoving (by simpa using hlatched)
        rw [hhlc, htrip]
        exact ⟨rfl, fun _ => ⟨rfl, rfl⟩, nofun⟩
      | true =>
        obtain ⟨hhlc, htrip, -⟩ := trip_joins (s := setMovingOpen true s) .doorOpenMoving (by simpa using hlatched)
        rw [hhlc, htrip]
        exact ⟨hlatched, nofun, fun _ => ⟨rfl, rfl, rfl⟩⟩
    · have hnow : s.movingOpenNow l = false := by simpa using mt movingOpenNow_iff.mp hstill
      have ht : t = _ := judgeMovingOpen_of_quiet hl (.inl hstill)
      rw [ht, hnow]
      rfl
  case faulted => exact judgeSide_of_unlocked_at_rest hr hx hrun
  case tripping => exact judgeSide_of_unlocked_on_run hr hx hrun
  case obstructed =>
    rw [judgeSide_of_other (by simp [DoorRecord.unlockedBy, hr]),
      if_pos (by simp [DoorRecord.obstructedBy, hr, hx, ho]), State.obstruction, ht]
    rfl
  case taken => exact takeDoorReport_of_not_armed hst car left right

end Sys2Proof.Machine

end

/-! ## The timers of the doors and of their reports (R105, R109, R112) -/

section

namespace Sys2Proof.Machine

/-! ### The action timers (R109, R112) -/

/-- The expiry of an action timer: a record that still waits in st becomes FAULT for this reason. -/
def actionExpiry (st : DoorState) (why : DoorFaultReason) (car : Car) (side : Side) (s : State) : State :=
  if (s.dru.door car side).state = st ∧ due (s.dru.door car side).timer s.clock then
    faultDoor car side why s.hlc.state s
  else s

theorem releaseExpiry_eq (car : Car) (side : Side) (s : State) :
    releaseExpiry car side s = actionExpiry .releasing .noResponse car side s := rfl

theorem closeExpiry_eq (car : Car) (side : Side) (s : State) :
    closeExpiry car side s = actionExpiry .closing .closeTimeout car side s := rfl

section

variable {s : State} {c : Instr} {e : Time} {st : DoorState} {why : DoorFaultReason} {car : Car} {side : Side}

theorem actionExpiry_of_idle
    (h : (s.dru.door car side).state ≠ st ∨ due (s.dru.door car side).timer s.clock = false) :
    actionExpiry st why car side s = s := by
  refine if_neg fun ⟨hst, hdue⟩ => ?_
  obtain hother | hearly := h
  · exact hother hst
  · simp [hearly] at hdue

theorem actionExpiry_of_due (hst : (s.dru.door car side).state = st)
    (hdue : due (s.dru.door car side).timer s.clock = true) :
    actionExpiry st why car side s = faultDoor car side why s.hlc.state s :=
  if_pos ⟨hst, hdue⟩

/-- A row that is the expiry of an action timer is over with it, for it moves no haul. -/
theorem exec_of_actionExpiry (he : rowElapsed c = some e) (hrun : s.inReset = false)
    (hact : rowAct c (begin e s) = actionExpiry st why car side (begin e s)) :
    (((s.dru.door car side).state ≠ st ∨ due (s.dru.door car side).timer (s.clock + e) = false) →
      exec c s = .next (begin e s)) ∧
    ((s.dru.door car side).state = st → due (s.dru.door car side).timer (s.clock + e) = true →
      exec c s = .next (faultDoor car side why s.hlc.state (begin e s))) := by
  refine ⟨fun hidle => exec_of_idle he hrun (hact.trans (actionExpiry_of_idle (s := begin e s) hidle)),
    fun hst hdue => ?_⟩
  rw [exec_of_running he hrun, hact, actionExpiry_of_due (s := begin e s) hst hdue]
  exact congrArg _ (settle_of_same (by simp))

end

/-! ### The lapse of a car's reports (R105) -/

section

variable {s : State} {e : Time} {car : Car}

/-- The Door Release Unit with a car's freshness expiry idle and its report kept. -/
def Dru.unwatched (d : Dru) (car : Car) : Dru := d.setReports car { d.reports car with expiry := none }

/-- The lapse of a car's reports, before the demand that it makes out of rest. -/
def State.reportsLost (s : State) (car : Car) : State :=
  raise .doorStateLost (carCode car ++ s.hlc.state.code ++ (0 : Byte) ++ (0 : Byte))
    { s with dru := s.dru.unwatched car }

@[simp] theorem reportsLost_frame (s : State) (car : Car) :
    (s.reportsLost car).dru = s.dru.unwatched car ∧ (s.reportsLost car).hlc = s.hlc ∧
    (s.reportsLost car).env = s.env ∧ (s.reportsLost car).brs = s.brs ∧ (s.reportsLost car).moe = s.moe ∧
    (s.reportsLost car).adu = s.adu ∧ (s.reportsLost car).mga = s.mga := by
  simp [State.reportsLost]

theorem reportsLost_count (s : State) (car : Car) :
    (s.reportsLost car).rpu.slots[EventKind.doorStateLost.code].count =
      satAdd s.rpu.slots[EventKind.doorStateLost.code].count 1 := by
  simp only [State.reportsLost, raise_count, if_true]

theorem freshnessExpiry_of_early (h : due (s.dru.reports car).expiry s.clock = false) : freshnessExpiry car s = s :=
  if_neg (by simp [h])

theorem freshnessExpiry_of_rest (hdue : due (s.dru.reports car).expiry s.clock = true)
    (hrest : s.hlc.state.atRest = true) : freshnessExpiry car s = s.reportsLost car :=
  (if_pos hdue).trans (lapse_of_rest hrest car)

theorem freshnessExpiry_of_run (hdue : due (s.dru.reports car).expiry s.clock = true)
    (hrun : s.hlc.state.atRest = false) : freshnessExpiry car s = demand .doorStateLost (s.reportsLost car) :=
  (if_pos hdue).trans (if_neg (by simp [hrun]))

/-- The demand of a lapse counts SERVICE_STOP, and DOOR_STATE_LOST no second time. -/
theorem demand_reportsLost_count (s : State) (car : Car) :
    (demand .doorStateLost (s.reportsLost car)).rpu.slots[EventKind.doorStateLost.code].count =
      satAdd s.rpu.slots[EventKind.doorStateLost.code].count 1 := by
  rw [demand_count (by decide) (by decide), reportsLost_count]

/-- What a lapse leaves in every haul state that it makes a demand in. -/
theorem demand_reportsLost_frame (s : State) (car : Car) :
    (demand .doorStateLost (s.reportsLost car)).dru = s.dru.unwatched car ∧
    (demand .doorStateLost (s.reportsLost car)).moe = s.moe ∧
    (demand .doorStateLost (s.reportsLost car)).mga = s.mga := by
  simp

end

/-- Settles O38: both action timers are one `actionExpiry`; a lapse is `State.reportsLost`, and out of rest the demand
acts on that state by its haul state. -/
theorem doorTimersFaultOrLapse : Obligations.DoorTimersFaultOrLapse := by
  unfold Obligations.DoorTimersFaultOrLapse
  refine ⟨fun s e car side hrun => ?action, fun s e car hrun => ?reports⟩
  case action =>
    obtain ⟨hkept, hfaulted⟩ := exec_of_actionExpiry (c := .releaseExpiry e car side) (e := e) rfl hrun
      (releaseExpiry_eq car side _)
    obtain ⟨hkept', hfaulted'⟩ := exec_of_actionExpiry (c := .closeExpiry e car side) (e := e) rfl hrun
      (closeExpiry_eq car side _)
    exact ⟨hkept, hfaulted, hkept', hfaulted'⟩
  case reports =>
    intro d
    refine ⟨fun hearly => exec_of_idle rfl hrun (freshnessExpiry_of_early (s := begin e s) hearly), fun hdue => ?_⟩
    have hdemanded : s.hlc.state.atRest = false → rowAct (.doorStateLost e car) (begin e s) =
        demand .doorStateLost ((begin e s).reportsLost car) :=
      fun hmoving => freshnessExpiry_of_run (s := begin e s) hdue hmoving
    have hcount := demand_reportsLost_count (begin e s) car
    obtain ⟨hdru, hmoe, hmga⟩ := demand_reportsLost_frame (begin e s) car
    obtain ⟨-, hhlc, henv, hbrs, -, hadu, -⟩ := reportsLost_frame (begin e s) car
    have hstate := congrArg Hlc.state hhlc
    refine ⟨fun hrest => ?rest, fun hmoving => ?demanded, fun hst => ?running, fun hst o ho => ?armed,
      fun hst => ?stopped⟩
    case rest =>
      have hact : rowAct (.doorStateLost e car) (begin e s) = (begin e s).reportsLost car :=
        freshnessExpiry_of_rest (s := begin e s) hdue ((HaulState.atRest_iff _).mpr hrest)
      rw [exec_of_running (e := e) rfl hrun, hact]
      exact congrArg _ (settle_of_same hstate)
    case demanded =>
      rw [exec_of_running (e := e) rfl hrun, hdemanded hmoving]
      rfl
    case running =>
      have hact := hdemanded (HaulState.atRest_of_run (by simp [hst]))
      obtain ⟨hstopped, -, -, -, -, -, hkept⟩ := demand_stops (cause := .doorStateLost) (hstate.trans hst)
      rw [hhlc] at hstopped
      refine completes_of_act (e := e) rfl hrun (.inr ?_) ?_
      · rw [hact, hstopped]
        exact ⟨nofun, nofun⟩
      · rw [hact]
        exact ⟨hdru, hstopped, hcount, hmoe, hkept.trans hadu, hmga⟩
    case armed =>
      have hact := hdemanded (HaulState.atRest_of_run (by simp [hst]))
      obtain ⟨hreturned, hoff, -⟩ := demand_returns (cause := .doorStateLost) (hstate.trans hst)
        ((congrArg Hlc.origin hhlc).trans ho)
      rw [hhlc] at hreturned
      rw [henv] at hoff
      refine settles_of_act (e := e) rfl hrun (by rw [hact]; exact hmga) ?_
      rw [hact]
      exact ⟨hdru, hreturned, hoff, hcount, hmoe, hmga⟩
    case stopped =>
      have hact := hdemanded (HaulState.atRest_of_run (by simp [hst]))
      obtain ⟨hfurther, -, hstands, hkept, -⟩ := demand_counts_further (cause := .doorStateLost) (hstate.trans hst)
      rw [hhlc] at hfurther
      refine completes_of_act (e := e) rfl hrun (.inl ?_) ?_
      · rw [hact, hfurther]
        rfl
      · rw [hact]
        exact ⟨hdru, hfurther, hstands.trans hbrs, hmoe, hkept.trans hadu, hmga⟩

end Sys2Proof.Machine

end

/-! ## Door requests (R106–R108, R111) -/

section

namespace Sys2Proof.Machine

/-! ### The requests of the console (R106, R164) -/

/-- A state with the reply to a door request placed last in REPLY. -/
def State.doorReplied (t s : State) (arr : Arrival) (tag action result : Byte) : State :=
  t.withRif { t.rif with reply := t.rif.reply ++ [lineReply s arr tag 0x40 action result] }

section

variable {s u : State} {instr : Instr} {arr : Arrival} {c d action tag : Byte}

/-- A door request that is taken is decided and answered. -/
theorem rowAct_of_door_request (hc : rowFrame instr = some (arr, 0x40, [c, d, action, tag]))
    (h : ConsoleArrives s arr 0x40 [c, d, action, tag]) :
    rowAct instr (begin arr.elapsed s) = (decideDoor c d action (s.asked arr)).2.doorReplied s arr tag action
      (decideDoor c d action (s.asked arr)).1.code := by
  have hdst : arr.dst = s.oaByte := h.toPart
  have htaken : dealKind (frameOf arr 0x40 [c, d, action, tag]) (begin arr.elapsed s) =
      takeDoorReq (frameOf arr 0x40 [c, d, action, tag]) (s.asked arr) := by
    simp [frameOf, dealKind, dealDoorReq, dealRequest, hdst, h.console, takeIfRoom, h.replyRoom, State.asked]
  rw [rowAct_of_arrives hc h.toArrives h.fromOther, htaken]
  have hoa : (decideDoor c d action (s.asked arr)).2.oaByte = s.oaByte := by
    simp [State.oaByte, State.asked]
  simp only [takeDoorReq, placeReply, State.doorReplied, lineReply, ← hoa]
  rfl

/-- A door request that changes nothing, refused or not, is answered. -/
theorem exec_of_door_answer (he : rowElapsed instr = some arr.elapsed)
    (hc : rowFrame instr = some (arr, 0x40, [c, d, action, tag]))
    (h : ConsoleArrives s arr 0x40 [c, d, action, tag]) {r : DoorResult}
    (hd : decideDoor c d action (s.asked arr) = (r, s.asked arr)) :
    exec instr s = .next { begin arr.elapsed s with
      rif := s.answered (lineReply s arr tag 0x40 action r.code) } := by
  rw [exec_of_running he h.running, rowAct_of_door_request hc h, hd]
  exact congrArg _ (settle_of_same rfl)

end

/-! ### Commands to a car-side (R108) -/

/-- The DOOR_CMD of an action stands last in the DOOR class, alone for its car-side; the Door Release Unit apart, what
no door command touches stands. -/
structure DoorCommanded (action : Byte) (car : Car) (side : Side) (s t : State) : Prop where
  slots : t.rif.door = (s.rif.door.filter fun x => ¬ (x.car = car ∧ x.side = side)) ++
    [⟨car, side, { kind := 0x42, dst := s.addressOf (carRole car), src := s.oaByte, seq := s.rif.txSeq,
                   payload := [sideCode side, action] }⟩]
  txSeq : t.rif.txSeq = s.rif.txSeq + 1
  reply : t.rif.reply = s.rif.reply
  hlc : t.hlc = s.hlc
  brs : t.brs = s.brs
  moe : t.moe = s.moe
  adu : t.adu = s.adu
  mga : t.mga = s.mga
  rpu : t.rpu = s.rpu

theorem placeDoor_commanded (car : Car) (side : Side) (action : DoorAction) (s : State) :
    DoorCommanded action.code car side s (placeDoor car side action s) := by
  obtain ⟨hslots, hseq, -⟩ := placeDoor_rif car side action s
  have hfor : ∀ x : DoorSlot, (!x.isFor car side) = decide ¬ (x.car = car ∧ x.side = side) := fun x => by
    rw [DoorSlot.isFor_eq x (car, side)]
    simp
  simp only [hfor] at hslots
  exact ⟨hslots, hseq, (Undisturbed.placeDoor car side action s).reply, by simp, by simp, by simp, by simp, by simp,
    by simp⟩

theorem DoorCommanded.withDru {action : Byte} {car : Car} {side : Side} {s t : State}
    (h : DoorCommanded action car side s t) (d : Dru) : DoorCommanded action car side s (t.withDru d) :=
  ⟨h.slots, h.txSeq, h.reply, h.hlc, h.brs, h.moe, h.adu, h.mga, h.rpu⟩

/-- An accepted door request that sends a command completes with the command placed and the reply. -/
theorem completes_of_door_command {s u : State} {instr : Instr} {arr : Arrival} {c d action tag : Byte} {car : Car}
    {side : Side} (he : rowElapsed instr = some arr.elapsed)
    (hc : rowFrame instr = some (arr, 0x40, [c, d, action, tag])) (h : ConsoleArrives s arr 0x40 [c, d, action, tag])
    (hd : decideDoor c d action (s.asked arr) = (.accepted, u)) (hu : DoorCommanded action car side (s.asked arr) u) :
    Completes instr s fun t => t.dru = u.dru ∧
      t.rif.door = (s.rif.door.filter fun x => ¬ (x.car = car ∧ x.side = side)) ++
        [⟨car, side, { kind := 0x42, dst := s.addressOf (carRole car), src := s.oaByte, seq := s.rif.txSeq,
                       payload := [sideCode side, action] }⟩] ∧
      t.rif.txSeq = s.rif.txSeq + 1 ∧ t.rif.reply = s.rif.reply ++ [lineReply s arr tag 0x40 action 0x00] ∧
      t.hlc = s.hlc ∧ t.brs = s.brs ∧ t.moe = s.moe ∧ t.adu = s.adu ∧ t.mga = s.mga ∧ t.rpu = s.rpu := by
  have hact : rowAct instr (begin arr.elapsed s) = u.doorReplied s arr tag action 0x00 := by
    rw [rowAct_of_door_request hc h, hd]
    rfl
  refine completes_of_act he h.running (.inl ?_) ?_
  · rw [hact]
    exact congrArg Hlc.state hu.hlc
  · rw [hact]
    exact ⟨rfl, hu.slots, hu.txSeq, congrArg (· ++ _) hu.reply, hu.hlc, hu.brs, hu.moe, hu.adu, hu.mga, hu.rpu⟩

/-! ### OPEN (R107) -/

section

variable {s : State} {l : Line} {car : Car} {side : Side}

/-- The berth is a stop whose platform serves the car-side. -/
def State.Served (s : State) (car : Car) (side : Side) : Prop :=
  ∃ i st, s.hlc.berth = some i ∧ s.stops[i]? = some st ∧
    (st.platform car = .both ∨ (st.platform car = .left ∧ side = .left) ∨
      (st.platform car = .right ∧ side = .right))

theorem Platform.serves_iff {p : Platform} : p.serves side = true ↔
    p = .both ∨ (p = .left ∧ side = .left) ∨ (p = .right ∧ side = .right) := by
  cases p <;> cases side <;> simp [Platform.serves]

theorem platformAt_iff : s.platformAt car side = true ↔ s.Served car side := by
  simp only [State.Served, ← Platform.serves_iff, State.platformAt]
  cases hb : s.hlc.berth with
  | none => simp
  | some i => cases hst : s.stops[i]? <;> simp [hst]

/-- OPEN that fails a check leaves the state. -/
theorem openDoor_of_refused {r : DoorResult} (h : s.openResult car side = r) (hr : r ≠ .accepted) :
    openDoor car side s = (r, s) := by
  rw [openDoor, h]
  cases r with
  | accepted => exact absurd rfl hr
  | _ => rfl

theorem openResult_of_state (h : s.hlc.state ≠ .boarding) : s.openResult car side = .state :=
  if_pos h

theorem openResult_of_moving (h : s.hlc.state = .boarding) (hstill : s.moe.still = false) :
    s.openResult car side = .moving := by
  simp [State.openResult, h, hstill]

theorem openResult_of_position (h : s.hlc.state = .boarding) (hstill : s.moe.still = true)
    (htrusted : s.moe.status.trusted = false) : s.openResult car side = .position := by
  simp [State.openResult, h, hstill, htrusted]

/-- In BOARDING, at rest and trusted, the platform and the record decide. -/
theorem openResult_of_berthed (h : s.hlc.state = .boarding) (hberthed : s.Berthed) : s.openResult car side =
    if !s.platformAt car side then .noPlatform
    else if (s.dru.door car side).state ≠ .locked then .busy else .accepted := by
  obtain ⟨hstill, htrusted⟩ := hberthed
  simp [State.openResult, h, hstill, htrusted]

theorem openResult_of_no_platform (h : s.hlc.state = .boarding) (hberthed : s.Berthed)
    (hnone : ¬ s.Served car side) : s.openResult car side = .noPlatform := by
  rw [openResult_of_berthed h hberthed, if_pos]
  simpa using mt platformAt_iff.mp hnone

theorem openResult_of_platform (h : s.hlc.state = .boarding) (hberthed : s.Berthed) (hp : s.Served car side) :
    s.openResult car side = if (s.dru.door car side).state ≠ .locked then .busy else .accepted := by
  rw [openResult_of_berthed h hberthed, if_neg]
  simp [platformAt_iff.mpr hp]

/-- A RELEASE placed and the record RELEASING (R107, R108). -/
def release (car : Car) (side : Side) (s : State) : State := startRelease car side (placeDoor car side .release s)

theorem openDoor_of_accepted (h : s.openResult car side = .accepted) :
    openDoor car side s = (.accepted, judgeMovingOpen false (release car side s)) := by
  rw [openDoor, h]
  rfl

/-- An OPEN at no more than v_still takes no cause of R115 and clears the flag. -/
theorem judgeMovingOpen_release (hl : s.line = some l) (hslow : s.moe.last.v ≤ l.vStill) :
    judgeMovingOpen false (release car side s) = setMovingOpen false (release car side s) := by
  have hkept : (release car side s).line = some l ∧ (release car side s).moe = s.moe := by
    simp [release, startRelease, setDoor, State.line, ← hl]
  obtain ⟨hl', hmoe⟩ := hkept
  have hstill : ¬ (release car side s).MovingOpen l := fun ⟨_, hfast⟩ => by
    rw [hmoe] at hfast
    exact absurd hslow (Nat.not_le.mpr hfast)
  rw [judgeMovingOpen_of_quiet hl' (.inl hstill), Bool.eq_false_iff.mpr (mt movingOpenNow_iff.mp hstill)]

theorem setMovingOpen_release_dru (hl : s.line = some l) : (setMovingOpen false (release car side s)).dru =
    { s.dru.setDoor car side { state := .releasing, timer := some { start := s.clock, dur := l.tDoorRelease } } with
      movingOpen := false } := by
  have hparam : (placeDoor car side .release s).param (·.tDoorRelease) 0 = l.tDoorRelease :=
    param_of_line (by simpa [State.line] using hl) _
  simp [setMovingOpen, release, startRelease, setDoor, hparam]

theorem setMovingOpen_release_commanded : DoorCommanded 1 car side s (setMovingOpen false (release car side s)) :=
  ((placeDoor_commanded car side .release s).withDru _).withDru _

/-! ### CLOSE (R111) -/

theorem closeDoor_of_locked (h : (s.dru.door car side).state = .locked) : closeDoor car side s = (.accepted, s) := by
  simp only [closeDoor, h]

/-- CLOSE of a record that is CLOSING repeats the WITHDRAW, its expiry running on. -/
theorem closeDoor_of_closing (h : (s.dru.door car side).state = .closing) :
    closeDoor car side s = (.accepted, placeDoor car side .withdraw s) := by
  simp only [closeDoor, h]

theorem closeDoor_of_open (hlocked : (s.dru.door car side).state ≠ .locked)
    (hclosing : (s.dru.door car side).state ≠ .closing) : closeDoor car side s = (.accepted, withdraw car side s) := by
  cases h : (s.dru.door car side).state with
  | locked => exact absurd h hlocked
  | closing => exact absurd h hclosing
  | _ => simp only [closeDoor, h]

theorem withdraw_dru (hl : s.line = some l) : (withdraw car side s).dru = s.dru.setDoor car side
    { state := .closing, timer := some { start := s.clock, dur := l.tDoorClose * 1000 } } := by
  have hline : (placeDoor car side .withdraw s).line = some l := by simpa [State.line] using hl
  simp [withdraw, startClosing, setDoor, State.closeTime, hline]

theorem withdraw_commanded : DoorCommanded 2 car side s (withdraw car side s) :=
  (placeDoor_commanded car side .withdraw s).withDru _

/-- CLOSE of a record that is not LOCKED sends a WITHDRAW and leaves the record CLOSING. -/
theorem closeDoor_of_unlocked (hl : s.line = some l) (hlocked : (s.dru.door car side).state ≠ .locked) :
    ∃ u, closeDoor car side s = (.accepted, u) ∧ DoorCommanded 2 car side s u ∧
      u.dru = if (s.dru.door car side).state = .closing then s.dru else s.dru.setDoor car side
        { state := .closing, timer := some { start := s.clock, dur := l.tDoorClose * 1000 } } := by
  by_cases hclosing : (s.dru.door car side).state = .closing
  · exact ⟨_, closeDoor_of_closing hclosing, placeDoor_commanded car side .withdraw s, by simp [hclosing]⟩
  · exact ⟨_, closeDoor_of_open hlocked hclosing, withdraw_commanded, by rw [withdraw_dru hl, if_neg hclosing]⟩

/-! ### The fields of a request (R106) -/

variable {c d action : Byte}

theorem decideDoor_open (hc : carOf c = some car) (hd : sideOf d = some side) :
    decideDoor c d 1 s = openDoor car side s := by
  simp [decideDoor, hc, hd]

theorem decideDoor_close (hc : carOf c = some car) (hd : sideOf d = some side) :
    decideDoor c d 2 s = closeDoor car side s := by
  simp [decideDoor, hc, hd]

theorem carOf_eq_none (ha : c ≠ 0) (hb : c ≠ 1) : carOf c = none :=
  (if_neg ha).trans (if_neg hb)

theorem sideOf_eq_none (hleft : d ≠ 1) (hright : d ≠ 2) : sideOf d = none :=
  (if_neg hleft).trans (if_neg hright)

theorem decideDoor_bad (h : (c ≠ 0 ∧ c ≠ 1) ∨ (d ≠ 1 ∧ d ≠ 2) ∨ (action ≠ 1 ∧ action ≠ 2)) :
    decideDoor c d action s = (.badRequest, s) := by
  obtain ⟨ha, hb⟩ | ⟨hleft, hright⟩ | ⟨hopen, hclose⟩ := h
  · simp only [decideDoor, carOf_eq_none ha hb]
  · cases hc : carOf c <;> simp only [decideDoor, hc, sideOf_eq_none hleft hright]
  · cases hc : carOf c <;> cases hd : sideOf d <;> simp only [decideDoor, hc, hd, if_neg hopen, if_neg hclose]

end

/-- Settles O39: OPEN is refused by the checks of `State.openResult` in order or is a `release`, CLOSE is
`closeDoor_of_unlocked`, and a field that names nothing is refused. -/
theorem doorRequestsReleaseAndWithdraw : Obligations.DoorRequestsReleaseAndWithdraw := by
  unfold Obligations.DoorRequestsReleaseAndWithdraw
  refine ⟨fun s arr c d tag car side l hc hd hl => ?valid,
    fun s arr c d action tag h hbad => exec_of_door_answer rfl rfl h (decideDoor_bad hbad)⟩
  intro now command others
  refine ⟨fun h => ?opening, fun h => ?closing⟩
  case opening =>
    intro refused platform
    have hrefused : ∀ {r : DoorResult}, (s.asked arr).openResult car side = r → r ≠ .accepted → refused r.code :=
      fun hr hne => exec_of_door_answer (instr := .doorReqOpen arr c d tag) rfl rfl h
        ((decideDoor_open hc hd).trans (openDoor_of_refused hr hne))
    refine ⟨fun hst => hrefused (openResult_of_state (s := s.asked arr) hst) nofun,
      fun hst hstill => hrefused (openResult_of_moving (s := s.asked arr) hst hstill) nofun,
      fun hst hstill htrusted => hrefused (openResult_of_position (s := s.asked arr) hst hstill htrusted) nofun,
      fun hst hstill htrusted hnone =>
        hrefused (openResult_of_no_platform (s := s.asked arr) hst ⟨hstill, htrusted⟩ hnone) nofun,
      fun hst hstill htrusted hp hbusy => ?busy, fun hst hstill htrusted hp hlocked hslow => ?accepted⟩
    case busy =>
      exact hrefused ((openResult_of_platform (s := s.asked arr) hst ⟨hstill, htrusted⟩ hp).trans (if_pos hbusy)) nofun
    case accepted =>
      have hr := (openResult_of_platform (s := s.asked arr) hst ⟨hstill, htrusted⟩ hp).trans
        (if_neg (not_not.mpr hlocked))
      have hdecided : decideDoor c d 1 (s.asked arr) =
          (.accepted, setMovingOpen false (release car side (s.asked arr))) := by
        rw [decideDoor_open hc hd, openDoor_of_accepted hr, judgeMovingOpen_release (s := s.asked arr) hl hslow]
      refine (completes_of_door_command rfl rfl h hdecided setMovingOpen_release_commanded).imp fun t ht => ?_
      obtain ⟨hdru, hrest⟩ := ht
      exact ⟨hdru.trans (setMovingOpen_release_dru (s := s.asked arr) hl), hrest⟩
  case closing =>
    intro reply st
    refine ⟨fun hlocked => ?locked, fun hlocked => ?withdrawn⟩
    case locked =>
      exact exec_of_door_answer (instr := .doorReqClose arr c d tag) rfl rfl h
        ((decideDoor_close hc hd).trans (closeDoor_of_locked (s := s.asked arr) hlocked))
    case withdrawn =>
      obtain ⟨u, hu, hcommanded, hrecord⟩ := closeDoor_of_unlocked (s := s.asked arr) hl hlocked
      refine (completes_of_door_command rfl rfl h ((decideDoor_close hc hd).trans hu) hcommanded).imp fun t ht => ?_
      obtain ⟨hdru, hrest⟩ := ht
      exact ⟨hdru.trans hrecord, hrest⟩

end Sys2Proof.Machine

end

/-! ## What the other blocks leave of the FIFO and of the Admission Unit's records (R123, R131, R139, R158)

Forwarding and the boundaries on OUT move the FIFO, tickets, passes and removals the records. Everything else leaves both
alone: of the Admission Unit an entry to BOARDING clears the full-reported flags, and no more. -/

section

namespace Sys2Proof.Machine

/-- The Admission Unit without its full-reported flags and its counters, of which no law speaks: the grants, the passback
list, the token counter and the counts of passengers. -/
def Adu.records (a : Adu) : Adu := { a with fullA := false, fullB := false, counters := Vector.replicate 23 0 }

@[simp] theorem Adu.records_countBy (a : Adu) (c : AduCounter) (n : Nat) : (a.countBy c n).records = a.records := rfl

@[simp] theorem Adu.records_setFull (a : Adu) (car : Car) : (a.setFull car).records = a.records := by cases car <;> rfl

@[simp] theorem countAdu_records (c : AduCounter) (s : State) : (countAdu c s).adu.records = s.adu.records := rfl

/-! ### Frames the part builds, and changes of haul state -/

@[simp] theorem placeForce_fifo (s : State) : (placeForce s).rif.fifo = s.rif.fifo := by
  simp only [placeForce]
  split <;> rfl

@[simp] theorem placeDoor_fifo (car : Car) (side : Side) (action : DoorAction) (s : State) :
    (placeDoor car side action s).rif.fifo = s.rif.fifo := by
  simp only [placeDoor]
  split <;> rfl

@[simp] theorem applyReportLevel_fifo (s : State) : (applyReportLevel s).rif.fifo = s.rif.fifo := by
  simp [applyReportLevel, (Selected.reports _).fifo]

@[simp] theorem enterRest_records (st : HaulState) (berth : Option Nat) (boardingOpen : Bool) (s : State) :
    (enterRest st berth boardingOpen s).adu.records = s.adu.records := by
  unfold enterRest
  split <;> simp [clearFullFlags, Adu.records]

@[simp] theorem returnToOrigin_aside (s : State) :
    (returnToOrigin s).rif.fifo = s.rif.fifo ∧ (returnToOrigin s).adu.records = s.adu.records := by
  simp [returnToOrigin]

@[simp] theorem trip_aside (cause : TripCause) (s : State) :
    (trip cause s).rif.fifo = s.rif.fifo ∧ (trip cause s).adu.records = s.adu.records := by
  refine ⟨(Undisturbed.trip cause s).fifo, ?_⟩
  unfold trip
  split <;> simp [latchTrip, enterTripped]

@[simp] theorem demand_aside (cause : StopCause) (s : State) :
    (demand cause s).rif.fifo = s.rif.fifo ∧ (demand cause s).adu.records = s.adu.records := by
  refine ⟨demand_fifo cause s, ?_⟩
  simp only [demand]
  (repeat' split) <;> simp

/-! ### The motion update (R10) -/

theorem judgeTier_records (s : State) : (judgeTier s).adu.records = s.adu.records := by
  unfold judgeTier tierCases
  simp only
  (repeat' split) <;> simp

theorem judgeLoss_records (s : State) : (judgeLoss s).adu.records = s.adu.records := by
  unfold judgeLoss takeLoss
  simp only
  (repeat' split) <;> simp

theorem judgeTest_records (s : State) : (judgeTest s).adu.records = s.adu.records := by
  have htrigger : ∀ id, (judgeTrigger id s).adu.records = s.adu.records := fun id => by
    unfold judgeTrigger applyBrake
    (repeat' split) <;> simp
  unfold judgeTest
  split <;> simp [htrigger]

theorem brsUpdate_records (s : State) : (brsUpdate s).adu.records = s.adu.records := by
  simp only [brsUpdate]
  (repeat' split) <;> simp [judgeTest_records, judgeLoss_records, judgeTier_records]

@[simp] theorem judgeMovingOpen_aside (tripped : Bool) (s : State) :
    (judgeMovingOpen tripped s).rif.fifo = s.rif.fifo ∧
    (judgeMovingOpen tripped s).adu.records = s.adu.records := by
  refine ⟨(Undisturbed.judgeMovingOpen tripped s).fifo, ?_⟩
  unfold judgeMovingOpen
  (repeat' split) <;> simp

theorem hlcUpdate_records (s : State) : (hlcUpdate s).adu.records = s.adu.records := by
  unfold hlcUpdate endServiceStop arrive
  (repeat' split) <;> simp

@[simp] theorem motionUpdate_aside (s : State) :
    (motionUpdate s).rif.fifo = s.rif.fifo ∧ (motionUpdate s).adu.records = s.adu.records := by
  refine ⟨(Undisturbed.motionUpdate s).fifo, ?_⟩
  have henv : ∀ u : State, (envUpdate u).adu.records = u.adu.records := fun u => by
    unfold envUpdate
    split <;> simp
  have hdru : ∀ u : State, (druUpdate u).adu.records = u.adu.records := fun u => by simp [druUpdate]
  rw [motionUpdate, hlcUpdate_records, hdru, brsUpdate_records, henv]
  simp

/-! ### Samples, markers, the drive and the doors -/

@[simp] theorem crossCheck_aside (l : Line) (ch : ChannelId) (s : State) :
    (crossCheck l ch s).rif.fifo = s.rif.fifo ∧ (crossCheck l ch s).adu.records = s.adu.records := by
  refine ⟨crossCheck_fifo l ch s, ?_⟩
  unfold crossCheck judgeSlip judgeDisagree
  (repeat' split) <;> simp

@[simp] theorem takeSample_aside (ch : ChannelId) (x : Sample) (health : Byte) (s : State) :
    (takeSample ch x health s).rif.fifo = s.rif.fifo ∧ (takeSample ch x health s).adu.records = s.adu.records := by
  unfold takeSample
  (repeat' split) <;> simp [acceptSample]

@[simp] theorem takeMarker_aside (id car : Byte) (s : State) :
    (takeMarker id car s).rif.fifo = s.rif.fifo ∧ (takeMarker id car s).adu.records = s.adu.records := by
  unfold takeMarker judgeMarker
  simp only
  (repeat' split) <;> simp [markerUnknown, applyMarker, rejectMarker]

@[simp] theorem expireChannel_aside (ch : ChannelId) (s : State) :
    (expireChannel ch s).rif.fifo = s.rif.fifo ∧ (expireChannel ch s).adu.records = s.adu.records := by
  unfold expireChannel afterExpiry
  split <;> simp

@[simp] theorem driveLost_aside (s : State) :
    (driveLost s).rif.fifo = s.rif.fifo ∧ (driveLost s).adu.records = s.adu.records := by
  unfold driveLost
  split <;> simp

@[simp] theorem takeDrive_aside (p : List Byte) (s : State) :
    (takeDrive p s).rif.fifo = s.rif.fifo ∧ (takeDrive p s).adu.records = s.adu.records := by
  simp only [takeDrive]
  split <;> simp

@[simp] theorem judgeSide_aside (car : Car) (side : Side) (x : SideStatus) (s : State) :
    (judgeSide car side x s).1.rif.fifo = s.rif.fifo ∧ (judgeSide car side x s).1.adu.records = s.adu.records := by
  unfold judgeSide
  simp only
  (repeat' split) <;> simp [faultDoor]

@[simp] theorem takeDoorReport_aside (car : Car) (left right : SideStatus) (s : State) :
    (takeDoorReport car left right s).rif.fifo = s.rif.fifo ∧
    (takeDoorReport car left right s).adu.records = s.adu.records := by
  simp only [takeDoorReport]
  split <;> simp [storeReport]

@[simp] theorem lapse_aside (car : Car) (s : State) :
    (lapse car s).rif.fifo = s.rif.fifo ∧ (lapse car s).adu.records = s.adu.records := by
  simp only [lapse]
  split <;> simp

/-! ### New tables (R178, R180) -/

theorem foldl_expireIfDue_aside (chs : List ChannelId) (s : State) :
    (chs.foldl expireIfDue s).rif.fifo = s.rif.fifo ∧ (chs.foldl expireIfDue s).adu.records = s.adu.records := by
  induction chs generalizing s with
  | nil => exact ⟨rfl, rfl⟩
  | cons ch chs ih =>
    rw [List.foldl_cons, (ih _).1, (ih _).2]
    unfold expireIfDue
    split <;> simp

@[simp] theorem applyLineDoor_aside (l : Line) (s : State) (car : Car) :
    (applyLineDoor l s car).rif.fifo = s.rif.fifo ∧ (applyLineDoor l s car).adu.records = s.adu.records := by
  unfold applyLineDoor
  simp only
  (repeat' split) <;> simp

@[simp] theorem applyLine_aside (l : Line) (s : State) :
    (applyLine l s).rif.fifo = s.rif.fifo ∧ (applyLine l s).adu.records = s.adu.records := by
  simp [applyLine, applyLineMoe, foldl_expireIfDue_aside]

/-- New tables leave the FIFO and the records alone; the line they put in force is that of `after_line`. -/
@[simp] theorem takeEffect_aside (mask : Byte) (wasPending : Bool) (s : State) :
    (takeEffect mask wasPending s).rif.fifo = s.rif.fifo ∧
    (takeEffect mask wasPending s).adu.records = s.adu.records := by
  have hnotice : ∀ u : State, (noticeTables mask u).rif.fifo = u.rif.fifo ∧
      (noticeTables mask u).adu.records = u.adu.records := fun u => by
    unfold noticeTables
    (repeat' split) <;> simp
  simp only [takeEffect]
  split <;> simp [hnotice, raiseActivated, copyTables]

@[simp] theorem takePending_aside (mask : Byte) (s : State) :
    (takePending mask s).rif.fifo = s.rif.fifo ∧ (takePending mask s).adu.records = s.adu.records := by
  simp only [takePending]
  split <;> simp [raiseFailed]

/-- The end of a step leaves the FIFO and the records alone. -/
@[simp] theorem settle_aside (before after : State) :
    (settle before after).rif.fifo = after.rif.fifo ∧ (settle before after).adu.records = after.adu.records := by
  unfold settle
  (repeat' split) <;> simp

end Sys2Proof.Machine

end

/-! ## Tokens, and the laws of admission by what they read (R130, R139, R141, R149) -/

section

namespace Sys2Proof.Machine

/-! ### Candidates for a token (R130) -/

/-- The nth candidate from a token on: 255 is followed by 1. -/
def tokenAfter (t : Byte) (n : Nat) : Byte := BitVec.ofNat 8 ((t.toNat - 1 + n) % 255 + 1)

theorem tokenAfter_toNat (t : Byte) (n : Nat) : (tokenAfter t n).toNat = (t.toNat - 1 + n) % 255 + 1 := by
  simp only [tokenAfter, BitVec.toNat_ofNat]
  omega

theorem tokenAfter_ne_zero (t : Byte) (n : Nat) : tokenAfter t n ≠ 0 := fun h => by
  have htoken := tokenAfter_toNat t n
  simp [h] at htoken

theorem nextToken_eq_tokenAfter {t : Byte} (h : t ≠ 0) : nextToken t = tokenAfter t 1 := by
  apply BitVec.eq_of_toNat_eq
  rw [tokenAfter_toNat]
  unfold nextToken
  split <;> bv_omega

theorem tokenAfter_zero {t : Byte} (h : t ≠ 0) : tokenAfter t 0 = t := by
  apply BitVec.eq_of_toNat_eq
  rw [tokenAfter_toNat]
  bv_omega

theorem tokenAfter_nextToken {t : Byte} (h : t ≠ 0) (n : Nat) : tokenAfter (nextToken t) n = tokenAfter t (n + 1) := by
  apply BitVec.eq_of_toNat_eq
  simp only [nextToken_eq_tokenAfter h, tokenAfter_toNat]
  omega

theorem nextToken_ne_zero {t : Byte} (h : t ≠ 0) : nextToken t ≠ 0 :=
  nextToken_eq_tokenAfter h ▸ tokenAfter_ne_zero t 1

/-- The search ends at the first candidate that no grant holds, or with its candidates used up. -/
theorem freeToken_eq (grants : List Grant) (n : Nat) {t : Byte} (h : t ≠ 0) :
    ∃ k ≤ n, freeToken grants n t = tokenAfter t k ∧ (∀ j < k, ∃ y ∈ grants, y.token = tokenAfter t j) ∧
      (k < n → ∀ y ∈ grants, y.token ≠ tokenAfter t k) := by
  induction n generalizing t with
  | zero => exact ⟨0, le_rfl, (tokenAfter_zero h).symm, nofun, nofun⟩
  | succ n ih =>
    unfold freeToken
    split
    case isTrue hheld =>
      obtain ⟨k, hk, htoken, hbefore, hfree⟩ := ih (nextToken_ne_zero h)
      simp only [tokenAfter_nextToken h] at htoken hbefore hfree
      refine ⟨k + 1, by omega, htoken, fun j hj => ?_, fun hlt => hfree (by omega)⟩
      cases j with
      | zero => simpa [tokenAfter_zero h] using hheld
      | succ j => exact hbefore j (by omega)
    case isFalse hfree =>
      refine ⟨0, by omega, (tokenAfter_zero h).symm, nofun, fun _ => ?_⟩
      simpa [tokenAfter_zero h] using hfree

/-- Sixteen candidates in a row differ, so fifteen grants do not hold them all. -/
theorem exists_free_candidate {grants : List Grant} (hroom : grants.length < 16) (t : Byte) :
    ¬ ∀ j < 16, ∃ y ∈ grants, y.token = tokenAfter t j := fun hheld => by
  have hnodup : ((List.range 16).map (tokenAfter t)).Nodup := by
    refine List.Nodup.map_on (fun i hi j hj hij => ?_) List.nodup_range
    have htoNat := congrArg BitVec.toNat hij
    simp only [tokenAfter_toNat] at htoNat
    simp only [List.mem_range] at hi hj
    omega
  have hsub : (List.range 16).map (tokenAfter t) ⊆ grants.map (·.token) := by
    intro x hx
    obtain ⟨j, hj, rfl⟩ := List.mem_map.mp hx
    obtain ⟨y, hy, htoken⟩ := hheld j (List.mem_range.mp hj)
    exact htoken ▸ List.mem_map_of_mem hy
  have hlength := (hnodup.subperm hsub).length_le
  simp only [List.length_map, List.length_range] at hlength
  omega

/-- The allocated token is the first candidate from the token counter on that no grant holds (R130). -/
theorem allocate_eq {a : Adu} (h : a.token ≠ 0) (hroom : a.grants.length < 16) :
    ∃ n ≤ 15, a.allocate = tokenAfter a.token n ∧ (∀ y ∈ a.grants, y.token ≠ a.allocate) ∧
      ∀ j < n, ∃ y ∈ a.grants, y.token = tokenAfter a.token j := by
  obtain ⟨n, hn, htoken, hbefore, hfree⟩ := freeToken_eq a.grants 16 h
  have hlt : n < 16 := lt_of_le_of_ne hn fun hall => exists_free_candidate hroom a.token (hall ▸ hbefore)
  have htoken : a.allocate = tokenAfter a.token n := htoken
  exact ⟨n, by omega, htoken, htoken ▸ hfree hlt, hbefore⟩

/-! ### Lists with an element removed -/

theorem removeFirst_eq_eraseP {α : Type} (p : α → Bool) (l : List α) : removeFirst p l = l.eraseP p := by
  induction l with
  | nil => rfl
  | cons x l ih => rw [removeFirst, List.eraseP_cons, ih, Bool.cond_eq_ite]

/-- The element found first is the one removed. -/
theorem perm_removeFirst {α : Type} {p : α → Bool} {l : List α} {x : α} (h : l.find? p = some x) :
    l.Perm (x :: removeFirst p l) := by
  obtain ⟨hx, before, after, rfl, hbefore⟩ := List.find?_eq_some_iff_append.mp h
  have hout : removeFirst p (before ++ x :: after) = before ++ after := by
    rw [removeFirst_eq_eraseP, List.eraseP_append_right _ (by simpa using hbefore), List.eraseP_cons_of_pos hx]
  rw [hout]
  exact List.perm_middle

theorem agePassback_eq_dropWhile (now : Time) (limit : Nat) (l : List Passback) :
    agePassback now limit l = l.dropWhile fun x => decide (limit ≤ (now - x.passedAt).toNat) := by
  induction l with
  | nil => rfl
  | cons x l ih => simp only [agePassback, List.dropWhile_cons, decide_eq_true_eq, ih, since]

theorem agePassback_sublist (now : Time) (limit : Nat) (l : List Passback) : (agePassback now limit l).Sublist l :=
  agePassback_eq_dropWhile now limit l ▸ List.dropWhile_sublist _

/-! ### The counts of a car -/

theorem Adu.aboard_setAboard (a : Adu) (car c : Car) (n : Nat) :
    (a.setAboard car n).aboard c = if c = car then n else a.aboard c := by
  cases car <;> cases c <;> rfl

@[simp] theorem Adu.setAboard_frame (a : Adu) (car : Car) (n : Nat) :
    (a.setAboard car n).grants = a.grants ∧ (a.setAboard car n).passback = a.passback ∧
    (a.setAboard car n).token = a.token ∧ (a.setAboard car n).unticketedA = a.unticketedA ∧
    (a.setAboard car n).unticketedB = a.unticketedB := by
  cases car <;> exact ⟨rfl, rfl, rfl, rfl, rfl⟩

@[simp] theorem Adu.setUnticketed_frame (a : Adu) (car : Car) (n : Nat) :
    (a.setUnticketed car n).grants = a.grants ∧ (a.setUnticketed car n).passback = a.passback ∧
    (a.setUnticketed car n).token = a.token ∧ ∀ c, (a.setUnticketed car n).aboard c = a.aboard c := by
  cases car <;> exact ⟨rfl, rfl, rfl, fun c => by cases c <;> rfl⟩

/-- The capacity of a car in a LINE record (R128, R149). -/
def Line.capacity (l : Line) : Car → Nat
  | .a => l.capA
  | .b => l.capB

theorem capacity_of_line {s : State} {l : Line} (h : s.line = some l) (car : Car) : s.capacity car = l.capacity car := by
  cases car <;> simp [State.capacity, State.param, h, Line.capacity]

/-! ### The laws by what they read -/

/-- The laws of admission over the Admission Unit and the LINE record in force. -/
structure Adu.Sound (a : Adu) (line : Option Line) : Prop where
  grants : a.grants.length ≤ 16
  gates : (a.grants.map (·.gate)).Nodup
  tokens : (a.grants.map (·.token)).Nodup
  tokenNonzero : ∀ g ∈ a.grants, g.token ≠ 0
  counter : a.token ≠ 0
  serials : (a.grants.map (·.serial) ++ a.passback.map (·.serial)).Nodup
  passback : a.passback.length ≤ 64
  unticketed : a.unticketedA ≤ 255 ∧ a.unticketedB ≤ 255
  capacity : ∀ l, line = some l → ∀ car, a.held car ≤ l.capacity car

theorem admissionSound_iff {s : State} : AdmissionSound s ↔ s.adu.Sound s.line := by
  constructor
  · rintro ⟨h1, h2, h3, h4, h5, h6, h7, h8, hcap⟩
    exact ⟨h1, h2, h3, h4, h5, h6, h7, h8, fun l hl car => by cases car; exacts [(hcap l hl).1, (hcap l hl).2]⟩
  · rintro ⟨h1, h2, h3, h4, h5, h6, h7, h8, hcap⟩
    exact ⟨h1, h2, h3, h4, h5, h6, h7, h8, fun l hl => ⟨hcap l hl .a, hcap l hl .b⟩⟩

/-- The laws speak of the records alone. -/
theorem Adu.sound_records {a : Adu} {o : Option Line} : a.records.Sound o ↔ a.Sound o :=
  ⟨fun ⟨h1, h2, h3, h4, h5, h6, h7, h8, h9⟩ => ⟨h1, h2, h3, h4, h5, h6, h7, h8, h9⟩,
    fun ⟨h1, h2, h3, h4, h5, h6, h7, h8, h9⟩ => ⟨h1, h2, h3, h4, h5, h6, h7, h8, h9⟩⟩

section

variable {a b : Adu} {o : Option Line}

theorem Adu.Sound.congr (h : a.Sound o) (hrecords : b.records = a.records) : b.Sound o :=
  Adu.sound_records.mp (hrecords ▸ Adu.sound_records.mpr h)

/-- Removals keep the laws: grants and passback records that go, passengers that leave (R123, R145, R147, R148). -/
theorem Adu.Sound.of_sublist (h : a.Sound o) (hgrants : b.grants.Sublist a.grants)
    (hpassback : b.passback.Sublist a.passback) (htoken : b.token = a.token)
    (hunticketed : b.unticketedA ≤ 255 ∧ b.unticketedB ≤ 255) (haboard : ∀ car, b.aboard car ≤ a.aboard car) :
    b.Sound o where
  grants := hgrants.length_le.trans h.grants
  gates := h.gates.sublist (hgrants.map _)
  tokens := h.tokens.sublist (hgrants.map _)
  tokenNonzero g hg := h.tokenNonzero g (hgrants.subset hg)
  counter := htoken ▸ h.counter
  serials := h.serials.sublist ((hgrants.map _).append (hpassback.map _))
  passback := hpassback.length_le.trans h.passback
  unticketed := hunticketed
  capacity l hl car := (add_le_add (haboard car) (hgrants.filter _).length_le).trans (h.capacity l hl car)

/-- Passengers that leave keep the laws (R145). -/
theorem Adu.Sound.setAboard (h : a.Sound o) {car : Car} {n : Nat} (hn : n ≤ a.aboard car) : (a.setAboard car n).Sound o := by
  refine h.of_sublist (by simp) (by simp) (by simp) (by simpa using h.unticketed) fun c => ?_
  rw [Adu.aboard_setAboard]
  split
  case isTrue hc => exact hc ▸ hn
  case isFalse => exact le_rfl

/-- The counts of the unticketed are bytes (R144). -/
theorem Adu.Sound.setUnticketed (h : a.Sound o) (car : Car) {n : Nat} (hn : n ≤ 255) : (a.setUnticketed car n).Sound o := by
  refine h.of_sublist (by simp) (by simp) (by simp) ?_ fun c => by simp
  cases car
  · exact ⟨hn, h.unticketed.2⟩
  · exact ⟨h.unticketed.1, hn⟩

/-- The Admission Unit with a grant appended and the token counter moved on (R129, R130). -/
def Adu.granted (a : Adu) (g : Grant) : Adu := { a with token := nextToken g.token, grants := a.grants ++ [g] }

/-- A grant of a gate, a token and a serial that no record holds, for a car with room (R130, R139, R141). -/
theorem Adu.Sound.granted (h : a.Sound o) {g : Grant} (hroom : a.grants.length < 16)
    (hgate : ∀ y ∈ a.grants, y.gate ≠ g.gate) (htoken : ∀ y ∈ a.grants, y.token ≠ g.token) (hnonzero : g.token ≠ 0)
    (hserial : ∀ x ∈ a.grants.map (·.serial) ++ a.passback.map (·.serial), x ≠ g.serial)
    (hcapacity : ∀ l, o = some l → a.held g.car < l.capacity g.car) : (a.granted g).Sound o where
  grants := by simpa [Adu.granted] using hroom
  gates := by
    simpa [Adu.granted, List.nodup_append] using ⟨h.gates, hgate⟩
  tokens := by
    simpa [Adu.granted, List.nodup_append] using ⟨h.tokens, htoken⟩
  tokenNonzero y hy := by
    obtain hy | hy := List.mem_append.mp hy
    · exact h.tokenNonzero y hy
    · exact List.mem_singleton.mp hy ▸ hnonzero
  counter := nextToken_ne_zero hnonzero
  serials := by
    have hperm : ((a.granted g).grants.map (·.serial) ++ (a.granted g).passback.map (·.serial)).Perm
        (g.serial :: (a.grants.map (·.serial) ++ a.passback.map (·.serial))) := by
      simp [Adu.granted]
    exact hperm.nodup_iff.mpr (List.nodup_cons.mpr ⟨fun hmem => hserial _ hmem rfl, h.serials⟩)
  passback := h.passback
  unticketed := h.unticketed
  capacity l hl car := by
    have hheld : (a.granted g).held car = a.held car + if g.car = car then 1 else 0 := by
      have haboard : (a.granted g).aboard car = a.aboard car := by cases car <;> rfl
      have hgrantsOf : (a.granted g).grantsOf car = a.grantsOf car + if g.car = car then 1 else 0 := by
        simp only [Adu.granted, Adu.grantsOf, List.filter_append, List.length_append]
        by_cases hcar : g.car = car <;> simp [hcar]
      rw [Adu.held, Adu.held, haboard, hgrantsOf, Nat.add_assoc]
    rw [hheld]
    split
    case isTrue hcar => exact hcar ▸ hcapacity l hl
    case isFalse => exact h.capacity l hl car

/-- The passback list after a serial is appended: the oldest record of a full one makes room (R133). -/
def Adu.remembering (a : Adu) (serial : BitVec 32) (now : Time) : List Passback :=
  (if 64 ≤ a.passback.length then a.passback.drop 1 else a.passback) ++ [⟨serial, now⟩]

/-- The Admission Unit after an entry pass with a grant: the passenger is aboard, the serial in the passback list
(R133, R143). -/
def Adu.boarded (a : Adu) (g : Grant) (rest : List Grant) (now : Time) : Adu :=
  { a.setAboard g.car (a.aboard g.car + 1) with
    grants := rest, passback := a.remembering g.serial now }

/-- The serial moves from the grants to the passback list, the passenger from the pending to those aboard. -/
theorem Adu.Sound.boarded (h : a.Sound o) {g : Grant} {rest : List Grant} (hperm : a.grants.Perm (g :: rest))
    (now : Time) : (a.boarded g rest now).Sound o where
  grants := by
    have hlength := hperm.length_eq
    have hgrants := h.grants
    simp only [List.length_cons] at hlength
    simp only [Adu.boarded]
    omega
  gates := ((hperm.map _).nodup_iff.mp h.gates).of_cons
  tokens := ((hperm.map _).nodup_iff.mp h.tokens).of_cons
  tokenNonzero y hy := h.tokenNonzero y (hperm.mem_iff.mpr (List.mem_cons_of_mem g hy))
  counter := by simpa [Adu.boarded] using h.counter
  serials := by
    have hkept : (if 64 ≤ a.passback.length then a.passback.drop 1 else a.passback).Sublist a.passback := by
      split
      · exact List.drop_sublist _ _
      · exact List.Sublist.refl _
    have hbefore : (g.serial :: (rest.map (·.serial) ++ a.passback.map (·.serial))).Nodup :=
      ((hperm.map (·.serial)).append_right _).nodup_iff.mp h.serials
    have hafter := hbefore.sublist (List.Sublist.cons_cons _ ((List.Sublist.refl _).append (hkept.map (·.serial))))
    have hmoved : (rest.map (·.serial) ++ (if 64 ≤ a.passback.length then a.passback.drop 1 else a.passback).map
        (·.serial) ++ [g.serial]).Nodup := List.perm_append_singleton .. |>.nodup_iff.mpr hafter
    simpa [Adu.boarded, Adu.remembering] using hmoved
  passback := by
    have hpassback := h.passback
    simp only [Adu.boarded, Adu.remembering, List.length_append, List.length_singleton]
    split
    · rw [List.length_drop]
      omega
    · omega
  unticketed := by simpa [Adu.boarded] using h.unticketed
  capacity l hl car := by
    have haboard : (a.boarded g rest now).aboard car = (a.setAboard g.car (a.aboard g.car + 1)).aboard car := by
      cases car <;> rfl
    have hgrantsOf : a.grantsOf car = (if g.car = car then 1 else 0) + (a.boarded g rest now).grantsOf car := by
      rw [Adu.grantsOf, (hperm.filter _).length_eq]
      by_cases hcar : g.car = car <;> simp [hcar, Adu.grantsOf, Adu.boarded, Nat.add_comm]
    have hheld : (a.boarded g rest now).held car = a.held car := by
      rw [Adu.held, Adu.held, haboard, Adu.aboard_setAboard, hgrantsOf]
      by_cases hcar : car = g.car
      · subst hcar
        simp only [if_true]
        omega
      · simp [hcar, Ne.symm hcar]
    exact hheld ▸ h.capacity l hl car

end

end Sys2Proof.Machine

end

/-! ## The laws of admission are kept (R120, R130, R133, R139, R141, R149)

Tickets grant, passes consume, expiries and PARK remove; a LINE record comes into force only where the cross-checks find
those aboard and those with a grant within its capacities. Everything else leaves the records alone. -/

section

namespace Sys2Proof.Machine

section

variable {s : State}

/-- A change that leaves the records and the LINE record keeps the laws. -/
theorem AdmissionSound.aside (h : AdmissionSound s) {t : State} (hrecords : t.adu.records = s.adu.records)
    (hline : t.mga.active.line = s.mga.active.line) : AdmissionSound t := by
  rw [admissionSound_iff] at h ⊢
  exact (show t.line = s.line from hline) ▸ h.congr hrecords

/-- A change of the Admission Unit that keeps its laws. -/
theorem AdmissionSound.withAdu (h : AdmissionSound s) {a : Adu} (ha : s.adu.Sound s.line → a.Sound s.line) :
    AdmissionSound (s.withAdu a) :=
  admissionSound_iff.mpr (ha (admissionSound_iff.mp h))

/-! ### Tickets (R123–R130) -/

theorem AdmissionSound.age (h : AdmissionSound s) : AdmissionSound (age s) :=
  h.withAdu fun ha => ha.of_sublist (.refl _) (agePassback_sublist _ _ _) rfl ha.unticketed fun car => by cases car <;> rfl

/-- Only a ticket that passes what is in hand is accepted. -/
theorem verdict_accept {src : Byte} {t : Ticket} (h : s.verdict src t = .accept) :
    s.handVerdict src (s.askingCar src) t = .accept := by
  simp only [State.verdict, State.ticketVerdict] at h
  split at h
  case h_2 => cases h
  case h_1 g hg =>
    simp only [State.askingCar, hg]
    (repeat' split at h)
    case h_2.isFalse.isFalse.isFalse => exact h
    all_goals cases h

/-- What is in hand lets a ticket through where no record holds its serial, its car has room, its gate is free and a
place for the grant is left (R128, R139). -/
theorem handVerdict_accept_iff (gate : Byte) (car : Car) (t : Ticket) : s.handVerdict gate car t = .accept ↔
    s.adu.serialHeld t.serial = false ∧ s.adu.held car < s.capacity car ∧ s.adu.gateBusy gate = false ∧
      s.adu.grants.length < 16 := by
  unfold State.handVerdict
  (repeat' split) <;> simp_all

theorem serialHeld_eq_false {a : Adu} {serial : BitVec 32} : a.serialHeld serial = false ↔
    (∀ y ∈ a.grants, y.serial ≠ serial) ∧ ∀ y ∈ a.passback, y.serial ≠ serial := by
  simp [Adu.serialHeld]

theorem gateBusy_eq_false {a : Adu} {gate : Byte} : a.gateBusy gate = false ↔ ∀ y ∈ a.grants, y.gate ≠ gate := by
  simp [Adu.gateBusy]

/-- The grant of an acceptance (R129, R130). -/
def State.grantFor (s : State) (gate : Byte) (car : Car) (serial : BitVec 32) : Grant :=
  { gate := gate, car := car, serial := serial, token := s.adu.allocate,
    expiry := { start := s.clock, dur := s.param (·.tGrant) 0 * 1000 } }

theorem appendGrant_eq (gate : Byte) (car : Car) (serial : BitVec 32) (s : State) :
    appendGrant gate car serial s = s.withAdu (s.adu.granted (s.grantFor gate car serial)) := rfl

/-- An accepted ticket's grant keeps the laws. -/
theorem AdmissionSound.appendGrant (h : AdmissionSound s) {gate : Byte} {car : Car} {t : Ticket}
    (haccept : s.handVerdict gate car t = .accept) : AdmissionSound (appendGrant gate car t.serial s) := by
  obtain ⟨hserial, hcapacity, hgate, hroom⟩ := (handVerdict_accept_iff gate car t).mp haccept
  obtain ⟨hgrants, hpassback⟩ := serialHeld_eq_false.mp hserial
  refine h.withAdu fun ha => ?_
  obtain ⟨n, -, htoken, hfree, -⟩ := allocate_eq ha.counter hroom
  refine ha.granted (g := s.grantFor gate car t.serial) hroom (gateBusy_eq_false.mp hgate) hfree ?_ (fun x hx => ?_)
    fun l hl => ?_
  · exact ne_of_eq_of_ne htoken (tokenAfter_ne_zero _ n)
  · obtain hx | hx := List.mem_append.mp hx
    · obtain ⟨y, hy, rfl⟩ := List.mem_map.mp hx
      exact hgrants y hy
    · obtain ⟨y, hy, rfl⟩ := List.mem_map.mp hx
      exact hpassback y hy
  · exact capacity_of_line hl car ▸ hcapacity

theorem AdmissionSound.takeTicket (h : AdmissionSound s) (f : Frame) : AdmissionSound (takeTicket f s) := by
  simp only [Machine.takeTicket]
  split
  case h_1 haccept => exact (h.age.appendGrant (verdict_accept haccept)).aside (by simp) (by simp)
  case h_2 =>
    refine h.age.aside ?_ (by simp)
    unfold reportFull
    split <;> simp
  case h_3 => exact h.age.aside (by simp) (by simp)

/-! ### Passes (R142–R146) -/

theorem appendPassback_records (serial : BitVec 32) (s : State) : (appendPassback serial s).adu.records =
    ({ s.adu with passback := s.adu.remembering serial s.clock } : Adu).records := by
  simp only [appendPassback, Adu.remembering]
  split <;> rfl

/-- An entry pass with a grant: its counts apart, the Admission Unit is `Adu.boarded`. -/
theorem consumeGrant_records (gate token : Byte) (g : Grant) (s : State) :
    (consumeGrant gate token g s).adu.records =
      (s.adu.boarded g (removeFirst (fun x => x.matchesPass gate token) s.adu.grants) s.clock).records := by
  simp only [consumeGrant, countAdu_records, appendPassback_records]
  cases hcar : g.car <;> simp [Adu.boarded, Adu.setAboard, Adu.aboard, hcar, Adu.remembering]

theorem AdmissionSound.entryPass (h : AdmissionSound s) (gate token : Byte) (g : Node) :
    AdmissionSound (entryPass gate token g s) := by
  unfold Machine.entryPass
  split
  case h_1 grant hfound =>
    have hperm := perm_removeFirst (Option.ite_none_left_eq_some.mp hfound).2
    have hboarded := ((admissionSound_iff.mp h).boarded hperm s.clock).congr (consumeGrant_records gate token grant s)
    have hline : (consumeGrant gate token grant s).line = s.line := by simp [State.line]
    exact admissionSound_iff.mpr (hline ▸ hboarded)
  case h_2 =>
    have hcounted := h.withAdu fun ha => ha.setUnticketed g.gateCar (min_le_right (s.adu.unticketed g.gateCar + 1) 255)
    exact hcounted.aside (by simp [forcedPass]) (by simp [forcedPass])

theorem AdmissionSound.exitPass (h : AdmissionSound s) (gate : Byte) (g : Node) : AdmissionSound (exitPass gate g s) := by
  unfold Machine.exitPass
  split
  · unfold exitAtBerth
    split
    · exact (h.withAdu fun ha => ha.setAboard (Nat.sub_le _ 1)).aside rfl rfl
    · split
      · refine AdmissionSound.aside (h.withAdu fun ha => ha.setUnticketed g.gateCar ?_) rfl rfl
        have hunticketed : s.adu.unticketed g.gateCar ≤ 255 := by
          cases g.gateCar
          exacts [ha.unticketed.1, ha.unticketed.2]
        omega
      · exact h.aside (by simp) (by simp)
  · exact h.aside (by simp) (by simp)

theorem AdmissionSound.takePass (h : AdmissionSound s) (gate token : Byte) (g : Node) :
    AdmissionSound (takePass gate token g s) := by
  simp only [Machine.takePass]
  split
  · exact h.age.entryPass gate token g
  · exact h.age.exitPass gate g

/-! ### Removals (R147, R148, R154) -/

theorem AdmissionSound.grantExpiry (h : AdmissionSound s) (gate : Byte) : AdmissionSound (grantExpiry gate s) := by
  unfold Machine.grantExpiry
  split
  · split
    · have hremoved : AdmissionSound (s.withAdu { s.adu with
          grants := removeFirst (fun x => x.gate == gate) s.adu.grants }) :=
        h.withAdu fun ha => ha.of_sublist (removeFirst_eq_eraseP _ _ ▸ List.eraseP_sublist) (.refl _) rfl ha.unticketed
          fun car => by cases car <;> rfl
      exact hremoved.aside (by simp) (by simp)
    · exact h
  · exact h

/-- The pending grants removed. -/
theorem Adu.Sound.withoutGrants {a : Adu} {o : Option Line} (h : a.Sound o) : ({ a with grants := [] } : Adu).Sound o :=
  h.of_sublist (List.nil_sublist _) (.refl _) rfl h.unticketed fun car => by cases car <;> rfl

theorem AdmissionSound.parkGrants (h : AdmissionSound s) : AdmissionSound (parkGrants s) := by
  have hremoved : AdmissionSound (s.withAdu { s.adu with grants := [] }) := h.withAdu Adu.Sound.withoutGrants
  simp only [Machine.parkGrants]
  split
  · exact hremoved.aside rfl rfl
  · exact hremoved.aside (by simp) (by simp)

theorem AdmissionSound.reinit (h : AdmissionSound s) : AdmissionSound (reinit s) := by
  have hcleared : AdmissionSound (s.withAdu s.adu.reinit) := h.withAdu fun ha =>
    ha.of_sublist (List.nil_sublist _) (List.nil_sublist _) rfl (by simp [Adu.reinit]) fun car => by
      cases car <;> exact Nat.zero_le _
  refine hcleared.aside ?_ (by simp [Machine.reinit])
  simp [Machine.reinit]

/-! ### New tables (R149, R179, R180) -/

theorem orElse_eq_none_iff {α : Type} {x : Option α} {rest : Unit → Option α} :
    x.orElse rest = none ↔ x = none ∧ rest () = none := by
  cases x <;> simp [Option.orElse]

/-- Where the cross-checks pass, the capacities cover those aboard and those with a grant (R149). -/
theorem fits_of_crossChecks {a : ActiveTables} {adu : Adu} (h : crossChecks a adu = none) {l : Line}
    (hl : a.line = some l) (car : Car) : adu.held car ≤ l.capacity car := by
  simp only [crossChecks, orElse_eq_none_iff, numbered, Option.map_eq_none_iff, checkCap, hl] at h
  obtain ⟨-, -, -, -, -, ha, hb⟩ := h
  cases car
  · simpa [Line.capacity] using ha
  · simpa [Line.capacity] using hb

theorem takeEffect_line (mask : Byte) (wasPending : Bool) (s : State) :
    (takeEffect mask wasPending s).mga.active.line = (s.mga.after mask).line := by
  simp only [takeEffect]
  split <;> simp [copyTables]

/-- Tables whose LINE record covers the counts keep the laws. -/
theorem AdmissionSound.takeEffect (h : AdmissionSound s) {mask : Byte}
    (hfits : ∀ l, (s.mga.after mask).line = some l → ∀ car, s.adu.held car ≤ l.capacity car) (wasPending : Bool) :
    AdmissionSound (takeEffect mask wasPending s) := by
  have hcovered : s.adu.Sound (s.mga.after mask).line := { admissionSound_iff.mp h with capacity := hfits }
  have hline : (Machine.takeEffect mask wasPending s).line = (s.mga.after mask).line := takeEffect_line mask wasPending s
  exact admissionSound_iff.mpr (hline ▸ hcovered.congr (by simp))

theorem AdmissionSound.settle {before after : State} (h : AdmissionSound after) : AdmissionSound (settle before after) := by
  unfold Machine.settle
  split
  · split
    · simp only [takePending]
      have hnone : ∀ m, AdmissionSound (after.withMga { after.mga with pendingMask := m }) := fun m => h.aside rfl rfl
      split
      · exact (hnone none).aside (by simp [raiseFailed]) (by simp [raiseFailed])
      · rename_i hchecks
        exact (hnone none).takeEffect (fun l hl => fits_of_crossChecks hchecks hl) true
    · exact h
  · exact h

/-- ACTIVATE puts a LINE record in force past the cross-checks alone. -/
theorem AdmissionSound.decideActivate (h : AdmissionSound s) (mask : Byte) :
    AdmissionSound (decideActivate mask s).state := by
  unfold Machine.decideActivate
  split
  · exact h
  rename_i hmask
  split
  · exact h
  split
  · exact h
  split
  · rename_i hlow
    have hnames : names mask .line = false := names_line_of_low (by simp_all [badMask, haulMask])
    have hsame : (s.mga.after mask).line = s.mga.active.line := by simpa [hnames] using after_line s.mga mask
    exact h.takeEffect (fun l hl => (admissionSound_iff.mp h).capacity l (hsame.symm.trans hl)) false
  split
  · unfold activateNow
    split
    · exact h.aside (by simp [raiseFailed]) (by simp [raiseFailed])
    · rename_i hchecks
      exact h.takeEffect (fun l hl => fits_of_crossChecks hchecks hl) false
  · exact h.aside rfl rfl

/-! ### Requests and line commands -/

theorem AdmissionSound.decideReinit (h : AdmissionSound s) : AdmissionSound (decideReinit s).state := by
  unfold Machine.decideReinit
  split
  · exact h.reinit
  · exact h

theorem AdmissionSound.decideRequest (h : AdmissionSound s) (code : Byte) (body : List Byte) :
    AdmissionSound (decideRequest code body s).state := by
  unfold Machine.decideRequest
  split
  · rename_i r _
    split
    · cases r with
      | activate => exact h.decideActivate _
      | reinit => exact h.decideReinit
      | load => exact h.aside (by simp [Request.decide]) (by simp [Request.decide, decideLoad_active])
      | cancelActivate => exact h.aside (by simp [Request.decide]) (by simp [Request.decide, decideCancel_active])
      | clearCounters =>
        refine h.aside ?_ (by simp [Request.decide])
        simp only [Request.decide, decideClearCounters]
        (repeat' split) <;> simp [accept, refuse, Adu.records]
      | setDay => exact h.aside (by simp [Request.decide]) (by simp [Request.decide, decideSetDay, accept])
      | reference =>
        refine h.aside ?_ (by simp [Request.decide])
        simp only [Request.decide, decideReference]
        (repeat' split) <;> simp [accept, refuse]
      | tripReset =>
        refine h.aside ?_ (by simp [Request.decide])
        simp only [Request.decide, decideTripReset]
        (repeat' split) <;> simp [accept, refuse]
      | manualTrip => exact h.aside (by simp [Request.decide, decideManualTrip, accept]) (by simp [Request.decide])
      | _ => exact h.aside (by simp [Request.decide]) (by simp [Request.decide])
    · exact h
  · exact h

theorem AdmissionSound.decideLine (h : AdmissionSound s) (command argument : Byte) :
    AdmissionSound (decideLine command argument s).2 := by
  unfold Machine.decideLine
  split
  · refine h.aside ?_ (by simp)
    unfold openLine
    (repeat' split) <;> simp
  split
  · exact h.aside (by simp) (by simp)
  split
  · exact h.aside (by simp) (by simp)
  split
  · refine h.aside ?_ (by simp)
    unfold stopLine
    split <;> simp
  split
  · unfold parkLine
    split
    · exact h
    split
    · exact h
    · have hparked : AdmissionSound (enterRest .parked s.hlc.berth false s) := h.aside (by simp) (by simp)
      exact hparked.parkGrants
  · exact h

theorem decideDoor_records (car side action : Byte) (s : State) :
    (decideDoor car side action s).2.adu.records = s.adu.records := by
  unfold decideDoor openDoor closeDoor
  (repeat' split) <;> simp

/-! ### Frames (R160–R164) -/

theorem AdmissionSound.dealRead (h : AdmissionSound s) (f : Frame) (len : Nat) {hand : Option (State → State)}
    (hh : ∀ act, hand = some act → ∀ u, AdmissionSound u → AdmissionSound (act u)) :
    AdmissionSound (dealRead f len hand s) := by
  unfold Machine.dealRead
  split
  · exact h.aside (by simp) (by simp)
  · split
    · refine hh _ rfl _ ?_
      split <;> exact h.aside (by simp) (by simp)
    · exact h.aside (by simp) (by simp)

theorem AdmissionSound.dealRequest (h : AdmissionSound s) (f : Frame) (lengthOk roleOk : Bool) {hand : State → State}
    (hh : ∀ u, AdmissionSound u → AdmissionSound (hand u)) : AdmissionSound (dealRequest f lengthOk roleOk hand s) := by
  unfold Machine.dealRequest takeIfRoom
  (repeat' split)
  case isTrue.isFalse.isFalse.isTrue => exact hh _ (h.aside (by simp) (by simp))
  all_goals exact h.aside (by simp) (by simp)

theorem AdmissionSound.dealTicket (h : AdmissionSound s) (f : Frame) : AdmissionSound (dealTicket f s) := by
  unfold Machine.dealTicket
  split
  · exact h.aside (by simp) (by simp)
  split
  · exact h.aside (by simp) (by simp)
  split
  · exact h.aside (by simp) (by simp)
  · have hjudged : AdmissionSound (if s.roleOf f.src = some .gate then s else mismatch f 4 s) := by
      split
      · exact h
      · exact h.aside (by simp) (by simp)
    exact (hjudged.takeTicket f).aside (by simp) (by simp)

theorem AdmissionSound.dealGatePass (h : AdmissionSound s) (f : Frame) : AdmissionSound (dealGatePass f s) := by
  unfold Machine.dealGatePass
  split
  · exact h.aside (by simp) (by simp)
  split
  · split
    · exact h.aside (by simp) (by simp)
    · simp only
      split
      · exact h.aside (by simp) (by simp)
      · exact AdmissionSound.takePass (h.aside (by simp) (by simp)) _ _ _
  · exact h.aside (by simp) (by simp)

theorem AdmissionSound.dealKind (h : AdmissionSound s) (f : Frame) : AdmissionSound (dealKind f s) := by
  cases hk : FrameKind.ofCode f.kind <;> simp only [Machine.dealKind, hk]
  case sampleSheave =>
    refine h.dealRead f 7 fun act hact u hu => ?_
    obtain ⟨ch, -, rfl⟩ := Option.map_eq_some_iff.mp hact
    exact hu.aside (by simp) (by simp)
  case sampleCar =>
    refine h.dealRead f 7 fun act hact u hu => ?_
    obtain ⟨car, -, rfl⟩ := Option.map_eq_some_iff.mp hact
    exact hu.aside (by simp) (by simp)
  case marker =>
    refine h.dealRead f 2 fun act hact u hu => ?_
    cases (Option.ite_none_right_eq_some.mp hact).2
    exact hu.aside (by simp) (by simp)
  case driveStatus =>
    refine h.dealRead f 4 fun act hact u hu => ?_
    cases (Option.ite_none_right_eq_some.mp hact).2
    exact hu.aside (by simp) (by simp)
  case doorState =>
    refine h.dealRead f 2 fun act hact u hu => ?_
    obtain ⟨car, -, rfl⟩ := Option.map_eq_some_iff.mp hact
    exact hu.aside (by simp) (by simp)
  case ticket => exact h.dealTicket f
  case gatePass => exact h.dealGatePass f
  case doorReq =>
    refine h.dealRequest f _ _ fun u hu => hu.aside ?_ (by simp)
    simp [takeDoorReq, decideDoor_records]
  case lineCmd =>
    refine h.dealRequest f _ _ fun u hu => ?_
    exact (hu.decideLine (byteAt f.payload 0) (byteAt f.payload 1)).aside (by simp [takeLineCmd]) (by simp [takeLineCmd])
  case mgmtReq =>
    refine h.dealRequest f _ _ fun u hu => ?_
    exact (hu.decideRequest (byteAt f.payload 0) (f.payload.drop 2)).aside (by simp [takeRequest]) (by simp [takeRequest])
  case setpoint => exact h.aside (by simp) (by simp)
  case unhandled => exact h.aside (by simp) (by simp)
  case other => exact h.aside (by simp) (by simp)

theorem AdmissionSound.takeFrame (h : AdmissionSound s) (rx : List Byte) : AdmissionSound (takeFrame rx s) := by
  unfold Machine.takeFrame
  split
  case h_4 f _ =>
    split
    · exact h.aside (by simp) (by simp)
    · unfold disposeGood
      split
      · exact h.aside (by simp) (by simp)
      · exact h.dealKind f
  all_goals exact h.aside (by simp) (by simp)

/-! ### Expiries, inputs and OUT -/

theorem sendForward_records (x : FifoEntry) (s : State) : (sendForward x s).adu.records = s.adu.records := by
  have hrun : ∀ u : State, (startRun u).adu.records = u.adu.records := fun u => by simp [startRun, judgeLoss_records]
  have hconsole : ∀ f, (sendConsole f s).adu.records = s.adu.records := fun f => by
    simp only [sendConsole]
    split <;> simp [hrun]
  unfold sendForward
  split <;> simp [hconsole]

@[simp] theorem boundary_records (s : State) : (boundary s).adu.records = s.adu.records := by
  simp only [boundary, arbitrate, arbitrateFault, sendOldest]
  (repeat' split) <;> simp [sendForward_records]

@[simp] theorem channelExpiry_records (ch : ChannelId) (s : State) : (channelExpiry ch s).adu.records = s.adu.records := by
  unfold channelExpiry
  split <;> simp

@[simp] theorem stillTimerExpiry_records (s : State) : (stillTimerExpiry s).adu.records = s.adu.records := by
  unfold stillTimerExpiry
  split <;> simp

@[simp] theorem lossExpiry_records (s : State) : (lossExpiry s).adu.records = s.adu.records := by
  unfold lossExpiry
  split <;> simp

@[simp] theorem armExpiry_records (s : State) : (armExpiry s).adu.records = s.adu.records := by
  unfold armExpiry
  split <;> simp

@[simp] theorem driveExpiry_records (s : State) : (driveExpiry s).adu.records = s.adu.records := by
  unfold driveExpiry
  split <;> simp

@[simp] theorem freshnessExpiry_records (car : Car) (s : State) : (freshnessExpiry car s).adu.records = s.adu.records := by
  unfold freshnessExpiry
  split <;> simp

@[simp] theorem debounceExpiry_records (p : Pin) (s : State) : (debounceExpiry p s).adu.records = s.adu.records := by
  simp only [debounceExpiry, chainOpened]
  (repeat' split) <;> simp

@[simp] theorem supervisionExpiry_records (s : State) : (supervisionExpiry s).adu.records = s.adu.records := by
  unfold supervisionExpiry judgePeriod
  simp only
  (repeat' split) <;> simp

/-- An expiry, an input or a boundary leaves the records and the LINE record, but for the expiry of a grant; a run of
bytes is a frame. -/
theorem AdmissionSound.edgeAct (h : AdmissionSound s) (c : Instr) : AdmissionSound (edgeAct c s) := by
  cases c with
  | grantExpiry _ gate => exact h.grantExpiry gate
  | frameForward _ rx => exact h.takeFrame rx
  | _ => exact h.aside (by simp [Machine.edgeAct]) (by simp [Machine.edgeAct])

/-! ### Every step -/

theorem AdmissionSound.rowAct (h : AdmissionSound s) (c : Instr) : AdmissionSound (rowAct c s) := by
  unfold Machine.rowAct
  split
  · exact h.takeFrame _
  · exact h.edgeAct c

end

/-- The release of reset empties the Admission Unit and the tables (R137, R153, R187). -/
theorem powerOn_admissionSound (oa ma : BitVec 6) (chain key : Level) (s : State) :
    AdmissionSound (powerOn oa ma chain key s) := by
  obtain ⟨-, -, -, -, hadu, hmga, -⟩ := powerOn_blocks oa ma chain key s
  exact admissionSound_reset.aside (by rw [hadu]; rfl) (by rw [hmga]; rfl)

/-- Settles O8: the laws read the records and the LINE record alone, which tickets, passes and removals move lawfully and
the cross-checks guard. -/
theorem everyStepKeepsTheAdmissionLaws : Obligations.EveryStepKeepsTheAdmissionLaws := by
  unfold Obligations.EveryStepKeepsTheAdmissionLaws
  intro s t h ht
  refine step_keeps (P := AdmissionSound) powerOn_admissionSound (fun _ h => h.aside rfl rfl)
    (fun _ _ h => h.aside rfl rfl) (fun elapsed c s h => ?_) h ht
  have hbegun : AdmissionSound (begin elapsed s) := h.aside rfl rfl
  exact (hbegun.rowAct c).settle

end Sys2Proof.Machine

end

/-! ## Tickets and frames that are read, by length, role and dst (R122, R142, R160–R162) -/

section

namespace Sys2Proof.Machine

/-! ### Frames of a read kind (R160–R162) -/

/-- The payload length of a read kind (R161, R170). -/
def readLength (kind : Byte) : Nat := if kind = 0x10 ∨ kind = 0x11 then 7 else if kind = 0x21 then 4 else 2

/-- A node may send a read kind: the role of each kind (R162). -/
def State.MaySend (s : State) (src kind : Byte) : Prop :=
  (kind = 0x10 ∧ (s.roleOf src = some .sheaveS1 ∨ s.roleOf src = some .sheaveS2)) ∨
    ((kind = 0x11 ∨ kind = 0x41) ∧ (s.roleOf src = some .carA ∨ s.roleOf src = some .carB)) ∨
    (kind = 0x12 ∧ s.roleOf src = some .markerReader) ∨ (kind = 0x21 ∧ s.roleOf src = some .drive)

/-- The Ring Interface after a frame of a read kind: forwarded, or absorbed if it is to OA (R160, R161). -/
def State.disposed (s : State) (f : Frame) : Rif := if f.dst = s.oaByte then s.rif else s.forwarded f .plain

/-- The Ring Interface after a frame of a read kind that is read: ABSORBED is counted of one to OA (R168). -/
def State.readRif (s : State) (f : Frame) : Rif :=
  if f.dst = s.oaByte then s.rif.count .absorbed else s.forwarded f .plain

theorem sheaveChannelOf_eq_none {r : Option Role} :
    sheaveChannelOf r = none ↔ ¬ (r = some .sheaveS1 ∨ r = some .sheaveS2) := by
  unfold sheaveChannelOf
  split <;> simp_all

theorem carOfRole_carRole (car : Car) : carOfRole (some (carRole car)) = some car := by
  cases car <;> rfl

theorem carOfRole_eq_none {r : Option Role} : carOfRole r = none ↔ ¬ (r = some .carA ∨ r = some .carB) := by
  unfold carOfRole
  split <;> simp_all

section

variable {s : State} {f : Frame}

/-- A frame of a read kind is judged by its length and handed on for its role alone. -/
theorem dealKind_of_read (hkind : f.kind = 0x10 ∨ f.kind = 0x11 ∨ f.kind = 0x12 ∨ f.kind = 0x21 ∨ f.kind = 0x41) :
    ∃ hand, dealKind f s = dealRead f (readLength f.kind) hand s ∧ (hand = none ↔ ¬ s.MaySend f.src f.kind) := by
  obtain hk | hk | hk | hk | hk := hkind
  · exact ⟨_, by simp [dealKind, hk, dealSheave, readLength]; rfl,
      by simp [State.MaySend, hk, sheaveChannelOf_eq_none]⟩
  · exact ⟨_, by simp [dealKind, hk, dealCar, readLength]; rfl, by simp [State.MaySend, hk, carOfRole_eq_none]⟩
  · exact ⟨_, by simp [dealKind, hk, dealMarker, readLength]; rfl, by simp [State.MaySend, hk]⟩
  · exact ⟨_, by simp [dealKind, hk, dealDrive, readLength]; rfl, by simp [State.MaySend, hk]⟩
  · exact ⟨_, by simp [dealKind, hk, dealDoorState, readLength]; rfl, by simp [State.MaySend, hk, carOfRole_eq_none]⟩

theorem dealRead_of_length {len : Nat} (h : f.payload.length ≠ len) (hand : Option (State → State)) :
    dealRead f len hand s = { s with rif := (s.disposed f).count .malformed } := by
  unfold dealRead
  rw [if_pos h, passUnread, State.disposed]
  by_cases hdst : f.dst = s.oaByte
  · rw [if_pos hdst, if_pos (by exact hdst)]
    rfl
  · rw [if_neg hdst, if_neg (by exact hdst)]
    rfl

theorem dealRead_of_role {len : Nat} (h : f.payload.length = len) : dealRead f len none s =
    raise .roleMismatch (f.kind ++ f.src ++ f.dst ++ (if f.dst = s.oaByte then (2 : Byte) else (1 : Byte)))
      { s with rif := (s.disposed f).count .roleMismatch } := by
  rw [dealRead, if_neg (not_not.mpr h)]
  simp only [rejectRead, State.disposed]
  by_cases hdst : f.dst = s.oaByte
  · simp only [if_pos hdst]
    rfl
  · simp only [if_neg hdst]
    rfl

theorem dealRead_of_fit {len : Nat} (h : f.payload.length = len) (act : State → State) :
    dealRead f len (some act) s = act { s with rif := s.readRif f } := by
  rw [dealRead, if_neg (not_not.mpr h)]
  simp only [readFrame, State.readRif]
  by_cases hdst : f.dst = s.oaByte
  · simp only [if_pos hdst]
    rfl
  · simp only [if_neg hdst]
    rfl

end

/-- A frame that is read acts on the state in which it is absorbed or forwarded, and places no other frame. -/
theorem exec_of_read_frame {c : Instr} {s : State} {arr : Arrival} {kind : Byte} {p : List Byte} {act : State → State}
    (hc : rowFrame c = some (arr, kind, p)) (h : Arrives s arr kind p) (hfrom : arr.src ≠ s.oaByte)
    (hdeal : dealKind (frameOf arr kind p) (begin arr.elapsed s) =
      dealRead (frameOf arr kind p) p.length (some act) (begin arr.elapsed s))
    (hfifo : ∀ u, (act u).rif.fifo = u.rif.fifo) :
    let taken := if arr.dst = s.oaByte then s.rif.count .absorbed else s.forwarded (frameOf arr kind p) .plain
    exec c s = .next (settle (begin arr.elapsed s) (act { begin arr.elapsed s with rif := taken })) ∧
      ∀ t, exec c s = .next t → t.rif.fifo = taken.fifo := by
  intro taken
  have hexec : exec c s = .next (settle (begin arr.elapsed s) (act { begin arr.elapsed s with rif := taken })) := by
    rw [exec_of_running (rowElapsed_of_rowFrame hc) h.running, rowAct_of_arrives hc h hfrom, hdeal,
      dealRead_of_fit (f := frameOf arr kind p) (len := p.length) rfl]
    rfl
  refine ⟨hexec, fun t ht => ?_⟩
  cases hexec.symm.trans ht
  rw [(settle_aside _ _).1, hfifo]

/-! ### Tickets (R122–R132) -/

section

variable {s : State} {f : Frame}

/-- The Admission Unit with its passback list aged under a LINE record (R123). -/
def State.agedAdu (s : State) (l : Line) : Adu :=
  { s.adu with passback := agePassback s.clock (l.tPassback * 1000) s.adu.passback }

theorem age_of_line {l : Line} (hl : s.line = some l) : age s = s.withAdu (s.agedAdu l) := by
  rw [age, State.param, hl]
  rfl

theorem dealKind_ticket (h : f.kind = 0x30) : dealKind f s = dealTicket f s := by
  simp [dealKind, h]

/-- A query to the part is answered in its place; of a node that is no GATE it is a role mismatch beside (R162). -/
theorem dealTicket_of_query (hdst : f.dst = s.oaByte) (hlen : f.payload.length = 11) (hblank : byteAt f.payload 8 = 0) :
    dealTicket f s =
      countRing .rewritten (takeTicket f (if s.roleOf f.src = some .gate then s else mismatch f 4 s)) := by
  rw [dealTicket, if_neg (not_not.mpr hdst), if_neg (not_not.mpr hlen), if_neg (not_not.mpr hblank)]

/-- Any other TICKET is forwarded unjudged; one to the part is counted for its length. -/
theorem dealTicket_of_other (h : f.dst ≠ s.oaByte ∨ f.payload.length ≠ 11 ∨ byteAt f.payload 8 ≠ 0) :
    dealTicket f s = { s with
      rif := s.forwarded f .plain
      adu := if f.dst = s.oaByte ∧ f.payload.length ≠ 11 then s.adu.countBy .malformed 1 else s.adu } := by
  by_cases hdst : f.dst = s.oaByte
  case neg =>
    rw [dealTicket, if_pos hdst, if_neg fun h => hdst h.1]
    rfl
  by_cases hlen : f.payload.length = 11
  case neg =>
    rw [dealTicket, if_neg (not_not.mpr hdst), if_pos hlen, if_pos ⟨hdst, hlen⟩]
    rfl
  have hverdict : byteAt f.payload 8 ≠ 0 := (h.resolve_left (not_not.mpr hdst)).resolve_left (not_not.mpr hlen)
  rw [dealTicket, if_neg (not_not.mpr hdst), if_neg (not_not.mpr hlen), if_pos hverdict, if_neg fun h => h.2 hlen]
  rfl

/-- The state after an answer that changes the Admission Unit alone (R132). -/
def State.ticketAnswered (s : State) (out : Frame) (a : Adu) : State := { s with
  rif := { s.rif.count .rewritten with fifo := s.rif.fifo ++ [⟨out, .answered⟩] }
  adu := a }

/-- A refusal but for a full car answers, and counts its verdict (R132, R136). -/
theorem takeTicket_of_refused {v : Verdict} (hv : (age s).verdict f.src (ticketOf f.payload) = v)
    (haccept : v ≠ .accept) (hfull : v ≠ .full) : countRing .rewritten (takeTicket f s) =
      s.ticketAnswered (s.answer f v (byteAt f.payload 7) 0) ((age s).adu.countBy (.verdict v) 1) := by
  simp only [takeTicket, hv]
  cases v with
  | accept => exact absurd rfl haccept
  | full => exact absurd rfl hfull
  | _ => rfl

theorem verdict_of_no_gate {src : Byte} (h : s.roleOf src ≠ some .gate) (t : Ticket) : s.verdict src t = .notGate := by
  unfold State.verdict
  split
  case h_1 g hg =>
    have hrole : g.role ≠ .gate := fun hgate => h ((roleOf_eq_some s src .gate).mpr ⟨g, hg, hgate⟩)
    simp [Node.isEntry, hrole]
  case h_2 => rfl

/-- The query of a node that is no GATE is refused after its mismatch is counted and raised (R162). -/
theorem takeTicket_of_mismatch {l : Line} (hrole : s.roleOf f.src ≠ some .gate) (hl : s.line = some l) :
    countRing .rewritten (takeTicket f (mismatch f 4 s)) = { mismatch f 4 s with
      rif := { (mismatch f 4 s).rif.count .rewritten with
        fifo := s.rif.fifo ++ [⟨s.answer f .notGate (byteAt f.payload 7) 0, .answered⟩] }
      adu := (s.agedAdu l).countBy (.verdict .notGate) 1 } := by
  have hkept : (mismatch f 4 s).adu = s.adu ∧ (mismatch f 4 s).mga = s.mga ∧ (mismatch f 4 s).oa = s.oa ∧
      (mismatch f 4 s).clock = s.clock ∧ (mismatch f 4 s).rif.fifo = s.rif.fifo := by
    simp [mismatch, countRing, State.withRif, Rif.count]
  obtain ⟨hadu, hmga, hoa, hclock, hfifo⟩ := hkept
  have hline : (mismatch f 4 s).line = some l := by rw [State.line, hmga]; exact hl
  have hmismatch : (mismatch f 4 s).roleOf f.src ≠ some .gate := by
    rw [State.roleOf, State.nodeOf, hmga]
    exact hrole
  have haged : age (mismatch f 4 s) = (mismatch f 4 s).withAdu (s.agedAdu l) := by
    rw [age_of_line hline, State.agedAdu, hadu, hclock, State.agedAdu]
  have hverdict : (age (mismatch f 4 s)).verdict f.src (ticketOf f.payload) = .notGate :=
    verdict_of_no_gate (by rw [haged]; exact hmismatch) _
  have hanswer : (mismatch f 4 s).answer f .notGate (byteAt f.payload 7) 0 =
      s.answer f .notGate (byteAt f.payload 7) 0 := by simp only [State.answer, State.oaByte, hoa]
  rw [takeTicket_of_refused hverdict nofun nofun, haged, State.ticketAnswered, hanswer, hfifo]
  rfl

end

/-! ### Passes that are not taken (R142, R162) -/

section

variable {s : State} {f : Frame}

theorem dealGatePass_of_elsewhere (h : f.dst ≠ s.oaByte) : dealGatePass f s = pushFifo f .plain s := by
  rw [dealGatePass, if_pos h]

/-- The role is judged before the length (log 13). -/
theorem dealGatePass_of_no_gate (h : f.dst = s.oaByte) (hrole : s.roleOf f.src ≠ some .gate) :
    dealGatePass f s = mismatch f 2 s := by
  rw [dealGatePass, if_neg (not_not.mpr h)]
  split
  case h_1 g hg =>
    exact if_pos fun hgate => hrole ((roleOf_eq_some s f.src .gate).mpr ⟨g, hg, hgate⟩)
  case h_2 => rfl

/-- A gate's pass of a wrong length is absorbed as well (log 33). -/
theorem dealGatePass_of_length (h : f.dst = s.oaByte) (hrole : s.roleOf f.src = some .gate)
    (hlen : f.payload.length ≠ 1) : dealGatePass f s = countAdu .malformedPass (countRing .absorbed s) := by
  obtain ⟨g, hg, hgate⟩ := (roleOf_eq_some s f.src .gate).mp hrole
  simp only [dealGatePass, if_neg (not_not.mpr h), hg, if_neg (not_not.mpr hgate), if_pos hlen]

end

/-! ### The obligation -/

/-- Settles O43: a frame is dealt with by its length, its role and its dst, and what it is handed to places no other frame
in the FIFO. -/
theorem readFramesTicketsAndPassesAreDisposed : Obligations.ReadFramesTicketsAndPassesAreDisposed := by
  unfold Obligations.ReadFramesTicketsAndPassesAreDisposed
  refine ⟨fun c s arr kind payload hc h hfrom hkind => ?unread, fun s arr kind p h hfrom => ?read,
    fun s arr p h hfrom => ?ticket, fun s arr p h hfrom => ?pass⟩
  case unread =>
    obtain ⟨hand, hdeal, hnone⟩ := dealKind_of_read (s := begin arr.elapsed s) (f := frameOf arr kind payload) hkind
    refine ⟨fun hlen => exec_of_dealt hc h hfrom (hdeal.trans (dealRead_of_length hlen hand)) rfl,
      fun hlen hfit => exec_of_dealt hc h hfrom ?_ (by simp)⟩
    rw [hdeal, hnone.mpr hfit, dealRead_of_role hlen]
    rfl
  case read =>
    intro taken acts
    refine ⟨fun ch hkind hlen hrole => ?_, fun hkind hlen hrole => ?_, fun hkind hlen hrole => ?_,
      fun car hkind hlen hrole => ?_⟩
    · subst hkind
      refine exec_of_read_frame (rowFrame_sampleRow ch arr p) h hfrom ?_ fun u => by simp
      rw [dealKind_sample (ch := ch) _ _ rfl hrole, hlen]
      rfl
    · subst hkind
      refine exec_of_read_frame rfl h hfrom ?_ fun u => by simp
      simp [dealKind, frameOf, dealMarker, hrole, hlen]
    · subst hkind
      refine exec_of_read_frame rfl h hfrom ?_ fun u => by simp
      simp [dealKind, frameOf, dealDrive, hrole, hlen]
    · subst hkind
      refine exec_of_read_frame rfl h hfrom ?_ fun u => by simp
      have hcar : carOfRole (s.roleOf arr.src) = some car := by rw [hrole, carOfRole_carRole]
      simp [dealKind, frameOf, dealDoorState, hcar, hlen]
  case ticket =>
    refine ⟨fun hother => ?_, fun hdst hlen hblank hrole l hl => ?_⟩
    · exact exec_of_dealt (c := .ticket arr p) rfl h hfrom
        ((dealKind_ticket rfl).trans (dealTicket_of_other hother)) rfl
    · have hdeal : dealKind (frameOf arr 0x30 p) (begin arr.elapsed s) = countRing .rewritten
          (takeTicket (frameOf arr 0x30 p) (mismatch (frameOf arr 0x30 p) 4 (begin arr.elapsed s))) := by
        rw [dealKind_ticket rfl, dealTicket_of_query hdst hlen hblank]
        exact congrArg _ (congrArg _ (if_neg hrole))
      exact exec_of_dealt (c := .ticket arr p) rfl h hfrom
        (hdeal.trans (takeTicket_of_mismatch (s := begin arr.elapsed s) hrole hl)) (by simp)
  case pass =>
    refine ⟨fun hdst => ?_, fun hdst hrole => ?_, fun hdst hrole hlen => ?_⟩
    · exact exec_of_dealt (c := .gatePass arr p) rfl h hfrom (dealGatePass_of_elsewhere hdst) rfl
    · exact exec_of_dealt (c := .gatePass arr p) rfl h hfrom (dealGatePass_of_no_gate hdst hrole) (by simp)
    · exact exec_of_dealt (c := .gatePass arr p) rfl h hfrom (dealGatePass_of_length hdst hrole hlen) rfl

end Sys2Proof.Machine

end

/-! ## The checks of a ticket and its answer (R122–R132) -/

section

namespace Sys2Proof.Machine

/-! ### Check 3: the search of the HOTLIST (R127) -/

/-- The entries of a rising list of serials stand in the order of their places. -/
theorem toNat_lt_of_rising {t : List (BitVec 32)} (h : rising (t.map fun x => (x.toNat : Int))) {i j : Nat}
    {x y : BitVec 32} (hx : t[i]? = some x) (hy : t[j]? = some y) (hij : i < j) : x.toNat < y.toNat := by
  obtain ⟨hi, rfl⟩ := List.getElem?_eq_some_iff.mp hx
  obtain ⟨hj, rfl⟩ := List.getElem?_eq_some_iff.mp hy
  exact Int.ofNat_lt.mp (List.pairwise_iff_getElem.mp (List.pairwise_map.mp h) i j hi hj hij)

/-- The search finds what stands in its range, where it may halve the range to nothing. -/
theorem halving_iff {t : List (BitVec 32)} (h : rising (t.map fun x => (x.toNat : Int))) (serial : BitVec 32)
    (n lo hi : Nat) (hn : hi ≤ lo + n) (hhi : hi ≤ t.length) :
    halving serial t n lo hi = true ↔ ∃ i, lo ≤ i ∧ i < hi ∧ t[i]? = some serial := by
  induction n generalizing lo hi with
  | zero =>
    simp only [halving, Bool.false_eq_true, false_iff]
    rintro ⟨i, hlo, hlast, -⟩
    omega
  | succ n ih =>
    rw [halving]
    by_cases hlt : lo < hi
    case neg =>
      simp only [if_neg hlt, Bool.false_eq_true, false_iff]
      rintro ⟨i, hlo, hlast, -⟩
      omega
    obtain ⟨x, hx⟩ : ∃ x, t[(lo + hi) / 2]? = some x := ⟨_, List.getElem?_eq_getElem (by omega)⟩
    simp only [if_pos hlt, List.getD_eq_getElem?_getD, hx, Option.getD_some]
    split
    case isTrue heq =>
      exact iff_of_true rfl ⟨(lo + hi) / 2, by omega, by omega, heq ▸ hx⟩
    case isFalse hne =>
      have hmid : ∀ i, t[i]? = some serial → i ≠ (lo + hi) / 2 := fun i hat heq =>
        hne (Option.some.inj (hat.symm.trans (heq ▸ hx)))
      split
      case isTrue hbelow =>
        rw [ih lo _ (by omega) (by omega)]
        refine ⟨fun ⟨i, hlo, hlast, hat⟩ => ⟨i, hlo, by omega, hat⟩, fun ⟨i, hlo, hlast, hat⟩ => ⟨i, hlo, ?_, hat⟩⟩
        by_contra habove
        have hafter := toNat_lt_of_rising h hx hat (lt_of_le_of_ne (not_lt.mp habove) (hmid i hat).symm)
        omega
      case isFalse habove =>
        rw [ih _ hi (by omega) hhi]
        refine ⟨fun ⟨i, hlo, hlast, hat⟩ => ⟨i, by omega, hlast, hat⟩, fun ⟨i, hlo, hlast, hat⟩ => ⟨i, ?_, hlast, hat⟩⟩
        by_contra hbelow
        have hbefore := toNat_lt_of_rising h hat hx (lt_of_le_of_ne (by omega) (hmid i hat))
        omega

theorem blocked_iff {t : List (BitVec 32)} (h : rising (t.map fun x => (x.toNat : Int))) (serial : BitVec 32) :
    blocked serial t = true ↔ serial ∈ t := by
  rw [blocked, halving_iff h serial _ _ _ (by omega) le_rfl, List.mem_iff_getElem?]
  refine exists_congr fun i => ⟨fun ⟨_, _, hi⟩ => hi, fun hi => ⟨Nat.zero_le i, ?_, hi⟩⟩
  exact (List.getElem?_eq_some_iff.mp hi).1

/-! ### The verdict, check by check (R124–R128) -/

section

variable {s : State} {src : Byte} {g : Node} {t : Ticket}

theorem verdict_of_exit (hg : s.nodeOf src = some g) (hkind : g.kind ≠ 1) : s.verdict src t = .notGate := by
  have hexit : g.isEntry = false := by simpa [Node.isEntry] using fun _ => hkind
  simp [State.verdict, hg, hexit]

theorem verdict_of_entry (hg : s.nodeOf src = some g) (hrole : g.role = .gate) (hkind : g.kind = 1) :
    s.verdict src t = if s.gateOpen g = true then s.ticketVerdict src g t else .closed := by
  have hentry : g.isEntry = true := by simp [Node.isEntry, hrole, hkind]
  simp only [State.verdict, hg, hentry, Bool.not_true, Bool.false_eq_true, if_false, Bool.not_eq_true',
    ← Bool.not_eq_true, ite_not]

theorem gateOpen_iff : s.gateOpen g = true ↔
    s.hlc.state = .boarding ∧ s.hlc.boardingOpen = true ∧ s.hlc.berth = some g.stop.toNat ∧
      ∃ st, s.stops[g.stop.toNat]? = some st ∧ st.platform g.gateCar ≠ .none := by
  have hplatform : s.hasPlatform g.stop.toNat g.gateCar = true ↔
      ∃ st, s.stops[g.stop.toNat]? = some st ∧ st.platform g.gateCar ≠ .none := by
    unfold State.hasPlatform
    split
    case h_1 st hst => simp [hst]
    case h_2 hnone => simp [hnone]
  simp only [State.gateOpen, Bool.and_eq_true, beq_iff_eq, hplatform, and_assoc]

theorem ticketVerdict_of_blocked (h : blocked t.serial (s.mga.active.hotlist.getD []) = true) :
    s.ticketVerdict src g t = .blocked := by
  rw [State.ticketVerdict, if_pos h]

theorem ticketVerdict_of_no_product (h : blocked t.serial (s.mga.active.hotlist.getD []) = false)
    (hx : findProduct t.product (s.mga.active.product.getD []) = none) : s.ticketVerdict src g t = .product := by
  rw [State.ticketVerdict, if_neg (Bool.eq_false_iff.mp h), hx]

theorem ticketVerdict_of_product (h : blocked t.serial (s.mga.active.hotlist.getD []) = false) {x : Product}
    (hx : findProduct t.product (s.mga.active.product.getD []) = some x) : s.ticketVerdict src g t =
      if s.mga.day.toNat ≤ t.expiry ∧ x.first ≤ s.mga.day.toNat ∧ s.mga.day.toNat ≤ x.last then
        if x.mask.getLsbD g.stop.toNat = true then
          if x.decrement = true ∧ t.balance = 0 then .balance else s.handVerdict src g.gateCar t
        else .stop
      else .expired := by
  rw [State.ticketVerdict, if_neg (Bool.eq_false_iff.mp h), hx]
  simp only [inSeason, Bool.not_eq_true', ← Bool.not_eq_true, ite_not, Bool.and_eq_true, decide_eq_true_eq,
    beq_iff_eq, and_assoc]

theorem handVerdict_eq {gate : Byte} {car : Car} : s.handVerdict gate car t =
    if (∀ y ∈ s.adu.grants, y.serial ≠ t.serial) ∧ ∀ y ∈ s.adu.passback, y.serial ≠ t.serial then
      if s.adu.held car < s.capacity car then
        if ∀ y ∈ s.adu.grants, y.gate ≠ gate then if 16 ≤ s.adu.grants.length then .queueFull else .accept
        else .gateBusy
      else .full
    else .passback := by
  simp only [← serialHeld_eq_false, ← gateBusy_eq_false, State.handVerdict, ← Nat.not_le, ite_not,
    Bool.eq_false_iff]

end

/-! ### The answers of a car that is full and of an acceptance (R129–R131) -/

section

variable {s : State} {f : Frame} {g : Node} {l : Line}

theorem Line.capacity_eq (l : Line) (car : Car) : l.capacity car = if car = .a then l.capA else l.capB := by
  cases car <;> rfl

/-- The passengers of a car do not stand in the passback list. -/
theorem Adu.held_passback (a : Adu) (kept : List Passback) (car : Car) :
    ({ a with passback := kept } : Adu).held car = a.held car := by
  cases car <;> rfl

theorem allocate_of_free {a : Adu} (h : ∀ y ∈ a.grants, y.token ≠ a.token) : a.allocate = a.token := by
  rw [Adu.allocate, freeToken, if_neg (by simpa using h)]

theorem newBalance_eq (decrement : Bool) (balance : Byte) : newBalance decrement balance =
    if decrement = true ∧ balance ≠ 0 ∧ balance ≠ 255 then balance - 1 else balance := by
  simp [newBalance, and_assoc]

theorem decrements_of_product {t : Ticket} {x : Product}
    (hx : findProduct t.product (s.mga.active.product.getD []) = some x) : s.decrements t = x.decrement := by
  rw [State.decrements, hx]

/-- A raise and a count leave the other blocks and the FIFO as they are. -/
theorem countRing_raise (c : RingCounter) (k : EventKind) (detail : BitVec 32) (s : State) :
    (countRing c (raise k detail s)).adu = s.adu ∧ (countRing c (raise k detail s)).rif.fifo = s.rif.fifo ∧
    (countRing c (raise k detail s)).rpu.slots[k.code].count = satAdd s.rpu.slots[k.code].count 1 ∧
    (countRing c (raise k detail s)).hlc = s.hlc ∧ (countRing c (raise k detail s)).brs = s.brs ∧
    (countRing c (raise k detail s)).dru = s.dru ∧ (countRing c (raise k detail s)).moe = s.moe ∧
    (countRing c (raise k detail s)).mga = s.mga := by
  have hcount := raise_count k detail s k.code
  rw [if_pos rfl] at hcount
  refine ⟨?_, ?_, hcount, ?_⟩ <;> simp [countRing, State.withRif, Rif.count]

/-- A query that finds its car full is answered; where the car has not been reported full at this berth, it is now
(R131). -/
theorem takeTicket_of_full (hl : s.line = some l) (hg : s.nodeOf f.src = some g)
    (hv : (s.withAdu (s.agedAdu l)).verdict f.src (ticketOf f.payload) = .full) :
    countRing .rewritten (takeTicket f s) =
      if s.adu.fullReported g.gateCar = true then
        s.ticketAnswered (s.answer f .full (byteAt f.payload 7) 0) ((s.agedAdu l).countBy (.verdict .full) 1)
      else countRing .rewritten (raise .carFull
        (carCode g.gateCar ++ f.src ++ BitVec.ofNat 16 (s.adu.held g.gateCar))
        { s with
          rif := { s.rif with fifo := s.rif.fifo ++ [⟨s.answer f .full (byteAt f.payload 7) 0, .answered⟩] }
          adu := ((s.agedAdu l).countBy (.verdict .full) 1).setFull g.gateCar }) := by
  have hcar : (s.withAdu (s.agedAdu l)).askingCar f.src = g.gateCar := by
    simp only [State.askingCar, show (s.withAdu (s.agedAdu l)).nodeOf f.src = some g from hg]
  have hheld : ((s.agedAdu l).countBy (.verdict .full) 1).held g.gateCar = s.adu.held g.gateCar := by
    cases g.gateCar <;> rfl
  have hreported : ((s.agedAdu l).countBy (.verdict .full) 1).fullReported g.gateCar = s.adu.fullReported g.gateCar := by
    cases g.gateCar <;> rfl
  simp only [takeTicket, age_of_line hl, hv, hcar, reportFull]
  rw [← hheld, ← hreported]
  split
  case isTrue hfull =>
    rw [if_pos (by exact hfull)]
    rfl
  case isFalse hfirst =>
    rw [if_neg (by exact hfirst)]
    rfl

/-- An accepted query is answered with its token and its new balance, and its grant appended (R129, R130). -/
theorem takeTicket_of_accept (hl : s.line = some l) (hg : s.nodeOf f.src = some g) {x : Product}
    (hx : findProduct (byteAt f.payload 4) (s.mga.active.product.getD []) = some x)
    (hv : (s.withAdu (s.agedAdu l)).verdict f.src (ticketOf f.payload) = .accept) :
    countRing .rewritten (takeTicket f s) = s.ticketAnswered
      (s.answer f .accept (newBalance x.decrement (byteAt f.payload 7)) s.adu.allocate)
      (((s.agedAdu l).granted
        { gate := f.src, car := g.gateCar, serial := longAt f.payload 0, token := s.adu.allocate,
          expiry := { start := s.clock, dur := l.tGrant * 1000 } }).countBy (.verdict .accept) 1) := by
  have hcar : (s.withAdu (s.agedAdu l)).askingCar f.src = g.gateCar := by
    simp only [State.askingCar, show (s.withAdu (s.agedAdu l)).nodeOf f.src = some g from hg]
  have hdecrements : (s.withAdu (s.agedAdu l)).decrements (ticketOf f.payload) = x.decrement :=
    decrements_of_product hx
  have hgrant : (s.withAdu (s.agedAdu l)).param (·.tGrant) 0 = l.tGrant := by
    simp only [State.param, show (s.withAdu (s.agedAdu l)).line = some l from hl]
  simp only [takeTicket, age_of_line hl, hv, hcar, hdecrements, appendGrant_eq, State.grantFor, hgrant]
  rfl

end

/-- The query of a gate to the part is all that its step deals with. -/
theorem exec_of_gate_query {s : State} {arr : Arrival} {p : List Byte} (h : Arrives s arr 0x30 p)
    (hdst : arr.dst = s.oaByte) (hfrom : arr.src ≠ s.oaByte) (hlen : p.length = 11) (hblank : byteAt p 8 = 0)
    (hrole : s.roleOf arr.src = some .gate) {t : State}
    (ht : countRing .rewritten (takeTicket (frameOf arr 0x30 p) (begin arr.elapsed s)) = t) (hhlc : t.hlc = s.hlc) :
    exec (.ticket arr p) s = .next t := by
  refine exec_of_dealt (c := .ticket arr p) rfl h hfrom ?_ hhlc
  rw [dealKind_ticket rfl, dealTicket_of_query hdst hlen hblank, ← ht]
  exact congrArg _ (congrArg _ (if_pos hrole))

/-! ### The obligation -/

/-- Settles O40: the verdict goes check by check through `verdict_of_entry`, `ticketVerdict_of_product` and `handVerdict_eq`;
every refusal but that of a full car has one answer. -/
theorem ticketsAreAnsweredByTheFirstFailingCheck : Obligations.TicketsAreAnsweredByTheFirstFailingCheck := by
  unfold Obligations.TicketsAreAnsweredByTheFirstFailingCheck
  refine ⟨rfl, fun s arr p g l h hdst hfrom hlen hblank hg hrole hl hrising => ?_⟩
  intro now serial balance day car kept a capacity product candidate answered refused c1 c2 c3
  have haged : (begin arr.elapsed s).agedAdu l = a := by
    rw [State.agedAdu, agePassback_eq_dropWhile]
    rfl
  have hquery := fun t => exec_of_gate_query (t := t) h hdst hfrom hlen hblank
    ((roleOf_eq_some s arr.src .gate).mpr ⟨g, hg, hrole⟩)
  let judged := (begin arr.elapsed s).withAdu a
  let t := ticketOf p
  have hrefuse : ∀ v, judged.verdict arr.src t = v → v ≠ .accept → v ≠ .full → refused v := by
    intro v hv haccept hfull
    have hbegun : (age (begin arr.elapsed s)).verdict arr.src t = v := by
      rw [age_of_line (s := begin arr.elapsed s) hl, haged]
      exact hv
    refine hquery _ ((takeTicket_of_refused hbegun haccept hfull).trans ?_) rfl
    rw [age_of_line (s := begin arr.elapsed s) hl, haged]
    rfl
  have hblocked : blocked t.serial (judged.mga.active.hotlist.getD []) = true ↔ ¬ c3 :=
    (blocked_iff hrising serial).trans not_not.symm
  have hentry : c1 → judged.verdict arr.src t = if judged.gateOpen g = true then judged.ticketVerdict arr.src g t
      else .closed := verdict_of_entry hg hrole
  have hopen : c1 → c2 → judged.verdict arr.src t = judged.ticketVerdict arr.src g t := fun h1 h2 =>
    (hentry h1).trans (if_pos (gateOpen_iff.mpr h2))
  refine ⟨fun h1 => hrefuse _ (verdict_of_exit hg h1) nofun nofun,
    fun h1 h2 => hrefuse _ ((hentry h1).trans (if_neg (mt gateOpen_iff.mp h2))) nofun nofun,
    fun h1 h2 h3 => hrefuse _ ((hopen h1 h2).trans (ticketVerdict_of_blocked (hblocked.mpr h3))) nofun nofun,
    fun h1 h2 h3 hx => hrefuse _ ((hopen h1 h2).trans
      (ticketVerdict_of_no_product (Bool.eq_false_iff.mpr (mt hblocked.mp (not_not.mpr h3))) hx)) nofun nofun,
    fun x hx h1 h2 h3 => ?_⟩
  intro c5 c6 c7 c8 c9 c10
  have hverdict := (hopen h1 h2).trans
    (ticketVerdict_of_product (Bool.eq_false_iff.mpr (mt hblocked.mp (not_not.mpr h3))) hx)
  have hhand : c5 → c6 → c7 → judged.verdict arr.src t = judged.handVerdict arr.src car t := fun h5 h6 h7 =>
    hverdict.trans ((if_pos h5).trans ((if_pos h6).trans (if_neg h7)))
  have hroom : judged.adu.held car < judged.capacity car ↔ c9 := by
    rw [capacity_of_line (s := judged) hl, Line.capacity_eq]
    exact iff_of_eq (congrArg (· < capacity) (Adu.held_passback s.adu kept car))
  have hfits : c5 → c6 → c7 → c8 → c9 → judged.verdict arr.src t =
      if ∀ y ∈ judged.adu.grants, y.gate ≠ arr.src then if 16 ≤ judged.adu.grants.length then .queueFull else .accept
      else .gateBusy := fun h5 h6 h7 h8 h9 =>
    (hhand h5 h6 h7).trans (handVerdict_eq.trans ((if_pos h8).trans (if_pos (hroom.mpr h9))))
  refine ⟨fun h5 => hrefuse _ (hverdict.trans (if_neg h5)) nofun nofun,
    fun h5 h6 => hrefuse _ (hverdict.trans ((if_pos h5).trans (if_neg h6))) nofun nofun,
    fun h5 h6 h7 => hrefuse _
      (hverdict.trans ((if_pos h5).trans ((if_pos h6).trans (if_pos (not_not.mp h7))))) nofun nofun,
    fun h5 h6 h7 h8 => hrefuse _ ((hhand h5 h6 h7).trans (handVerdict_eq.trans (if_neg h8))) nofun nofun,
    fun h5 h6 h7 h8 h9 => ?full,
    fun h5 h6 h7 h8 h9 h10 => hrefuse _ ((hfits h5 h6 h7 h8 h9).trans (if_neg h10)) nofun nofun,
    fun h5 h6 h7 h8 h9 h10 h11 => hrefuse _
      ((hfits h5 h6 h7 h8 h9).trans ((if_pos h10).trans (if_pos h11))) nofun nofun,
    fun h5 h6 h7 h8 h9 h10 h11 => ?accept⟩
  case full =>
    have hfull : judged.verdict arr.src t = .full :=
      (hhand h5 h6 h7).trans (handVerdict_eq.trans ((if_pos h8).trans (if_neg (mt hroom.mp h9))))
    have hanswer := takeTicket_of_full (s := begin arr.elapsed s) (f := frameOf arr 0x30 p) hl hg
      (by rw [haged]; exact hfull)
    rw [haged] at hanswer
    have hfirst : s.adu.fullReported car = false → _ := fun hfirst =>
      hquery _ (hanswer.trans (if_neg (Bool.eq_false_iff.mp hfirst))) (by simp)
    exact ⟨fun hagain => hquery _ (hanswer.trans (if_pos hagain)) rfl, hfirst,
      fun hcar => ⟨_, hfirst hcar, countRing_raise _ _ _ _⟩⟩
  case accept =>
    have haccept : judged.verdict arr.src t = .accept :=
      (hfits h5 h6 h7 h8 h9).trans ((if_pos h10).trans (if_neg (Nat.not_le.mpr h11)))
    have hanswer := takeTicket_of_accept (s := begin arr.elapsed s) (f := frameOf arr 0x30 p) hl hg hx
      (by rw [haged]; exact haccept)
    rw [haged, newBalance_eq] at hanswer
    refine ⟨s.adu.allocate, fun htoken => ?_, fun htoken => ?_, allocate_of_free, fun htoken => ?_,
      hquery _ hanswer rfl⟩
    all_goals obtain ⟨n, hn, hallocate, hfree, hheld⟩ := allocate_eq htoken h11
    · exact hallocate ▸ tokenAfter_ne_zero _ n
    · exact hfree
    · exact ⟨n, hn, hallocate, hheld⟩

end Sys2Proof.Machine

end

/-! ## Car loading: the passes of a gate and the expiry of a grant (R142–R147, R152)

A pass to the part is dealt with in the state in which ABSORBED is counted and the passback list aged; it is then an entry
or an exit by the kind of its gate. -/

section

namespace Sys2Proof.Machine

/-! ### The first element that satisfies a test, removed -/

section

variable {α : Type} {p : α → Bool} {x : α}

theorem removeFirst_append {before : List α} (hbefore : ∀ y ∈ before, p y = false) (hx : p x = true) (after : List α) :
    removeFirst p (before ++ x :: after) = before ++ after := by
  rw [removeFirst_eq_eraseP, List.eraseP_append_right _ (by simpa using hbefore), List.eraseP_cons_of_pos hx]

/-- The element found first is the first of its value as well. -/
theorem removeFirst_eq_erase [DecidableEq α] {l : List α} (h : l.find? p = some x) : removeFirst p l = l.erase x := by
  obtain ⟨hx, before, after, rfl, hbefore⟩ := List.find?_eq_some_iff_append.mp h
  have hnot : ∀ y ∈ before, p y = false := by simpa using hbefore
  have habsent : x ∉ before := fun hmem => Bool.eq_false_iff.mp (hnot x hmem) hx
  rw [removeFirst_append hnot hx, List.erase_append_right _ habsent, List.erase_cons_head]

end

/-! ### An event of the Admission Unit: raised and counted -/

/-- An event that is raised and counted: the Admission Unit's counter and the count of the kind go up, and no other block
but the Ring Interface takes part. -/
theorem countAdu_raise (c : AduCounter) (k : EventKind) (detail : BitVec 32) (s : State) :
    (countAdu c (raise k detail s)).adu = s.adu.countBy c 1 ∧
    (countAdu c (raise k detail s)).rpu.slots[k.code].count = satAdd s.rpu.slots[k.code].count 1 ∧
    (countAdu c (raise k detail s)).hlc = s.hlc ∧ (countAdu c (raise k detail s)).dru = s.dru ∧
    (countAdu c (raise k detail s)).moe = s.moe ∧ (countAdu c (raise k detail s)).mga = s.mga := by
  have hcount := raise_count k detail s k.code
  rw [if_pos rfl] at hcount
  exact ⟨by simp [countAdu], by simpa using hcount, by simp⟩

/-! ### Entries (R143, R144) -/

section

variable {s : State} {gate token : Byte} {g : Node}

theorem entryPass_of_grant {x : Grant}
    (h : (if token = 0 then none else s.adu.grants.find? fun y => y.matchesPass gate token) = some x) :
    entryPass gate token g s = consumeGrant gate token x s := by
  rw [entryPass, h]

theorem entryPass_of_none
    (h : (if token = 0 then none else s.adu.grants.find? fun y => y.matchesPass gate token) = none) :
    entryPass gate token g s = forcedPass gate token g.gateCar s := by
  rw [entryPass, h]

/-- The counters after a serial is appended to the passback list: PASSBACK_OVERFLOW where the oldest record makes room
(R133, R151). -/
def Adu.rememberingCounters (a : Adu) : Vector (BitVec 16) 23 :=
  if 64 ≤ a.passback.length then bumpBy a.counters AduCounter.passbackOverflow.idx 1 else a.counters

theorem appendPassback_adu (serial : BitVec 32) (s : State) : (appendPassback serial s).adu =
    { s.adu with passback := s.adu.remembering serial s.clock, counters := s.adu.rememberingCounters } := by
  simp only [appendPassback, Adu.remembering, Adu.rememberingCounters]
  split <;> rfl

/-- An entry pass with a grant, its counts included (R133, R143). -/
theorem consumeGrant_adu {x : Grant} (h : s.adu.grants.find? (fun y => y.matchesPass gate token) = some x) :
    (consumeGrant gate token x s).adu =
      { s.adu.boarded x (s.adu.grants.erase x) s.clock with
        counters := bumpBy s.adu.rememberingCounters AduCounter.passGranted.idx 1 } := by
  rw [← removeFirst_eq_erase h]
  simp only [consumeGrant, countAdu, State.withAdu_adu, appendPassback_adu]
  cases hcar : x.car <;> simp only [Adu.boarded, hcar] <;> rfl

/-- The passenger of the grant is aboard, and no other count of passengers moves (R143). -/
theorem consumeGrant_passengers {x : Grant} (h : s.adu.grants.find? (fun y => y.matchesPass gate token) = some x)
    (c : Car) :
    (consumeGrant gate token x s).adu.aboard c = (if c = x.car then s.adu.aboard x.car + 1 else s.adu.aboard c) ∧
    (consumeGrant gate token x s).adu.unticketed c = s.adu.unticketed c := by
  rw [consumeGrant_adu h, ← Adu.aboard_setAboard]
  constructor <;> cases c <;> simp [Adu.boarded, Adu.aboard, Adu.unticketed]

end

/-! ### Exits (R145, R146) -/

section

variable {s : State} {gate berth : Byte} {car : Car} {g : Node}

theorem exitPass_at_berth (h : s.hlc.state = .boarding ∧ s.hlc.berth = some g.stop.toNat) :
    exitPass gate g s = exitAtBerth gate g.gateCar g.stop s := if_pos h

theorem exitPass_elsewhere (h : ¬ (s.hlc.state = .boarding ∧ s.hlc.berth = some g.stop.toNat)) :
    exitPass gate g s = countAdu .gateStray
      (raise .gateStray (gate ++ carCode g.gateCar ++ g.stop ++ s.hlc.state.code) s) := if_neg h

theorem exitAtBerth_of_aboard (h : 0 < s.adu.aboard car) : exitAtBerth gate car berth s =
    s.withAdu ((s.adu.setAboard car (s.adu.aboard car - 1)).countBy .passExit 1) := if_pos h

theorem exitAtBerth_of_unticketed (h : s.adu.aboard car = 0) (hn : 0 < s.adu.unticketed car) :
    exitAtBerth gate car berth s =
      s.withAdu ((s.adu.setUnticketed car (s.adu.unticketed car - 1)).countBy .passExit 1) := by
  rw [exitAtBerth, if_neg (by omega), if_pos hn]
  rfl

theorem exitAtBerth_of_empty (h : s.adu.aboard car = 0) (hn : s.adu.unticketed car = 0) :
    exitAtBerth gate car berth s =
      countAdu .countUnderflow (raise .countUnderflow (gate ++ carCode car ++ berth ++ (0 : Byte)) s) := by
  rw [exitAtBerth, if_neg (by omega), if_neg (by omega)]
  rfl

end

/-! ### A pass at its arrival (R142) -/

/-- The pass of a gate to the part is handed on as an entry or an exit. -/
theorem dealGatePass_of_gate {s : State} {f : Frame} {g : Node} {tok : Byte} (h : f.dst = s.oaByte)
    (hg : s.nodeOf f.src = some g) (hrole : g.role = .gate) (hpayload : f.payload = [tok]) :
    dealGatePass f s = takePass f.src tok g (countRing .absorbed s) := by
  simp only [dealGatePass, if_neg (not_not.mpr h), hg, if_neg (not_not.mpr hrole), hpayload]
  rfl

/-- The part in which a pass is judged: ABSORBED is counted and the passback list aged (R123, R142, R168). -/
def State.passing (s : State) (e : Time) (l : Line) : State :=
  { begin e s with rif := s.rif.count .absorbed, adu := (begin e s).agedAdu l }

/-- An entry or an exit by its gate's kind is all that a pass's step comes to. -/
theorem exec_of_gate_pass {s : State} {arr : Arrival} {tok : Byte} {g : Node} {l : Line}
    (h : Arrives s arr 0x31 [tok]) (hdst : arr.dst = s.oaByte) (hfrom : arr.src ≠ s.oaByte)
    (hg : s.nodeOf arr.src = some g) (hrole : g.role = .gate) (hl : s.line = some l) :
    exec (.gatePass arr [tok]) s = .next (if g.kind = 1 then entryPass arr.src tok g (s.passing arr.elapsed l)
      else exitPass arr.src g (s.passing arr.elapsed l)) := by
  have hentry : g.isEntry = true ↔ g.kind = 1 := by simp [Node.isEntry, hrole]
  have hdeal := dealGatePass_of_gate (s := begin arr.elapsed s) (f := frameOf arr 0x31 [tok]) hdst hg hrole rfl
  refine exec_of_dealt (c := .gatePass arr [tok]) rfl h hfrom (Eq.trans hdeal ?_) ?_
  · simp only [takePass, age_of_line (s := countRing .absorbed (begin arr.elapsed s)) hl, hentry]
    rfl
  · split <;> simp [State.passing, begin]

/-! ### The expiry of a grant (R147) -/

section

variable {s : State} {gate : Byte} {older newer : List Grant} {x : Grant}

/-- A gate's grant that is reached is removed, and raised and counted as expired; before that it stands. -/
theorem grantExpiry_of_gate (h : s.adu.grants = older ++ x :: newer) (hx : x.gate = gate)
    (holder : ∀ y ∈ older, y.gate ≠ gate) : grantExpiry gate s =
      if x.expiry.reached s.clock = true then
        countAdu .grantExpired (raise .grantExpired ((1 : Byte) ++ gate ++ carCode x.car ++ x.token)
          (s.withAdu { s.adu with grants := older ++ newer }))
      else s := by
  have hnone : ∀ y ∈ older, (y.gate == gate) = false := by simpa using holder
  have hfound : s.adu.grants.find? (fun y => y.gate == gate) = some x := by
    rw [List.find?_eq_some_iff_append]
    exact ⟨by simpa using hx, older, newer, h, by simpa using holder⟩
  have hrest : removeFirst (fun y => y.gate == gate) s.adu.grants = older ++ newer := by
    rw [h, removeFirst_append hnone (by simpa using hx)]
  simp only [grantExpiry, hfound, hrest, hx]
  rfl

end

theorem exec_grantExpiry {s : State} (h : s.inReset = false) (e : Time) (gate : Byte) :
    exec (.grantExpiry e gate) s = .next (grantExpiry gate (begin e s)) := by
  rw [exec_of_running (c := .grantExpiry e gate) rfl h, settle_of_same]
  · rfl
  · simp [rowAct, rowFrame, edgeAct]

/-! ### The obligation -/

/-- Settles O41: a pass is judged in `State.passing`, an entry by its grant and an exit by its berth and the counts of its
car; an expiry is `grantExpiry_of_gate`. -/
theorem passesMoveTheCounts : Obligations.PassesMoveTheCounts := by
  unfold Obligations.PassesMoveTheCounts
  refine ⟨⟨rfl, rfl⟩, fun s arr tok g l h hdst hfrom hg hrole hl => ?pass,
    fun s e gate older newer x hrun hgrants hx holder => ?expiry⟩
  case pass =>
    intro now kept a car grant atBerth found
    have haged : s.passing arr.elapsed l = found a := by
      rw [State.passing, State.agedAdu, agePassback_eq_dropWhile]
      rfl
    have hpass := exec_of_gate_pass h hdst hfrom hg hrole hl
    rw [haged] at hpass
    have hentry := fun hkind : g.kind = 1 => hpass.trans (congrArg _ (if_pos hkind))
    have hexit := fun hkind : g.kind ≠ 1 => hpass.trans (congrArg _ (if_neg hkind))
    have hberth := fun (hkind : g.kind ≠ 1) (hb : atBerth) =>
      (hexit hkind).trans (congrArg _ (exitPass_at_berth (s := found a) hb))
    have hforced := fun (hkind : g.kind = 1) (hnone : grant = none) =>
      (hentry hkind).trans (congrArg _ (entryPass_of_none (s := found a) hnone))
    have hempty := fun (hkind : g.kind ≠ 1) (hb : atBerth) (haboard : s.adu.aboard car = 0)
        (hunticketed : s.adu.unticketed car = 0) => (hberth hkind hb).trans
      (congrArg _ (exitAtBerth_of_empty (s := found a) haboard hunticketed))
    have hstray := fun (hkind : g.kind ≠ 1) (hb : ¬ atBerth) =>
      (hexit hkind).trans (congrArg _ (exitPass_elsewhere (s := found a) hb))
    refine ⟨hforced, hempty, hstray, fun x hkind hgrant => ?granted, fun hkind hnone => ⟨_, hforced hkind hnone, ?forced⟩,
      fun hkind hb hn => ?aboard, fun hkind hb hzero hn => ?unticketed,
      fun hkind hb hzero hnone => ⟨_, hempty hkind hb hzero hnone, ?underflow⟩, fun hkind hb => ⟨_, hstray hkind hb, ?stray⟩⟩
    case granted =>
      refine ⟨_, (hentry hkind).trans (congrArg _ (entryPass_of_grant (s := found a) hgrant)), ?_⟩
      have hfind := (Option.ite_none_left_eq_some.mp hgrant).2
      have hadu := consumeGrant_adu (s := found a) hfind
      have hpassengers := consumeGrant_passengers (s := found a) hfind
      obtain ⟨-, -, htoken, -, -⟩ := Adu.setAboard_frame a x.car (a.aboard x.car + 1)
      refine ⟨congrArg Adu.grants hadu, congrArg Adu.passback hadu, (hpassengers x.car).1.trans (if_pos rfl),
        fun c hc => (hpassengers c).1.trans (if_neg hc), fun c => (hpassengers c).2,
        (congrArg Adu.token hadu).trans htoken, congrArg Adu.counters hadu, ?_⟩
      simp [found, begin]
    case forced =>
      obtain ⟨hadu, hcount, hhlc, -, -, hmga⟩ := countAdu_raise .passForced .gateForced _ (found _)
      exact ⟨hadu, hcount, hhlc, hmga⟩
    case aboard => exact (hberth hkind hb).trans (congrArg _ (exitAtBerth_of_aboard (s := found a) hn))
    case unticketed => exact (hberth hkind hb).trans (congrArg _ (exitAtBerth_of_unticketed (s := found a) hzero hn))
    case underflow =>
      obtain ⟨hadu, hcount, hhlc, -, -, hmga⟩ := countAdu_raise .countUnderflow .countUnderflow
        (arr.src ++ carCode car ++ g.stop ++ (0 : Byte)) (found a)
      exact ⟨hadu, hhlc, hmga, hcount⟩
    case stray =>
      obtain ⟨hadu, hcount, hhlc, -, -, hmga⟩ := countAdu_raise .gateStray .gateStray
        (arr.src ++ carCode car ++ g.stop ++ s.hlc.state.code) (found a)
      exact ⟨hadu, hhlc, hmga, hcount⟩
  case expiry =>
    have hexec := (exec_grantExpiry hrun e gate).trans
      (congrArg _ (grantExpiry_of_gate (s := begin e s) hgrants hx holder))
    have hexpired := fun hreached => hexec.trans (congrArg _ (if_pos hreached))
    refine ⟨fun hearly => hexec.trans (congrArg _ (if_neg (Bool.eq_false_iff.mp hearly))), hexpired,
      fun hreached => ⟨_, hexpired hreached, ?_⟩⟩
    obtain ⟨hadu, hcount, hhlc, hdru, hmoe, hmga⟩ := countAdu_raise .grantExpired .grantExpired
      ((1 : Byte) ++ gate ++ carCode x.car ++ x.token)
      ((begin e s).withAdu { s.adu with grants := older ++ newer })
    exact ⟨hadu, hcount, hhlc, hdru, hmoe, hmga⟩

end Sys2Proof.Machine

end

/-! ## The seven cross-checks (R149, R150, R178, R179)

Each check finds the first element that fails it, and the cross-checks find the first check that finds one. What an
element fails is said once, check by check, in `ActiveTables.Fails`. -/

section

namespace Sys2Proof.Machine

/-! ### The first place that fails -/

/-- The first place with a property is found, and none where no place has it. -/
def Finds (P : Nat → Prop) (found : Option Nat) : Prop := ∀ i, found = some i ↔ P i ∧ ∀ j < i, ¬ P j

section

variable {P Q : Nat → Prop}

theorem Finds.congr {found : Option Nat} (h : Finds P found) (hPQ : ∀ i, P i ↔ Q i) : Finds Q found := by
  rwa [← funext fun i => propext (hPQ i)]

theorem finds_none (h : ∀ i, ¬ P i) : Finds P none := fun i => iff_of_false nofun fun hi => h i hi.1

/-- Where some place has the property, a first one has. -/
theorem Finds.eq_none_iff {found : Option Nat} (h : Finds P found) : found = none ↔ ∀ i, ¬ P i := by
  classical
  constructor
  · rintro rfl i hi
    have hfirst := (h (Nat.find ⟨i, hi⟩)).mpr ⟨Nat.find_spec ⟨i, hi⟩, fun j hj => Nat.find_min ⟨i, hi⟩ hj⟩
    cases hfirst
  · intro hnone
    cases hfound : found with
    | none => rfl
    | some i => exact absurd ((h i).mp hfound).1 (hnone i)

end

theorem failingIndex_eq_findIdx? {α : Type} (ok : α → Bool) (n : Nat) (t : List α) :
    failingIndex ok n t = (t.findIdx? fun x => !ok x).map (· + n) := by
  induction t generalizing n with
  | nil => rfl
  | cons x t ih =>
    rw [failingIndex, List.findIdx?_cons, ih]
    cases ok x
    · simp
    · simp [Function.comp_def, Nat.add_assoc, Nat.add_comm 1]

/-- The first entry of a list that fails a test, the entries counted from n. -/
theorem finds_failingIndex {α : Type} (ok : α → Bool) (n : Nat) (t : List α) :
    Finds (fun i => ∃ j x, i = j + n ∧ t[j]? = some x ∧ ok x = false) (failingIndex ok n t) := by
  intro i
  rw [failingIndex_eq_findIdx?, Option.map_eq_some_iff]
  simp only [List.findIdx?_eq_some_iff_getElem]
  constructor
  · rintro ⟨k, ⟨hk, hfails, hbefore⟩, rfl⟩
    refine ⟨⟨k, t[k], rfl, List.getElem?_eq_getElem hk, by simpa using hfails⟩, ?_⟩
    rintro j hj ⟨m, x, rfl, hx, hfails⟩
    obtain ⟨hm, rfl⟩ := List.getElem?_eq_some_iff.mp hx
    exact hbefore m (by omega) (by simp [hfails])
  · rintro ⟨⟨k, x, rfl, hx, hfails⟩, hbefore⟩
    obtain ⟨hk, rfl⟩ := List.getElem?_eq_some_iff.mp hx
    refine ⟨k, ⟨hk, by simp [hfails], fun j hj hfailed => ?_⟩, rfl⟩
    exact hbefore (j + n) (by omega) ⟨j, t[j], rfl, List.getElem?_eq_getElem (by omega), by simpa using hfailed⟩

/-! ### What fails each check (R179) -/

/-- The element i of the tables fails the check of this number, the counts of the Admission Unit being these. -/
def ActiveTables.Fails (a : ActiveTables) (adu : Adu) : Nat → Nat → Prop
  | 1, i => ∃ t l x, a.stop = some t ∧ a.line = some l ∧ t[i]? = some x ∧ (l.length : Int) < x.pos
  | 2, i => ∃ t l x, a.profile = some t ∧ a.line = some l ∧ t[i]? = some x ∧ (l.length : Int) < x.start
  | 3, i => ∃ t l x, a.profile = some t ∧ a.line = some l ∧ t[i]? = some x ∧ (l.vLineMax < x.up ∨ l.vLineMax < x.down)
  | 4, i => ∃ t j x, a.node = some t ∧ i = j + 1 ∧ t[j]? = some x ∧ x.role = .gate ∧
      (a.stop.getD []).length ≤ x.stop.toNat
  | 5, i => ∃ t j x, a.node = some t ∧ i = j + 1 ∧ t[j]? = some x ∧ x.role = .gate ∧
      ∀ y car, (a.stop.getD [])[x.stop.toNat]? = some y → carOf x.car = some car → y.platform car = .none
  | 6, i => ∃ l, a.line = some l ∧ l.capA < adu.held .a ∧ i = min (adu.held .a) 65535
  | 7, i => ∃ l, a.line = some l ∧ l.capB < adu.held .b ∧ i = min (adu.held .b) 65535
  | _, _ => False

section

variable (a : ActiveTables) (adu : Adu)

theorem check1_finds : Finds (a.Fails adu 1) (check1 a) := by
  unfold check1
  split
  case h_1 t l ht hl =>
    exact (finds_failingIndex _ _ t).congr fun i => by simp [ActiveTables.Fails, ht, hl]
  case h_2 hempty => exact finds_none fun i ⟨t, l, x, ht, hl, _⟩ => hempty t l ht hl

theorem check2_finds : Finds (a.Fails adu 2) (check2 a) := by
  unfold check2
  split
  case h_1 t l ht hl =>
    exact (finds_failingIndex _ _ t).congr fun i => by simp [ActiveTables.Fails, ht, hl]
  case h_2 hempty => exact finds_none fun i ⟨t, l, x, ht, hl, _⟩ => hempty t l ht hl

theorem check3_finds : Finds (a.Fails adu 3) (check3 a) := by
  unfold check3
  split
  case h_1 t l ht hl =>
    exact (finds_failingIndex _ _ t).congr fun i => by
      simp [ActiveTables.Fails, ht, hl, -Bool.and_eq_false_imp, Bool.and_eq_false_iff]
  case h_2 hempty => exact finds_none fun i ⟨t, l, x, ht, hl, _⟩ => hempty t l ht hl

theorem gateStopHolds_eq_false (stops : List Stop) (x : Node) :
    gateStopHolds stops x = false ↔ x.role = .gate ∧ stops.length ≤ x.stop.toNat := by
  simp [gateStopHolds]

theorem gatePlatformHolds_eq_false (stops : List Stop) (x : Node) : gatePlatformHolds stops x = false ↔
    x.role = .gate ∧ ∀ y car, stops[x.stop.toNat]? = some y → carOf x.car = some car → y.platform car = .none := by
  unfold gatePlatformHolds
  split
  case h_1 y car hy hcar => simp [hy, hcar]
  case h_2 hmissing =>
    have hnone : ∀ y car, stops[x.stop.toNat]? = some y → carOf x.car = some car → y.platform car = .none :=
      fun y car hy hcar => (hmissing y car hy hcar).elim
    simp [eq_true hnone]

theorem check4_finds : Finds (a.Fails adu 4) (check4 a) := by
  unfold check4
  split
  case h_1 t ht =>
    exact (finds_failingIndex _ _ t).congr fun i => by simp [ActiveTables.Fails, ht, gateStopHolds_eq_false]
  case h_2 hnode => exact finds_none fun i ⟨t, j, x, ht, _⟩ => nomatch hnode.symm.trans ht

theorem check5_finds : Finds (a.Fails adu 5) (check5 a) := by
  unfold check5
  split
  case h_1 t ht =>
    exact (finds_failingIndex _ _ t).congr fun i => by simp [ActiveTables.Fails, ht, gatePlatformHolds_eq_false]
  case h_2 hnode => exact finds_none fun i ⟨t, j, x, ht, _⟩ => nomatch hnode.symm.trans ht

/-- A capacity has one number to report. -/
theorem checkCap_finds (cap : Line → Nat) (held : Nat) :
    Finds (fun i => ∃ l, a.line = some l ∧ cap l < held ∧ i = min held 65535) (checkCap a cap held) := by
  unfold checkCap
  split
  case h_1 l hl =>
    refine Finds.congr (P := fun i => cap l < held ∧ i = min held 65535) ?_ fun i => by simp [hl]
    split
    case isTrue hfits => exact finds_none fun i hi => hi.1.not_ge hfits
    case isFalse hfull =>
      intro i
      simp only [sat16, Option.some.injEq, not_le.mp hfull, true_and]
      exact ⟨fun hi => ⟨hi.symm, fun j hj => by omega⟩, fun hi => hi.1.symm⟩
  case h_2 hline => exact finds_none fun i ⟨l, hl, _⟩ => nomatch hline.symm.trans hl

end

/-! ### The first check that fails -/

/-- The first failure in the order of the checks from number n on is reported with its check. -/
def Reports (F : Nat → Nat → Prop) (n : Nat) (report : Option (Nat × Nat)) : Prop :=
  ∀ c i, report = some (c, i) ↔
    n ≤ c ∧ F c i ∧ (∀ j < i, ¬ F c j) ∧ ∀ earlier j, n ≤ earlier → earlier < c → ¬ F earlier j

section

variable {F : Nat → Nat → Prop} {n : Nat}

theorem reports_none (h : ∀ c, n ≤ c → ∀ i, ¬ F c i) : Reports F n none := fun c i =>
  iff_of_false nofun fun ⟨hc, hi, _⟩ => h c hc i hi

/-- Nothing is reported exactly where every check is passed: some check would be the first that fails, and some place the
first that fails it. -/
theorem Reports.eq_none_iff {report : Option (Nat × Nat)} (h : Reports F n report) :
    report = none ↔ ∀ c, n ≤ c → ∀ i, ¬ F c i := by
  classical
  constructor
  · rintro rfl c hc i hi
    have hcheck : ∃ c, n ≤ c ∧ ∃ i, F c i := ⟨c, hc, i, hi⟩
    obtain ⟨hn, hplace⟩ := Nat.find_spec hcheck
    have hfirst := (h (Nat.find hcheck) (Nat.find hplace)).mpr ⟨hn, Nat.find_spec hplace,
      fun j hj => Nat.find_min hplace hj, fun earlier j hn hlt hj => Nat.find_min hcheck hlt ⟨hn, j, hj⟩⟩
    cases hfirst
  · intro hnone
    cases hreport : report with
    | none => rfl
    | some r =>
      obtain ⟨hn, hi, -⟩ := (h r.1 r.2).mp hreport
      exact absurd hi (hnone r.1 hn r.2)

theorem orElse_none_right {α : Type} (x : Option α) : (x.orElse fun _ => none) = x := by
  cases x <;> rfl

/-- One check more in front. -/
theorem Reports.orElse {found : Option Nat} {rest : Unit → Option (Nat × Nat)} (hrest : Reports F (n + 1) (rest ()))
    (hfound : Finds (F n) found) : Reports F n ((numbered n found).orElse rest) := by
  intro c i
  cases hfirst : found with
  | some k =>
    obtain ⟨hk, hbefore⟩ := (hfound k).mp hfirst
    refine ⟨fun h => ?_, fun ⟨hc, hi, hleast, hearlier⟩ => ?_⟩
    · cases h
      exact ⟨le_rfl, hk, hbefore, fun earlier j hn hc => absurd hn (not_le.mpr hc)⟩
    · obtain rfl : c = n := by
        by_contra hne
        exact hearlier n k le_rfl (by omega) hk
      have hfoundi := (hfound i).mpr ⟨hi, hleast⟩
      rw [← hfirst, hfoundi]
      rfl
  | none =>
    have hpassed := hfound.eq_none_iff.mp hfirst
    refine (hrest c i).trans ⟨fun ⟨hc, hi, hleast, hearlier⟩ => ⟨by omega, hi, hleast, fun earlier j hn hlt => ?_⟩,
      fun ⟨hc, hi, hleast, hearlier⟩ => ⟨?_, hi, hleast, fun earlier j hn => hearlier earlier j (by omega)⟩⟩
    · by_cases hsame : earlier = n
      · exact hsame ▸ hpassed j
      · exact hearlier earlier j (by omega) hlt
    · by_contra hle
      obtain rfl : c = n := by omega
      exact hpassed i hi

end

theorem crossChecks_reports (a : ActiveTables) (adu : Adu) : Reports (a.Fails adu) 1 (crossChecks a adu) := by
  have hlast : Reports (a.Fails adu) 7 (numbered 7 (checkCap a Line.capB (adu.held .b))) := by
    have hnone : Reports (a.Fails adu) 8 none := reports_none fun c hc i => by
      obtain ⟨k, rfl⟩ := Nat.exists_eq_add_of_le' hc
      exact id
    have hreports := hnone.orElse (rest := fun _ => none) (checkCap_finds a Line.capB (adu.held .b))
    rwa [orElse_none_right] at hreports
  exact (((((hlast.orElse (n := 6) (checkCap_finds a Line.capA (adu.held .a))).orElse (check5_finds a adu)).orElse
    (check4_finds a adu)).orElse (check3_finds a adu)).orElse (check2_finds a adu)).orElse (check1_finds a adu)

/-! ### The capacities, and a pending activation that fails (R149, R150, R178) -/

/-- The checks are numbered from 1. -/
theorem pos_of_fails {a : ActiveTables} {adu : Adu} {check i : Nat} (h : a.Fails adu check i) : 1 ≤ check := by
  cases check with
  | zero => exact h.elim
  | succ n => exact Nat.succ_pos n

/-- Where the LINE record's capacities cover those aboard and those with a grant, checks 6 and 7 are passed. -/
theorem le_five_of_fails {a : ActiveTables} {adu : Adu} {check i : Nat}
    (hfits : ∀ l, a.line = some l → ∀ car, adu.held car ≤ l.capacity car) (h : a.Fails adu check i) : check ≤ 5 := by
  unfold ActiveTables.Fails at h
  split at h
  case h_6 =>
    obtain ⟨l, hl, hover, -⟩ := h
    exact absurd (hfits l hl .a) (not_le.mpr hover)
  case h_7 =>
    obtain ⟨l, hl, hover, -⟩ := h
    exact absurd (hfits l hl .b) (not_le.mpr hover)
  case h_8 => exact h.elim
  all_goals omega

/-- A mask without LINE leaves the LINE record that covers the counts (log 22). -/
theorem fits_after_of_no_line {s : State} {mask : Byte} (h : AdmissionSound s) (hmask : names mask .line = false) (l : Line)
    (hl : (s.mga.after mask).line = some l) (car : Car) : s.adu.held car ≤ l.capacity car := by
  have hsame : (s.mga.after mask).line = s.mga.active.line := by simpa [hmask] using after_line s.mga mask
  exact (admissionSound_iff.mp h).capacity l (hsame.symm.trans hl) car

/-- A pending activation whose cross-checks fail becomes none, and ACTIVATION_FAILED says which failed (R178, R179). -/
theorem settle_of_failed {before s : State} {mask : Byte} {check i : Nat}
    (hchecks : crossChecks (s.mga.after mask) s.adu = some (check, i)) (hpending : s.mga.pendingMask = some mask)
    (hrest : s.hlc.state = .parked ∨ s.hlc.state = .tripped) (hchanged : before.hlc.state ≠ s.hlc.state) :
    settle before s = raise .activationFailed (BitVec.ofNat 8 check ++ mask ++ BitVec.ofNat 16 i)
      { s with mga := { s.mga with pendingMask := none } } := by
  have htaken : crossChecks (Mga.after { s.mga with pendingMask := none } mask) s.adu = some (check, i) := hchecks
  simp only [settle, if_pos (And.intro hchanged.symm hrest), hpending, takePending, State.withMga_mga, State.withMga_adu,
    htaken]
  rfl

/-! ### The obligation -/

/-- Settles O55: the cross-checks report the first failure of `ActiveTables.Fails`, of which the capacities that the laws
of admission cover are none. -/
theorem crossChecksReportTheFirstFailure : Obligations.CrossChecksReportTheFirstFailure := by
  unfold Obligations.CrossChecksReportTheFirstFailure
  refine ⟨fun a adu => ?reports, fun s mask h hmask check i hchecks => ?capacities,
    fun s mask check i _ hchecks hpending hrest before hchanged => settle_of_failed hchecks hpending hrest hchanged⟩
  case reports =>
    intro held fails
    have hfails : fails = a.Fails adu := by
      refine funext fun check => funext fun i => propext ⟨fun h => ?_, fun h => ?_⟩
      · obtain ⟨rfl, h⟩ | ⟨rfl, h⟩ | ⟨rfl, h⟩ | ⟨rfl, h⟩ | ⟨rfl, h⟩ | ⟨rfl, h⟩ | ⟨rfl, h⟩ := h <;> exact h
      · unfold ActiveTables.Fails at h
        split at h
        exacts [.inl ⟨rfl, h⟩, .inr (.inl ⟨rfl, h⟩), .inr (.inr (.inl ⟨rfl, h⟩)), .inr (.inr (.inr (.inl ⟨rfl, h⟩))),
          .inr (.inr (.inr (.inr (.inl ⟨rfl, h⟩)))), .inr (.inr (.inr (.inr (.inr (.inl ⟨rfl, h⟩))))),
          .inr (.inr (.inr (.inr (.inr (.inr ⟨rfl, h⟩))))), h.elim]
    have hreports := crossChecks_reports a adu
    rw [hfails]
    refine ⟨fun check i => (hreports check i).trans ?_, hreports.eq_none_iff.trans ?_⟩
    · exact ⟨fun ⟨_, hi, hleast, hearlier⟩ => ⟨hi, hleast, fun c j hlt hj => hearlier c j (pos_of_fails hj) hlt hj⟩,
        fun ⟨hi, hleast, hearlier⟩ => ⟨pos_of_fails hi, hi, hleast, fun c j _ hlt => hearlier c j hlt⟩⟩
    · exact ⟨fun hnone c i hi => hnone c (pos_of_fails hi) i hi, fun hnone c _ => hnone c⟩
  case capacities =>
    obtain ⟨-, hfails, -⟩ := (crossChecks_reports _ _ check i).mp hchecks
    exact le_five_of_fails (fits_after_of_no_line h hmask) hfails

end Sys2Proof.Machine

end

/-! ## What the other blocks place in the insertion classes (R47, R108, R165, R190, R192)

The FIFO, the replies, the frame on OUT and the back-to-back count are the Ring Interface's own. Every other block reaches
it by FORCE, DOOR, REPORT and BEACON alone; `Placed` says so, and the laws of the ring are read off it. -/

section

namespace Sys2Proof.Machine

/-- The Ring Interface without its counters, its flags and the transmit sequence: the frames it holds and the back-to-back
count. -/
def Rif.traffic (r : Rif) : Rif :=
  { r with crcFlag := false, formatFlag := false, overrunFlag := false, counters := Vector.replicate 16 0, txSeq := 0 }

@[simp] theorem Rif.traffic_count (r : Rif) (c : RingCounter) : (r.count c).traffic = r.traffic := rfl

/-- A state that comes of s by placing frames in FORCE, DOOR, REPORT and BEACON, the REPORT class having room (R165,
R190). -/
inductive Placed (s : State) : State → Prop
  | start : Placed s s
  | aside {u t : State} (h : Placed s u) (ht : t.rif.traffic = u.rif.traffic) : Placed s t
  | force {u : State} (h : Placed s u) : Placed s (placeForce u)
  | door {u : State} (h : Placed s u) (car : Car) (side : Side) (action : DoorAction) :
      Placed s (placeDoor car side action u)
  | report {u : State} (h : Placed s u) (hroom : u.rif.report.length < 8) (express : Bool) (payload : List Byte) :
      Placed s (placeReport express payload u)
  | beacon {u : State} (h : Placed s u) (payload : List Byte) : Placed s (placeBeacon payload u)

/-- What the Ring Interface keeps to itself: the FIFO, the frame on OUT, the replies and the back-to-back count. -/
structure SameOwn (s t : State) : Prop where
  fifo : t.rif.fifo = s.rif.fifo
  sending : t.rif.sending = s.rif.sending
  reply : t.rif.reply = s.rif.reply
  count : t.rif.backToBack = s.rif.backToBack

theorem SameOwn.trans {s t u : State} (h1 : SameOwn s t) (h2 : SameOwn t u) : SameOwn s u :=
  ⟨h2.fifo.trans h1.fifo, h2.sending.trans h1.sending, h2.reply.trans h1.reply, h2.count.trans h1.count⟩

theorem SameOwn.of_traffic {s t : State} (h : t.rif.traffic = s.rif.traffic) : SameOwn s t :=
  ⟨(congrArg Rif.fifo h :), (congrArg Rif.sending h :), (congrArg Rif.reply h :), (congrArg Rif.backToBack h :)⟩

theorem sameOwn_placeForce (s : State) : SameOwn s (placeForce s) := by
  unfold placeForce
  constructor <;> simp only [State.withRif_rif] <;> split <;> rfl

theorem sameOwn_placeDoor (car : Car) (side : Side) (action : DoorAction) (s : State) :
    SameOwn s (placeDoor car side action s) := by
  unfold placeDoor
  constructor <;> simp only [State.withRif_rif] <;> split <;> rfl

theorem sameOwn_placeBeacon (payload : List Byte) (s : State) : SameOwn s (placeBeacon payload s) := by
  unfold placeBeacon
  constructor <;> simp only [State.withRif_rif] <;> split <;> rfl

theorem Placed.sameOwn {s t : State} (h : Placed s t) : SameOwn s t := by
  induction h with
  | start => exact ⟨rfl, rfl, rfl, rfl⟩
  | aside _ ht ih => exact ih.trans (.of_traffic ht)
  | force _ ih => exact ih.trans (sameOwn_placeForce _)
  | door _ car side action ih => exact ih.trans (sameOwn_placeDoor car side action _)
  | report _ _ _ _ ih => exact ih.trans ⟨rfl, rfl, rfl, rfl⟩
  | beacon _ payload ih => exact ih.trans (sameOwn_placeBeacon payload _)

section

variable {s u : State}

/-! ### The other blocks replaced -/

theorem Placed.withMga (h : Placed s u) (x : Mga) : Placed s (u.withMga x) := h.aside rfl

theorem Placed.withMoe (h : Placed s u) (x : Moe) : Placed s (u.withMoe x) := h.aside rfl

theorem Placed.withBrs (h : Placed s u) (x : Brs) : Placed s (u.withBrs x) := h.aside rfl

theorem Placed.withTest (h : Placed s u) (x : BrakeTest) : Placed s (u.withTest x) := h.aside rfl

theorem Placed.withHlc (h : Placed s u) (x : Hlc) : Placed s (u.withHlc x) := h.aside rfl

theorem Placed.withDru (h : Placed s u) (x : Dru) : Placed s (u.withDru x) := h.aside rfl

theorem Placed.withAdu (h : Placed s u) (x : Adu) : Placed s (u.withAdu x) := h.aside rfl

theorem Placed.withRpu (h : Placed s u) (x : Rpu) : Placed s (u.withRpu x) := h.aside rfl

/-! ### Reports and events (R188–R190) -/

theorem Placed.placeKind (h : Placed s u) (hroom : u.rif.report.length < 8) (k : Fin 28) :
    Placed s (placeKind k u) := by
  unfold Machine.placeKind
  split
  · exact h
  · exact (h.report hroom _ _).aside rfl

theorem Placed.selectUpTo (h : Placed s u) (n : Nat) : Placed s (selectUpTo n u) := by
  induction n generalizing u with
  | zero => exact h
  | succ n ih =>
    unfold Machine.selectUpTo
    split
    · split
      · exact ih (h.placeKind ‹_› _)
      · exact h
    · exact h

theorem Placed.selectReports (h : Placed s u) : Placed s (selectReports u) := by
  unfold Machine.selectReports
  split
  · exact h
  · exact h.selectUpTo 8

theorem Placed.raise (h : Placed s u) (k : EventKind) (detail : BitVec 32) : Placed s (raise k detail u) := by
  rw [raise_eq]
  have hoccurred : Placed s (u.occurred k detail) := h.aside rfl
  split
  · exact hoccurred.selectReports
  · exact hoccurred

theorem Placed.applyReportLevel (h : Placed s u) : Placed s (applyReportLevel u) :=
  (h.withRpu _).selectReports

theorem Placed.beaconExpiry (h : Placed s u) : Placed s (beaconExpiry u) := by
  unfold Machine.beaconExpiry
  split
  · split
    · exact (h.beacon _).aside rfl
    · exact h
  · exact h

/-! ### Trips and demands (R47, R55, R56, R90, R93, R94) -/

theorem Placed.enterRest (h : Placed s u) (st : HaulState) (berth : Option Nat) (boardingOpen : Bool) :
    Placed s (enterRest st berth boardingOpen u) := h.aside (by simp)

theorem Placed.returnToOrigin (h : Placed s u) : Placed s (returnToOrigin u) := (h.enterRest _ _ _).force

theorem Placed.abortService (h : Placed s u) : Placed s (abortService u) := (h.withTest _).raise _ _

theorem Placed.testOnTrip (h : Placed s u) (cause : TripCause) : Placed s (testOnTrip cause u) := by
  unfold Machine.testOnTrip
  split
  · split
    · exact h.aside rfl
    · split
      · exact h
      · exact h.abortService
  · exact h

theorem Placed.trip (h : Placed s u) (cause : TripCause) : Placed s (trip cause u) := by
  unfold Machine.trip
  refine Placed.testOnTrip ?_ cause
  split
  · exact (h.withBrs _).raise _ _
  · exact (((h.withBrs _).raise _ _).enterRest _ _ _).force

theorem Placed.enterServiceStop (h : Placed s u) (cause : StopCause) : Placed s (enterServiceStop cause u) :=
  Placed.aside (Placed.force (h.aside (by simp))) rfl

theorem Placed.demand (h : Placed s u) (cause : StopCause) : Placed s (demand cause u) := by
  unfold Machine.demand
  split
  case h_1 => exact h.returnToOrigin.raise _ _
  case h_2 => exact (h.enterServiceStop cause).raise _ _
  case h_3 =>
    have hcounted : Placed s (raiseStop cause .counted
        (u.withHlc { u.hlc with further := min (u.hlc.further + 1) 255 })) := (h.withHlc _).raise _ _
    dsimp only
    split
    · exact hcounted.abortService
    · exact hcounted
  all_goals exact h.raise _ _

/-! ### The judgements of the Brake Supervisor (R44, R51, R53, R68–R71) -/

theorem Placed.warn (h : Placed s u) (above : Bool) : Placed s (warn above u) := by
  simp only [Machine.warn]
  split
  · exact (h.withBrs _).raise _ _
  · exact h.withBrs _

theorem Placed.judgeTier (h : Placed s u) : Placed s (judgeTier u) := by
  unfold Machine.judgeTier tierCases
  dsimp only
  (repeat' split)
  · exact h.trip _
  · exact h.warn _
  · exact (h.warn _).demand _
  · exact h.warn _
  · exact h.withBrs _
  · exact h.withBrs _
  · exact h

theorem Placed.judgeLoss (h : Placed s u) : Placed s (judgeLoss u) := by
  have hfound : Placed s (Machine.raise .speedLost (BitVec.ofInt 32 u.moe.last.posA)
      (Machine.demand .speedLost (u.withBrs { u.brs with lossFlag := true }))) :=
    ((h.withBrs _).demand _).raise _ _
  have hfollowed : Placed s (followLoss u) := by
    simp only [followLoss]
    (repeat' split)
    all_goals exact h.aside rfl
  have htaken : Placed s (takeLoss u) := by
    simp only [takeLoss]
    split
    · exact hfound
    · exact hfound.withBrs _
  unfold Machine.judgeLoss
  (repeat' split)
  · exact hfollowed
  · exact h
  · exact htaken
  · exact h

theorem Placed.judgeTrigger (h : Placed s u) (id : StageId) : Placed s (judgeTrigger id u) := by
  unfold Machine.judgeTrigger applyBrake
  split
  · split
    · exact (h.withTest _).demand _
    · exact (h.withTest _).trip _
  · exact h

theorem Placed.judgeStopEnd (h : Placed s u) (id : StageId) : Placed s (judgeStopEnd id u) := by
  unfold Machine.judgeStopEnd endStage
  dsimp only
  split
  · split
    · exact (h.withTest _).raise _ _
    · exact (h.withTest _).raise _ _
  · exact h

theorem Placed.judgeTest (h : Placed s u) : Placed s (judgeTest u) := by
  unfold Machine.judgeTest
  split
  · exact h.judgeTrigger _
  · exact h.judgeStopEnd _
  · exact h.judgeTrigger _
  · exact h.judgeStopEnd _
  · exact h

theorem Placed.brsUpdate (h : Placed s u) : Placed s (brsUpdate u) := by
  have htrip : Placed s (if u.hlc.state ≠ .tripped ∧ (Machine.judgeTier u).overruns
      then Machine.trip .overrun (Machine.judgeTier u) else Machine.judgeTier u) := by
    split
    · exact h.judgeTier.trip _
    · exact h.judgeTier
  have hjudged := htrip.judgeLoss.judgeTest
  simp only [Machine.brsUpdate]
  generalize Machine.judgeTest _ = v at hjudged ⊢
  split
  · exact hjudged.withBrs _
  · exact hjudged

/-! ### The doors (R103–R117) -/

theorem Placed.setDoor (h : Placed s u) (car : Car) (side : Side) (r : DoorRecord) : Placed s (setDoor car side r u) :=
  h.aside rfl

theorem Placed.withdraw (h : Placed s u) (car : Car) (side : Side) : Placed s (withdraw car side u) :=
  (h.door car side .withdraw).setDoor _ _ _

theorem Placed.faultDoor (h : Placed s u) (car : Car) (side : Side) (why : DoorFaultReason) (judgedIn : HaulState) :
    Placed s (faultDoor car side why judgedIn u) := (h.setDoor _ _ _).raise _ _

theorem Placed.releaseExpiry (h : Placed s u) (car : Car) (side : Side) : Placed s (releaseExpiry car side u) := by
  simp only [Machine.releaseExpiry]
  split
  · exact h.faultDoor _ _ _ _
  · exact h

theorem Placed.closeExpiry (h : Placed s u) (car : Car) (side : Side) : Placed s (closeExpiry car side u) := by
  simp only [Machine.closeExpiry]
  split
  · exact h.faultDoor _ _ _ _
  · exact h

theorem Placed.lapse (h : Placed s u) (car : Car) : Placed s (lapse car u) := by
  simp only [Machine.lapse]
  split
  · exact (h.withDru _).raise _ _
  · exact ((h.withDru _).raise _ _).demand _

theorem Placed.freshnessExpiry (h : Placed s u) (car : Car) : Placed s (freshnessExpiry car u) := by
  unfold Machine.freshnessExpiry
  split
  · exact h.lapse car
  · exact h

theorem Placed.judgeMovingOpen (h : Placed s u) (tripped : Bool) : Placed s (judgeMovingOpen tripped u) := by
  unfold Machine.judgeMovingOpen
  (repeat' split)
  · exact h.withDru _
  · exact (h.withDru _).trip _
  · exact h.withDru _
  · exact h

theorem Placed.judgeWithdrawal (h : Placed s u) : Placed s (judgeWithdrawal u) := by
  have hone : ∀ u cs, Placed s u → Placed s (withdrawReleased u cs) := fun u cs h => by
    simp only [withdrawReleased]
    split
    · exact h.withdraw _ _
    · exact h
  unfold Machine.judgeWithdrawal
  split
  · exact hone _ _ (hone _ _ (hone _ _ (hone _ _ h)))
  · exact h

theorem Placed.judgeSide (h : Placed s u) (car : Car) (side : Side) (x : SideStatus) :
    Placed s (judgeSide car side x u).1 := by
  simp only [Machine.judgeSide]
  split
  · split
    · exact h
    · split
      · exact (h.trip _).faultDoor _ _ _ _
      · exact h.faultDoor _ _ _ _
  · dsimp only
    split
    · exact h
    · exact h.setDoor _ _ _
  · exact h
  · split
    · exact h.setDoor _ _ _
    · split
      · exact h.raise _ _
      · exact h
  · dsimp only
    split
    · exact h.setDoor _ _ _
    · exact h

theorem Placed.takeDoorReport (h : Placed s u) (car : Car) (left right : SideStatus) :
    Placed s (takeDoorReport car left right u) := by
  have hstored : Placed s (storeReport car left right u) := h.aside rfl
  simp only [Machine.takeDoorReport]
  refine (Placed.judgeSide (Placed.judgeSide ?_ _ _ _) _ _ _).judgeMovingOpen _
  split
  · exact hstored.returnToOrigin
  · exact hstored

theorem Placed.decideDoor (h : Placed s u) (car side action : Byte) : Placed s (decideDoor car side action u).2 := by
  have hopen : ∀ c d, Placed s (openDoor c d u).2 := fun c d => by
    unfold openDoor
    split
    · exact ((h.door c d .release).setDoor _ _ _).judgeMovingOpen _
    · exact h
  have hclose : ∀ c d, Placed s (closeDoor c d u).2 := fun c d => by
    unfold closeDoor
    dsimp only
    split
    · exact h
    · exact h.withdraw _ _
    · exact h.withdraw _ _
    · exact h.door _ _ _
    · exact h.withdraw _ _
  unfold Machine.decideDoor
  (repeat' split)
  · exact hopen _ _
  · exact hclose _ _
  · exact h
  · exact h

/-! ### The motion update and what ends in one (R4–R20) -/

theorem Placed.hlcUpdate (h : Placed s u) : Placed s (hlcUpdate u) := by
  unfold Machine.hlcUpdate endServiceStop arrive
  (repeat' split)
  · exact (h.enterRest _ _ _).raise _ _
  · exact h.enterRest _ _ _
  · exact (h.enterRest _ _ _).raise _ _
  · exact h
  · exact h
  · exact h

theorem Placed.envUpdate (h : Placed s u) : Placed s (envUpdate u) := by
  unfold Machine.envUpdate
  split
  · exact Placed.demand (h.aside (by simp)) _
  · exact h.aside (by simp)

theorem Placed.motionUpdate (h : Placed s u) : Placed s (motionUpdate u) :=
  ((Placed.envUpdate (h.aside (by simp))).brsUpdate.judgeMovingOpen _).judgeWithdrawal.hlcUpdate

theorem Placed.crossCheck (h : Placed s u) (l : Line) (ch : ChannelId) : Placed s (crossCheck l ch u) := by
  have hdivergence : Placed s (judgeDivergence l u) := by
    simp only [judgeDivergence]
    (repeat' split)
    · exact (h.withMoe _).raise _ _
    · exact h
    · exact h
  unfold Machine.crossCheck
  split
  · simp only [judgeSlip]
    (repeat' split)
    · exact ((h.withMoe _).raise _ _).demand _
    · exact h.withMoe _
    · exact h.withMoe _
  · simp only [judgeDisagree]
    (repeat' split)
    · exact ((hdivergence.withMoe _).raise _ _).demand _
    · exact hdivergence.withMoe _
    · exact hdivergence.withMoe _

theorem Placed.takeSample (h : Placed s u) (ch : ChannelId) (x : Sample) (health : Byte) :
    Placed s (takeSample ch x health u) := by
  unfold Machine.takeSample
  (repeat' split)
  · exact h.withMoe _
  · exact h.withMoe _
  · exact ((h.withMoe _).crossCheck _ _).motionUpdate

theorem Placed.takeMarker (h : Placed s u) (id car : Byte) : Placed s (takeMarker id car u) := by
  unfold Machine.takeMarker judgeMarker
  dsimp only
  (repeat' split)
  · exact h.withMoe _
  · exact ((h.withMoe _).raise _ _).motionUpdate
  · exact ((h.withMoe _).raise _ _).motionUpdate
  · exact ((h.withMoe _).raise _ _).motionUpdate
  · exact h
  · exact (h.withMoe _).raise _ _

theorem Placed.expireChannel (h : Placed s u) (ch : ChannelId) : Placed s (expireChannel ch u) := by
  unfold Machine.expireChannel afterExpiry
  split
  · exact ((h.withMoe _).withMoe _).raise _ _
  · exact (h.withMoe _).withMoe _

theorem Placed.channelExpiry (h : Placed s u) (ch : ChannelId) : Placed s (channelExpiry ch u) := by
  unfold Machine.channelExpiry
  split
  · exact (h.expireChannel ch).motionUpdate
  · exact h

theorem Placed.stillTimerExpiry (h : Placed s u) : Placed s (stillTimerExpiry u) := by
  unfold Machine.stillTimerExpiry
  split
  · exact (h.withMoe _).motionUpdate
  · exact h

/-! ### New tables (R178, R180) -/

theorem Placed.expireIfDue (h : Placed s u) (ch : ChannelId) : Placed s (expireIfDue u ch) := by
  unfold Machine.expireIfDue
  split
  · exact h.expireChannel ch
  · exact h

theorem Placed.applyLineDoor (h : Placed s u) (l : Line) (car : Car) : Placed s (applyLineDoor l u car) := by
  simp only [Machine.applyLineDoor]
  (repeat' split)
  · exact (h.withDru _).lapse car
  · exact h.withDru _
  · exact h

theorem Placed.applyLine (h : Placed s u) (l : Line) : Placed s (applyLine l u) := by
  have hexpired : Placed s (allChannels.foldl Machine.expireIfDue (u.withMoe (u.moe.relined l))) := by
    simp only [allChannels, List.foldl]
    exact ((((h.withMoe _).expireIfDue .s1).expireIfDue .s2).expireIfDue .ca).expireIfDue .cb
  have hmoe : Placed s (applyLineMoe l u) := (hexpired.withMoe _).motionUpdate
  have hdrive : Placed s (applyLineDrive l (recomputeThresholds (applyLineMoe l u))) := hmoe.aside (by simp)
  simp only [Machine.applyLine, List.foldl]
  exact ((hdrive.applyLineDoor l .a).applyLineDoor l .b).withRpu _

theorem Placed.takeEffect (h : Placed s u) (mask : Byte) (wasPending : Bool) :
    Placed s (takeEffect mask wasPending u) := by
  have hlevels : Placed s (if names mask .reportLevel then Machine.applyReportLevel (copyTables mask u)
      else copyTables mask u) := by
    split
    · exact (h.withMga _).applyReportLevel
    · exact h.withMga _
  have hactivated := hlevels.raise .tableActivated
  simp only [Machine.takeEffect, noticeTables, raiseActivated]
  split
  · exact (hactivated _).applyLine _
  · split
    · exact (hactivated _).motionUpdate
    · exact hactivated _

theorem Placed.settle (h : Placed s u) (before : State) : Placed s (settle before u) := by
  unfold Machine.settle takePending
  dsimp only
  (repeat' split)
  · exact (h.withMga _).raise _ _
  · exact (h.withMga _).takeEffect _ _
  · exact h
  · exact h

/-! ### Admission (R131, R142–R148) -/

theorem Placed.countAdu (h : Placed s u) (c : AduCounter) : Placed s (countAdu c u) := h.aside rfl

theorem Placed.reportFull (h : Placed s u) (gate : Byte) (car : Car) : Placed s (reportFull gate car u) := by
  unfold Machine.reportFull
  split
  · exact h
  · exact (h.withAdu _).raise _ _

theorem Placed.takePass (h : Placed s u) (gate token : Byte) (g : Node) : Placed s (takePass gate token g u) := by
  have haged : Placed s (age u) := h.aside (by simp)
  simp only [Machine.takePass]
  generalize age u = v at haged
  split
  · unfold entryPass
    split
    · exact haged.aside (by simp)
    · exact ((haged.withAdu _).raise _ _).countAdu _
  · unfold exitPass exitAtBerth
    (repeat' split)
    · exact haged.aside rfl
    · exact haged.aside rfl
    · exact (haged.raise _ _).countAdu _
    · exact (haged.raise _ _).countAdu _

theorem Placed.grantExpiry (h : Placed s u) (gate : Byte) : Placed s (grantExpiry gate u) := by
  unfold Machine.grantExpiry
  (repeat' split)
  · exact ((h.withAdu _).raise _ _).countAdu _
  · exact h
  · exact h

/-! ### Requests of the console and the manager (R83–R92, R174–R186) -/

theorem Placed.decideLine (h : Placed s u) (command argument : Byte) :
    Placed s (decideLine command argument u).2 := by
  have hstop : Placed s (stopLine u).2 := by
    unfold stopLine
    split
    · exact h.returnToOrigin
    · exact h.demand _
    · exact h.demand _
    · exact h
    · exact h
    · exact h
  have hpark : Placed s (parkLine u).2 := by
    unfold parkLine parkGrants
    dsimp only
    (repeat' split)
    · exact h
    · exact h
    · exact (h.enterRest _ _ _).withAdu _
    · exact ((h.enterRest _ _ _).withAdu _).raise _ _
  unfold Machine.decideLine
  (repeat' split)
  · exact h.aside (by simp)
  · exact h.aside (by simp)
  · exact h.aside (by simp)
  · exact hstop
  · exact hpark
  · exact h

theorem Placed.decideActivate (h : Placed s u) (mask : Byte) : Placed s (decideActivate mask u).state := by
  unfold Machine.decideActivate activateNow
  (repeat' split)
  · exact h
  · exact h
  · exact h
  · exact h.takeEffect _ _
  · exact h.raise _ _
  · exact h.takeEffect _ _
  · exact h.aside rfl

theorem Placed.decideClearCounters (h : Placed s u) (group : Byte) :
    Placed s (decideClearCounters group u).state := by
  unfold Machine.decideClearCounters
  (repeat' split)
  · exact h.aside rfl
  · exact h.aside rfl
  · exact h.aside rfl
  · exact h.aside rfl
  · exact h

theorem Placed.decideReference (h : Placed s u) (stop : Byte) : Placed s (decideReference stop u).state := by
  unfold Machine.decideReference
  (repeat' split)
  · exact h
  · exact h
  · exact h
  · exact h
  · exact (h.withMoe _).motionUpdate

theorem Placed.decideAbort (h : Placed s u) : Placed s (decideAbort u).state := by
  unfold Machine.decideAbort abortWaiting
  (repeat' split)
  · exact (h.withTest _).raise _ _
  · exact h.withTest _
  · exact h
  · exact h

theorem Placed.decideReinit (h : Placed s u) : Placed s (decideReinit u).state := by
  unfold Machine.decideReinit
  split
  · exact Placed.motionUpdate (h.aside (by simp))
  · exact h

theorem Placed.decideRequest (h : Placed s u) (code : Byte) (body : List Byte) :
    Placed s (decideRequest code body u).state := by
  unfold Machine.decideRequest
  split
  · split
    · rename_i r _ _
      cases r with
      | activate => exact h.decideActivate _
      | clearCounters => exact h.decideClearCounters _
      | clearFlags => exact h.aside rfl
      | reference => exact h.decideReference _
      | manualTrip => exact h.trip _
      | brakeTestAbort => exact h.decideAbort
      | reinit => exact h.decideReinit
      | _ => exact h.aside (by simp [Request.decide])
    · exact h
  · exact h

/-! ### Expiries, the drive and the inputs (R49, R52, R59, R60, R89, R98) -/

theorem Placed.armExpiry (h : Placed s u) : Placed s (armExpiry u) := by
  unfold Machine.armExpiry
  split
  · exact h.returnToOrigin.raise _ _
  · exact h

theorem Placed.driveLost (h : Placed s u) : Placed s (driveLost u) := by
  unfold Machine.driveLost
  split
  · exact h
  · exact h.demand _

theorem Placed.takeDrive (h : Placed s u) (p : List Byte) : Placed s (takeDrive p u) := by
  simp only [Machine.takeDrive]
  split
  · exact h.withHlc _
  · exact (h.withHlc _).driveLost

theorem Placed.driveExpiry (h : Placed s u) : Placed s (driveExpiry u) := by
  unfold Machine.driveExpiry
  split
  · exact (h.withHlc _).driveLost
  · exact h

theorem Placed.supervisionExpiry (h : Placed s u) : Placed s (supervisionExpiry u) := by
  unfold Machine.supervisionExpiry judgePeriod
  dsimp only
  (repeat' split)
  · exact h.withBrs _
  · exact h.withBrs _
  · exact (h.withBrs _).trip _
  · exact h
  · exact h

theorem Placed.lossExpiry (h : Placed s u) : Placed s (lossExpiry u) := by
  unfold Machine.lossExpiry
  split
  · exact (h.withBrs _).trip _
  · exact h

theorem Placed.debounceExpiry (h : Placed s u) (p : Pin) : Placed s (debounceExpiry p u) := by
  simp only [Machine.debounceExpiry]
  (repeat' split)
  · exact (((h.withBrs _).withBrs _).raise _ _).trip _
  · exact h.withBrs _
  · exact h

end

end Sys2Proof.Machine

end

/-! ## The laws of the ring and of the set-points are kept (R46, R47, R158, R163, R165, R167)

The two laws are carried together: a frame that arrives enters the FIFO or is answered where there is room, a boundary
only takes frames out, and all else is `Placed`. -/

section

namespace Sys2Proof.Machine

/-! ### The two laws together -/

/-- Both laws are handed on from s to t. -/
structure RingKept (s t : State) : Prop where
  ring : RingSound s → RingSound t
  setpoints : SetpointSound s → SetpointSound t

theorem RingKept.trans {s t u : State} (h1 : RingKept s t) (h2 : RingKept t u) : RingKept s u :=
  ⟨fun h => h2.ring (h1.ring h), fun h => h2.setpoints (h1.setpoints h)⟩

/-- A state that holds no frame but those of s, and no more of the FIFO's places. -/
structure Drained (s t : State) : Prop where
  fifo : t.rif.fifo.Sublist s.rif.fifo
  used : t.rif.fifoUsed ≤ s.rif.fifoUsed
  force : ∀ f, t.rif.force = some f → s.rif.force = some f
  door : t.rif.door.Sublist s.rif.door
  reply : t.rif.reply.Sublist s.rif.reply
  report : t.rif.report.Sublist s.rif.report
  beacon : ∀ f, t.rif.beacon = some f → s.rif.beacon = some f
  count : s.rif.backToBack ≤ 4 → t.rif.backToBack ≤ 4

theorem Drained.kept {s t : State} (h : Drained s t) : RingKept s t where
  ring hs :=
    { fifo := h.used.trans hs.fifo
      door := hs.door.sublist (h.door.map _)
      reply := h.reply.length_le.trans hs.reply
      report := h.report.length_le.trans hs.report
      count := h.count hs.count }
  setpoints hs :=
    { force := fun f hf => hs.force f (h.force f hf)
      fifo := fun x hx => hs.fifo x (h.fifo.subset hx)
      door := fun x hx => hs.door x (h.door.subset hx)
      reply := fun f hf => hs.reply f (h.reply.subset hf)
      report := fun x hx => hs.report x (h.report.subset hx)
      beacon := fun f hf => hs.beacon f (h.beacon f hf) }

theorem Drained.of_traffic {s t : State} (h : t.rif.traffic = s.rif.traffic) : Drained s t where
  fifo := (congrArg Rif.fifo h :).symm ▸ List.Sublist.refl _
  used := (congrArg Rif.fifoUsed h :).le
  force _ hf := (congrArg Rif.force h :).symm.trans hf
  door := (congrArg Rif.door h :).symm ▸ List.Sublist.refl _
  reply := (congrArg Rif.reply h :).symm ▸ List.Sublist.refl _
  report := (congrArg Rif.report h :).symm ▸ List.Sublist.refl _
  beacon _ hf := (congrArg Rif.beacon h :).symm.trans hf
  count := (congrArg Rif.backToBack h :).le.trans

/-! ### Frames placed in the insertion classes (R47, R108, R166, R190) -/

/-- The frame placed in FORCE is a forced zero set-point (R47). -/
theorem ringKept_placeForce (s : State) : RingKept s (placeForce s) := by
  have hframe : (s.forcedZero s.rif.txSeq).kind = 0x20 ∧ (s.forcedZero s.rif.txSeq).payload = [0, 0, 0, 0, 4] := ⟨rfl, rfl⟩
  have hplaced : (placeForce s).rif.traffic = { s.rif with force := some (s.forcedZero s.rif.txSeq) }.traffic := by
    simp only [placeForce, State.withRif_rif]
    split <;> rfl
  refine RingKept.trans (t := s.withRif { s.rif with force := some (s.forcedZero s.rif.txSeq) }) ?_
    (Drained.of_traffic hplaced).kept
  exact ⟨fun hs => { hs with }, fun hs => { hs with force := fun f hf => by cases hf; exact hframe }⟩

/-- The DOOR class with a command put in its car-side slot, behind those that wait (R108). -/
def withSlot (doors : List DoorSlot) (car : Car) (side : Side) (f : Frame) : List DoorSlot :=
  doors.filter (fun x => !x.isFor car side) ++ [⟨car, side, f⟩]

theorem nodup_withSlot {doors : List DoorSlot} (h : (doors.map fun x => (x.car, x.side)).Nodup) (car : Car) (side : Side)
    (f : Frame) : ((withSlot doors car side f).map fun x => (x.car, x.side)).Nodup := by
  rw [withSlot, List.map_append, List.nodup_append]
  refine ⟨h.sublist (List.filter_sublist.map _), by simp, ?_⟩
  simp only [List.mem_map, List.mem_filter]
  rintro _ ⟨x, ⟨-, hother⟩, rfl⟩ _ ⟨y, hy, rfl⟩ hsame
  simp_all [DoorSlot.isFor]

theorem ringKept_placeDoor (car : Car) (side : Side) (action : DoorAction) (s : State) :
    RingKept s (placeDoor car side action s) := by
  let f := s.ownFrame 0x42 (s.addressOf (carRole car)) [sideCode side, action.code]
  have hplaced : (placeDoor car side action s).rif.traffic =
      { s.rif with door := withSlot s.rif.door car side f }.traffic := by
    simp only [placeDoor, State.withRif_rif]
    split <;> rfl
  refine RingKept.trans (t := s.withRif { s.rif with door := withSlot s.rif.door car side f }) ?_
    (Drained.of_traffic hplaced).kept
  refine ⟨fun hs => { hs with door := nodup_withSlot hs.door car side f }, fun hs => { hs with door := fun x hx => ?_ }⟩
  obtain hx | hx := List.mem_append.mp hx
  · exact hs.door x (List.mem_filter.mp hx).1
  · cases List.mem_singleton.mp hx
    exact (by decide : (0x42 : Byte) ≠ 0x20)

/-- A REPORT stands among those that wait, wherever it is put (R190). -/
theorem insertExpress_perm (x : ReportSlot) (slots : List ReportSlot) : (insertExpress x slots).Perm (x :: slots) := by
  induction slots with
  | nil => exact .refl _
  | cons y rest ih =>
    unfold insertExpress
    split
    · exact (ih.cons y).trans (.swap x y rest)
    · exact .refl _

theorem placeReport_perm (express : Bool) (payload : List Byte) (s : State) :
    (placeReport express payload s).rif.report.Perm
      (⟨s.ownFrame 0x70 s.maByte payload, express⟩ :: s.rif.report) := by
  cases express with
  | true => exact insertExpress_perm _ _
  | false => exact List.perm_append_singleton _ _

theorem ringKept_placeReport {s : State} (hroom : s.rif.report.length < 8) (express : Bool) (payload : List Byte) :
    RingKept s (placeReport express payload s) := by
  have hperm := placeReport_perm express payload s
  refine ⟨fun hs => { hs with report := by rw [hperm.length_eq]; exact hroom }, fun hs => { hs with report := fun x hx => ?_ }⟩
  obtain rfl | hx := List.mem_cons.mp (hperm.mem_iff.mp hx)
  · exact (by decide : (0x70 : Byte) ≠ 0x20)
  · exact hs.report x hx

theorem ringKept_placeBeacon (payload : List Byte) (s : State) : RingKept s (placeBeacon payload s) := by
  let f := s.ownFrame 0x71 s.maByte payload
  have hplaced : (placeBeacon payload s).rif.traffic = { s.rif with beacon := some f }.traffic := by
    simp only [placeBeacon, State.withRif_rif]
    split <;> rfl
  refine RingKept.trans (t := s.withRif { s.rif with beacon := some f }) ?_ (Drained.of_traffic hplaced).kept
  refine ⟨fun hs => { hs with }, fun hs => { hs with beacon := fun f hf => ?_ }⟩
  cases hf
  exact (by decide : (0x71 : Byte) ≠ 0x20)

/-- What the other blocks place keeps both laws. -/
theorem Placed.kept {s t : State} (h : Placed s t) : RingKept s t := by
  induction h with
  | start => exact ⟨id, id⟩
  | aside _ ht ih => exact ih.trans (Drained.of_traffic ht).kept
  | force _ ih => exact ih.trans (ringKept_placeForce _)
  | door _ car side action ih => exact ih.trans (ringKept_placeDoor car side action _)
  | report _ hroom express payload ih => exact ih.trans (ringKept_placeReport hroom express payload)
  | beacon _ payload ih => exact ih.trans (ringKept_placeBeacon payload _)

/-! ### Frames that enter the FIFO or REPLY (R158, R163, R164) -/

/-- A place of the FIFO whose note fits its frame: a SETPOINT, and it alone, waits with a role judgement (R163). -/
def FifoEntry.Judged (x : FifoEntry) : Prop :=
  (x.frame.kind = 0x20 ↔ x.note = .consoleSetpoint ∨ x.note = .zeroedSetpoint) ∧
    (x.frame.kind = 0x20 → x.frame.payload.length = 5)

theorem FifoEntry.judged_plain {f : Frame} (h : f.kind ≠ 0x20) : FifoEntry.Judged ⟨f, .plain⟩ :=
  ⟨iff_of_false h (by simp), fun hf => absurd hf h⟩

theorem FifoEntry.judged_setpoint {f : Frame} (h : f.kind = 0x20) (hlen : f.payload.length = 5) {note : FifoNote}
    (hnote : note = .consoleSetpoint ∨ note = .zeroedSetpoint) : FifoEntry.Judged ⟨f, note⟩ :=
  ⟨iff_of_true h hnote, fun _ => hlen⟩

theorem SameOwn.fifoUsed {s t : State} (h : SameOwn s t) : t.rif.fifoUsed = s.rif.fifoUsed := by
  simp only [Rif.fifoUsed, h.fifo, h.sending]

theorem ringKept_pushFifo {s : State} (hroom : s.rif.fifoUsed < 8) {f : Frame} {note : FifoNote}
    (hf : FifoEntry.Judged ⟨f, note⟩) : RingKept s (pushFifo f note s) := by
  have hused : (pushFifo f note s).rif.fifoUsed = s.rif.fifoUsed + 1 := by
    simp [pushFifo, Rif.fifoUsed, Nat.add_right_comm]
  refine ⟨fun hs => { hs with fifo := by omega }, fun hs => { hs with fifo := fun x hx => ?_ }⟩
  obtain hx | hx := List.mem_append.mp hx
  · exact hs.fifo x hx
  · cases List.mem_singleton.mp hx
    exact hf

/-- The room found by the receive checks stands until the frame enters the FIFO. -/
theorem Placed.push {s u : State} (h : Placed s u) (hroom : s.rif.fifoUsed < 8) {f : Frame} {note : FifoNote}
    (hf : FifoEntry.Judged ⟨f, note⟩) : RingKept s (pushFifo f note u) :=
  h.kept.trans (ringKept_pushFifo (h.sameOwn.fifoUsed.trans_lt hroom) hf)

/-- The room found before a request is taken stands until it is answered (R164). -/
theorem Placed.reply {s u : State} (h : Placed s u) (hroom : s.rif.reply.length < 4) (req : Frame) {kind : Byte}
    (hkind : kind ≠ 0x20) (payload : List Byte) : RingKept s (placeReply req kind payload u) := by
  refine h.kept.trans ⟨fun hs => { hs with reply := ?_ }, fun hs => { hs with reply := fun f hf => ?_ }⟩
  · have hsame := congrArg List.length h.sameOwn.reply
    simp only [placeReply, State.withRif_rif, List.length_append, List.length_singleton]
    omega
  · obtain hf | hf := List.mem_append.mp hf
    · exact hs.reply f hf
    · cases List.mem_singleton.mp hf
      exact hkind

/-! ### Frames on IN (R156–R164) -/

theorem FrameKind.ofCode_ne_setpoint {c : Byte} (h : c ≠ 0x20) : FrameKind.ofCode c ≠ .setpoint := by
  have hite : ∀ (p : Prop) [Decidable p] {x y : FrameKind}, x ≠ .setpoint → y ≠ .setpoint →
      (if p then x else y) ≠ .setpoint := fun p _ x y hx hy => by split <;> assumption
  rw [FrameKind.ofCode, if_neg h]
  repeat' apply hite
  all_goals decide

section

variable {s : State} {f : Frame}

theorem placed_countRing (c : RingCounter) (s : State) : Placed s (countRing c s) := Placed.start.aside rfl

theorem placed_mismatch (f : Frame) (outcome : Byte) (s : State) : Placed s (mismatch f outcome s) :=
  (placed_countRing _ s).raise _ _

theorem placed_dropFrame (e : LinkError) (s : State) : Placed s (dropFrame e s) := by
  have hcounted : Placed s (s.withRif ((s.rif.count e.counter).setFlag e)) :=
    Placed.start.aside (by cases e <;> rfl)
  simp only [dropFrame]
  split
  · exact hcounted
  · exact hcounted.raise _ _

theorem ringKept_dealRead (hroom : s.rif.fifoUsed < 8) (hkind : f.kind ≠ 0x20) (len : Nat)
    {hand : Option (State → State)} (hh : ∀ act, hand = some act → ∀ u, Placed u (act u)) :
    RingKept s (dealRead f len hand s) := by
  have hpush : ∀ u, Placed s u → RingKept s (pushFifo f .plain u) := fun u hu =>
    hu.push hroom (FifoEntry.judged_plain hkind)
  unfold dealRead passUnread rejectRead readFrame
  (repeat' split)
  · exact (placed_countRing _ s).kept
  · exact hpush _ (placed_countRing _ s)
  · exact (placed_countRing _ s).kept.trans (hh _ rfl _).kept
  · exact (hpush _ .start).trans (hh _ rfl _).kept
  · exact (placed_mismatch f 2 s).kept
  · exact (hpush _ .start).trans (placed_mismatch f 1 _).kept

theorem ringKept_dealRequest (hroom : s.rif.fifoUsed < 8) (hkind : f.kind ≠ 0x20) (lengthOk roleOk : Bool)
    {hand : State → State} (hh : ∀ u, u.rif.reply.length < 4 → RingKept u (hand u)) :
    RingKept s (dealRequest f lengthOk roleOk hand s) := by
  have hpush : ∀ u, Placed s u → RingKept s (pushFifo f .plain u) := fun u hu =>
    hu.push hroom (FifoEntry.judged_plain hkind)
  unfold dealRequest takeIfRoom
  split
  · (repeat' split)
    · exact (placed_countRing _ s).kept
    · exact (placed_mismatch f 2 s).kept
    · exact (placed_countRing _ s).kept.trans (hh _ ‹_›)
    · exact ((placed_countRing _ s).raise _ _).kept
  · refine hpush _ ?_
    split
    · exact .start
    · exact placed_countRing _ s

theorem ringKept_takeTicket (hroom : s.rif.fifoUsed < 8) (hkind : f.kind ≠ 0x20) : RingKept s (takeTicket f s) := by
  have haged : Placed s (age s) := Placed.start.aside (by simp)
  have hanswer : ∀ u, Placed s u → ∀ v b t, RingKept s (pushFifo ((age s).answer f v b t) .answered u) :=
    fun u hu v b t => hu.push hroom ⟨iff_of_false hkind (by simp), fun hf => absurd hf hkind⟩
  unfold takeTicket
  dsimp only
  split
  · exact (hanswer _ (haged.aside (by simp)) _ _ _).trans (Placed.start.countAdu _).kept
  · exact (hanswer _ haged _ _ _).trans ((Placed.start.countAdu _).reportFull _ _).kept
  · exact (hanswer _ haged _ _ _).trans (Placed.start.countAdu _).kept

theorem ringKept_dealTicket (hroom : s.rif.fifoUsed < 8) (hkind : f.kind ≠ 0x20) : RingKept s (dealTicket f s) := by
  have hpush : ∀ u, Placed s u → RingKept s (pushFifo f .plain u) := fun u hu =>
    hu.push hroom (FifoEntry.judged_plain hkind)
  have htaken : ∀ u, Placed s u → RingKept s (countRing .rewritten (takeTicket f u)) := fun u hu =>
    (hu.kept.trans (ringKept_takeTicket (hu.sameOwn.fifoUsed.trans_lt hroom) hkind)).trans (placed_countRing _ _).kept
  unfold dealTicket
  split
  · exact hpush _ .start
  split
  · exact hpush _ (Placed.start.countAdu _)
  split
  · exact hpush _ .start
  · refine htaken _ ?_
    split
    · exact .start
    · exact placed_mismatch f 4 s

theorem ringKept_dealGatePass (hroom : s.rif.fifoUsed < 8) (hkind : f.kind ≠ 0x20) :
    RingKept s (dealGatePass f s) := by
  unfold dealGatePass
  dsimp only
  (repeat' split)
  · exact Placed.start.push hroom (FifoEntry.judged_plain hkind)
  · exact (placed_mismatch f 2 s).kept
  · exact ((placed_countRing _ s).countAdu _).kept
  · exact ((placed_countRing _ s).takePass _ _ _).kept
  · exact (placed_mismatch f 2 s).kept

theorem ringKept_dealSetpoint (hroom : s.rif.fifoUsed < 8) (hkind : f.kind = 0x20) :
    RingKept s (dealSetpoint f s) := by
  unfold dealSetpoint
  split
  · exact (placed_countRing _ s).kept
  rename_i hlen
  have hjudged {note} := FifoEntry.judged_setpoint hkind (not_not.mp hlen) (note := note)
  split
  · exact Placed.start.push hroom (hjudged (.inl rfl))
  · exact (Placed.start.push hroom (hjudged (.inr rfl))).trans (placed_mismatch f 3 _).kept

theorem ringKept_dealKind (hroom : s.rif.fifoUsed < 8) : RingKept s (dealKind f s) := by
  by_cases hkind : f.kind = 0x20
  · have hk : FrameKind.ofCode f.kind = .setpoint := by rw [hkind]; decide
    rw [dealKind, hk]
    exact ringKept_dealSetpoint hroom hkind
  cases hk : FrameKind.ofCode f.kind <;> simp only [dealKind, hk]
  case setpoint => exact absurd hk (FrameKind.ofCode_ne_setpoint hkind)
  case sampleSheave =>
    refine ringKept_dealRead hroom hkind 7 fun act hact u => ?_
    obtain ⟨ch, -, rfl⟩ := Option.map_eq_some_iff.mp hact
    exact Placed.start.takeSample _ _ _
  case sampleCar =>
    refine ringKept_dealRead hroom hkind 7 fun act hact u => ?_
    obtain ⟨car, -, rfl⟩ := Option.map_eq_some_iff.mp hact
    exact Placed.start.takeSample _ _ _
  case marker =>
    refine ringKept_dealRead hroom hkind 2 fun act hact u => ?_
    cases (Option.ite_none_right_eq_some.mp hact).2
    exact Placed.start.takeMarker _ _
  case driveStatus =>
    refine ringKept_dealRead hroom hkind 4 fun act hact u => ?_
    cases (Option.ite_none_right_eq_some.mp hact).2
    exact Placed.start.takeDrive _
  case doorState =>
    refine ringKept_dealRead hroom hkind 2 fun act hact u => ?_
    obtain ⟨car, -, rfl⟩ := Option.map_eq_some_iff.mp hact
    exact Placed.start.takeDoorReport _ _ _
  case ticket => exact ringKept_dealTicket hroom hkind
  case gatePass => exact ringKept_dealGatePass hroom hkind
  case doorReq =>
    exact ringKept_dealRequest hroom hkind _ _ fun u hu => (Placed.start.decideDoor _ _ _).reply hu f (by decide) _
  case lineCmd =>
    exact ringKept_dealRequest hroom hkind _ _ fun u hu => (Placed.start.decideLine _ _).reply hu f (by decide) _
  case mgmtReq =>
    exact ringKept_dealRequest hroom hkind _ _ fun u hu => (Placed.start.decideRequest _ _).reply hu f (by decide) _
  case unhandled =>
    unfold dealUnhandled
    split
    · exact (placed_countRing _ s).kept
    · exact Placed.start.push hroom (FifoEntry.judged_plain hkind)
  case other => exact Placed.start.push hroom (FifoEntry.judged_plain hkind)

theorem ringKept_disposeFault (hroom : s.rif.fifoUsed < 8) : RingKept s (disposeFault f s) := by
  unfold disposeFault
  split
  · split
    · exact Placed.start.push hroom (FifoEntry.judged_setpoint ‹_› ‹_› (.inr rfl))
    · exact (placed_countRing _ s).kept
  · exact Placed.start.push hroom (FifoEntry.judged_plain ‹_›)

/-- Only a run of bytes that finds room is a frame (R158). -/
theorem used_of_receive {used : Nat} {rx : List Byte} (h : receive used rx = .frame f) : used < 8 := by
  contrapose! h
  simp only [receive, if_pos h]
  (repeat' split) <;> simp

theorem ringKept_takeFrame (rx : List Byte) (s : State) : RingKept s (takeFrame rx s) := by
  unfold takeFrame
  split
  · exact (placed_dropFrame _ s).kept
  · exact (placed_dropFrame _ s).kept
  · exact (placed_dropFrame _ s).kept
  · rename_i hframe
    have hroom := used_of_receive hframe
    split
    · exact ringKept_disposeFault hroom
    · unfold disposeGood
      split
      · exact (placed_countRing _ s).kept
      · exact ringKept_dealKind hroom

end

/-! ### Boundaries on OUT (R167) -/

theorem Placed.startRun {s u : State} (h : Placed s u) : Placed s (startRun u) := by
  have hrun : Placed s (envEvaluate (u.withHlc { u.hlc with state := .running, berth := none, armTimer := none })) :=
    h.aside (by simp)
  exact (hrun.raise _ _).judgeLoss

/-- A forwarded frame leaves, and what the start of a run places follows (R88). -/
theorem placed_sendForward (x : FifoEntry) (s : State) : Placed (putOut (s.leaving x) true s) (sendForward x s) := by
  unfold sendForward State.leaving
  cases x.note with
  | consoleSetpoint =>
    simp only [sendConsole]
    split
    · exact (placed_countRing _ _).startRun
    · exact placed_countRing _ _
  | answered => exact .start
  | _ => exact placed_countRing _ _

section

variable {s t : State}

/-- The oldest frame of the FIFO leaves; it holds its place while OUT sends it (R158). -/
theorem drained_of_oldest {x : FifoEntry} {rest : List FifoEntry} (hfifo : s.rif.fifo = x :: rest) {n : Nat}
    (hn : s.rif.backToBack ≤ 4 → n ≤ 4) (f : Frame) :
    Drained s (putOut f true (setCount n (s.withRif { s.rif with fifo := rest }))) where
  fifo := hfifo ▸ List.sublist_cons_self x rest
  used := by simp [putOut, setCount, Rif.fifoUsed, hfifo]
  force _ hf := hf
  door := .refl _
  reply := .refl _
  report := .refl _
  beacon _ hf := hf
  count := hn

/-- OUT takes an inserted frame or none: the FIFO stands, and of the other classes nothing is added (R165). -/
theorem drained_of_inserted (hfifo : t.rif.fifo = s.rif.fifo)
    (hsending : ∀ x, t.rif.sending = some x → x.fromFifo = false)
    (hforce : ∀ f, t.rif.force = some f → s.rif.force = some f) (hdoor : t.rif.door.Sublist s.rif.door)
    (hreply : t.rif.reply.Sublist s.rif.reply) (hreport : t.rif.report.Sublist s.rif.report)
    (hbeacon : ∀ f, t.rif.beacon = some f → s.rif.beacon = some f)
    (hcount : s.rif.backToBack ≤ 4 → t.rif.backToBack ≤ 4) : Drained s t where
  fifo := hfifo ▸ .refl _
  used := by
    cases hs : t.rif.sending with
    | none => simp [Rif.fifoUsed, hfifo, hs]
    | some x => simp [Rif.fifoUsed, hfifo, hs, hsending x hs]
  force := hforce
  door := hdoor
  reply := hreply
  report := hreport
  beacon := hbeacon
  count := hcount

theorem sublist_of_eq_cons {α : Type} {xs rest : List α} {x : α} (h : xs = x :: rest) : rest.Sublist xs :=
  h ▸ List.sublist_cons_self x rest

theorem fromFifo_of_inserted {f : Frame} (x : Sending) (h : some (⟨f, false⟩ : Sending) = some x) : x.fromFifo = false := by
  cases h
  rfl

/-- OUT idles: the state differs in the count of a run of forwarded frames alone (R167). -/
theorem drained_of_idle (hidle : s.rif.sending = none) : Drained s (setCount 0 s) :=
  drained_of_inserted rfl (fun _ hx => nomatch hidle.symm.trans hx) (fun _ => id) (.refl _) (.refl _) (.refl _)
    (fun _ => id) fun _ => Nat.zero_le 4

theorem ringKept_sendInsertion (hidle : s.rif.sending = none) : RingKept s (sendInsertion s) := by
  unfold sendInsertion
  dsimp only
  split
  next hdoor =>
    exact Drained.kept (drained_of_inserted rfl fromFifo_of_inserted (fun _ => id) (sublist_of_eq_cons hdoor) (.refl _)
      (.refl _) (fun _ => id) fun _ => Nat.zero_le 4)
  next hreply =>
    exact Drained.kept (drained_of_inserted rfl fromFifo_of_inserted (fun _ => id) (.refl _) (sublist_of_eq_cons hreply)
      (.refl _) (fun _ => id) fun _ => Nat.zero_le 4)
  next hreport =>
    refine RingKept.trans (Drained.kept ?_) Placed.start.selectReports.kept
    exact drained_of_inserted rfl fromFifo_of_inserted (fun _ => id) (.refl _) (.refl _) (sublist_of_eq_cons hreport)
      (fun _ => id) fun _ => Nat.zero_le 4
  next =>
    exact Drained.kept (drained_of_inserted rfl fromFifo_of_inserted (fun _ => id) (.refl _) (.refl _) (.refl _)
      (fun _ hf => nomatch hf) fun _ => Nat.zero_le 4)
  next => exact (drained_of_idle hidle).kept

theorem ringKept_sendForward {x : FifoEntry} {rest : List FifoEntry} (hfifo : s.rif.fifo = x :: rest) {n : Nat}
    (hn : s.rif.backToBack ≤ 4 → n ≤ 4) :
    RingKept s (sendForward x (setCount n (s.withRif { s.rif with fifo := rest }))) :=
  (drained_of_oldest hfifo hn _).kept.trans (placed_sendForward x _).kept

theorem ringKept_arbitrate (hidle : s.rif.sending = none) : RingKept s (arbitrate s) := by
  have hturn : RingKept s (sendInsertion (countRing .insertTurns s)) :=
    (placed_countRing _ s).kept.trans (ringKept_sendInsertion hidle)
  unfold arbitrate
  dsimp only
  split
  next =>
    exact Drained.kept (drained_of_inserted rfl fromFifo_of_inserted (fun _ hf => nomatch hf) (.refl _) (.refl _) (.refl _)
      (fun _ => id) id)
  next x rest _ hfifo =>
    split
    · exact hturn
    · rename_i hfree
      refine ringKept_sendForward hfifo fun hcount => ?_
      split
      · have hless : s.rif.backToBack ≠ 4 := fun h => hfree ⟨h, ‹_›⟩
        omega
      · exact Nat.zero_le 4
  next =>
    split
    · exact hturn
    · exact ringKept_sendInsertion hidle

theorem ringKept_arbitrateFault (hidle : s.rif.sending = none) : RingKept s (arbitrateFault s) := by
  unfold arbitrateFault
  split
  next hfifo => exact ringKept_sendForward hfifo fun _ => Nat.zero_le 4
  next => exact (drained_of_idle hidle).kept

/-- The frame that OUT was sending has left. -/
theorem ringKept_sent (s : State) : RingKept s (s.withRif { s.rif with sending := none }) :=
  Drained.kept (drained_of_inserted rfl (fun _ hx => nomatch hx) (fun _ => id) (.refl _) (.refl _) (.refl _) (fun _ => id) id)

theorem ringKept_holdInReset (s : State) : RingKept s (holdInReset s) :=
  (ringKept_sent s).trans (Drained.kept (.of_traffic rfl))

theorem ringKept_boundary (s : State) : RingKept s (boundary s) := by
  refine (ringKept_sent s).trans ?_
  unfold boundary
  dsimp only
  split
  · exact ringKept_arbitrateFault rfl
  · exact ringKept_arbitrate rfl

end

/-! ### Every step -/

theorem ringKept_rowAct (c : Instr) (s : State) : RingKept s (rowAct c s) := by
  unfold rowAct
  split
  · exact ringKept_takeFrame _ s
  · have hplaced : Placed s s := .start
    cases c with
    | rawLevelChange _ pin level => exact (hplaced.aside (by simp [edgeAct])).kept
    | debounceExpiry _ pin => exact (hplaced.debounceExpiry pin).kept
    | channelExpiry _ ch => exact (hplaced.channelExpiry ch).kept
    | stillTimerExpiry _ => exact hplaced.stillTimerExpiry.kept
    | lossTimerExpiry _ => exact hplaced.lossExpiry.kept
    | supervisionPeriodExpiry _ => exact hplaced.supervisionExpiry.kept
    | armExpiry _ => exact hplaced.armExpiry.kept
    | driveExpiry _ => exact hplaced.driveExpiry.kept
    | doorStateLost _ car => exact (hplaced.freshnessExpiry car).kept
    | releaseExpiry _ car side => exact (hplaced.releaseExpiry car side).kept
    | closeExpiry _ car side => exact (hplaced.closeExpiry car side).kept
    | grantExpiry _ gate => exact (hplaced.grantExpiry gate).kept
    | outBoundary _ => exact ringKept_boundary s
    | frameForward _ rx => exact ringKept_takeFrame rx s
    | beaconExpiry _ => exact hplaced.beaconExpiry.kept
    | _ => exact hplaced.kept

/-- The release of reset leaves no frame but the forced set-point and the REPORT of an opened chain (R47, R64). -/
theorem powerOn_ringLaws (oa ma : BitVec 6) (chain key : Level) (s : State) :
    RingSound (powerOn oa ma chain key s) ∧ SetpointSound (powerOn oa ma chain key s) := by
  have hsound : RingSound (s.withRif .reset) ∧ SetpointSound (s.withRif .reset) := by
    constructor <;> constructor <;> simp [Rif.reset, Rif.fifoUsed]
  have hreleased : Placed (s.withRif .reset) (powerOn oa ma chain key s) := by
    have hstart : ∀ u : State, u.rif = .reset → Placed (s.withRif .reset) u := fun u hu =>
      Placed.start.aside (congrArg Rif.traffic hu)
    simp only [powerOn]
    (repeat' split)
    · exact Placed.raise (hstart _ rfl) _ _
    · exact hstart _ rfl
    · exact (Placed.raise (hstart _ rfl) _ _).force
    · exact (hstart _ rfl).force
  exact ⟨hreleased.kept.ring hsound.1, hreleased.kept.setpoints hsound.2⟩

theorem ringKept_timed (elapsed : Time) (c : Instr) (s : State) :
    RingKept s (settle (begin elapsed s) (rowAct c (begin elapsed s))) := by
  have hbegun : Placed s (begin elapsed s) := Placed.start.aside rfl
  exact (hbegun.kept.trans (ringKept_rowAct c _)).trans (Placed.start.settle _).kept

/-- Settles O7: both laws hold at the release, and every act hands both on to the end of its step. -/
theorem everyStepKeepsTheRingAndSetpointLaws : Obligations.EveryStepKeepsTheRingAndSetpointLaws := by
  unfold Obligations.EveryStepKeepsTheRingAndSetpointLaws
  refine ⟨fun s t h ht => ?ring, fun s t h ht => ?setpoints⟩
  case ring =>
    exact step_keeps (P := RingSound) (fun oa ma chain key s => (powerOn_ringLaws oa ma chain key s).1)
      (fun s h => (ringKept_holdInReset s).ring h) (fun _ _ h => { h with })
      (fun elapsed c s h => (ringKept_timed elapsed c s).ring h) h ht
  case setpoints =>
    exact step_keeps (P := SetpointSound) (fun oa ma chain key s => (powerOn_ringLaws oa ma chain key s).2)
      (fun s h => (ringKept_holdInReset s).setpoints h) (fun _ _ h => { h with })
      (fun elapsed c s h => (ringKept_timed elapsed c s).setpoints h) h ht

end Sys2Proof.Machine

end

/-! ## The step, the receive checks and the frames that no block takes (R156, R158–R163) -/

section

namespace Sys2Proof.Machine

/-- Settles O1: the two equations of the step. -/
theorem stepRunsTheFrontCommand : Obligations.StepRunsTheFrontCommand := by
  unfold Obligations.StepRunsTheFrontCommand
  exact ⟨fun c rest s h => by simp only [step, h], fun s h => by simp only [step, h]⟩

/-! ### The receive checks (R158) -/

theorem receive_of_length {rx : List Byte} (h : rx.length < 7 ∨ 63 < rx.length) (used : Nat) :
    receive used rx = .formatError := by
  simp only [receive, if_pos h]

section

variable {rx : List Byte} (hlow : 7 ≤ rx.length) (hhigh : rx.length ≤ 63)

include hlow hhigh

theorem receive_of_crc (h : crc16 (rx.take (rx.length - 2)) ≠ wordAt rx (rx.length - 2)) (used : Nat) :
    receive used rx = .crcError := by
  have hlength : ¬ (rx.length < 7 ∨ 63 < rx.length) := by omega
  simp only [receive, if_neg hlength, if_pos h]

theorem receive_of_field (hcrc : crc16 (rx.take (rx.length - 2)) = wordAt rx (rx.length - 2))
    (h : rx.length ≠ (byteAt rx 4).toNat + 7) (used : Nat) : receive used rx = .formatError := by
  have hlength : ¬ (rx.length < 7 ∨ 63 < rx.length) := by omega
  simp only [receive, if_neg hlength, if_neg (not_not.mpr hcrc), if_pos (Or.inr h)]

end

/-- A frame that would be received finds the FIFO full. -/
theorem receive_of_full {used' used : Nat} {rx : List Byte} {f : Frame} (hf : receive used' rx = .frame f)
    (h : 8 ≤ used) : receive used rx = .overrun := by
  have hroom := used_of_receive hf
  revert hf
  simp only [receive, if_pos h, if_neg (Nat.not_le.mpr hroom)]
  (repeat' split) <;> simp

/-! ### Drops (R158, R159) -/

/-- The outcome of the receive checks that a link error stands for. -/
def LinkError.received : LinkError → Received
  | .crc => .crcError
  | .format => .formatError
  | .overrun => .overrun

theorem takeFrame_of_error {rx : List Byte} {s : State} {err : LinkError}
    (h : receive s.rif.fifoUsed rx = err.received) : takeFrame rx s = dropFrame err s := by
  cases err <;> simp only [takeFrame, h, LinkError.received]

@[simp] theorem Rif.setFlag_counters (r : Rif) (err : LinkError) : (r.setFlag err).counters = r.counters := by
  cases err <;> rfl

theorem Rif.count_counter (r : Rif) (c : RingCounter) : (r.count c).counters[c.idx] = satAdd r.counters[c.idx] 1 :=
  (bumpBy_get _ _ _ _).trans (if_pos rfl)

/-- With good straps a drop is raised as LINK_ERROR, with its code and the new count (R158). -/
theorem dropFrame_of_good {s : State} (hstraps : s.strapFault = false) (err : LinkError) :
    dropFrame err s = raise .linkError (err.code ++ (0 : Byte) ++ satAdd s.rif.counters[err.counter.idx] 1)
      { s with rif := (s.rif.count err.counter).setFlag err } := by
  simp only [dropFrame, if_neg (ne_true_of_eq_false hstraps), Rif.setFlag_counters, Rif.count_counter]
  rfl

/-- Under a strap fault a drop is counted and flagged, and nothing is raised (R156). -/
theorem dropFrame_of_fault {s : State} (hstraps : s.strapFault = true) (err : LinkError) :
    dropFrame err s = { s with rif := (s.rif.count err.counter).setFlag err } := by
  simp only [dropFrame, if_pos hstraps]
  rfl

section

variable {s : State} {e : Time} {rx : List Byte} {err : LinkError}

/-- A run of bytes that fails a receive check is dropped, and the step ends there. -/
theorem exec_of_error (hrun : s.inReset = false) (h : receive s.rif.fifoUsed rx = err.received) :
    exec (.frameForward e rx) s = .next (dropFrame err (begin e s)) := by
  have hact : rowAct (.frameForward e rx) (begin e s) = dropFrame err (begin e s) :=
    takeFrame_of_error (s := begin e s) h
  rw [exec_of_running (e := e) rfl hrun, hact, settle_of_same (by simp)]

theorem exec_of_error_of_good (hrun : s.inReset = false) (hstraps : s.strapFault = false)
    (h : receive s.rif.fifoUsed rx = err.received) : exec (.frameForward e rx) s = .next (raise .linkError
      (err.code ++ (0 : Byte) ++ satAdd s.rif.counters[err.counter.idx] 1)
      { begin e s with rif := (s.rif.count err.counter).setFlag err }) := by
  rw [exec_of_error hrun h, dropFrame_of_good (s := begin e s) hstraps]
  rfl

theorem exec_of_error_of_fault (hrun : s.inReset = false) (hstraps : s.strapFault = true)
    (h : receive s.rif.fifoUsed rx = err.received) : exec (.frameForward e rx) s = .next
      { begin e s with rif := (s.rif.count err.counter).setFlag err } := by
  rw [exec_of_error hrun h, dropFrame_of_fault (s := begin e s) hstraps]
  rfl

end

/-! ### The frames that no block takes (R160, R163) -/

/-- A frame that the part has sent itself is stripped (R160). -/
theorem exec_stripped {s : State} {arr : Arrival} {kind : Byte} {payload : List Byte} (h : Arrives s arr kind payload)
    (hown : arr.src = s.oaByte) : exec (.stripped arr kind payload) s =
      .next { begin arr.elapsed s with rif := s.rif.count .stripped } := by
  have hexec : exec (.stripped arr kind payload) s = .next (performFrame arr kind payload s) := rfl
  have hsrc : (frameOf arr kind payload).src = (begin arr.elapsed s).oaByte := hown
  rw [hexec, performFrame_of_arrives h, disposeGood, if_pos hsrc, settle_of_same (by simp)]
  rfl

theorem ofCode_of_unhandled {kind : Byte} (h : kind = 0x42 ∨ kind = 0x51 ∨ kind = 0x61 ∨ kind = 0x70 ∨ kind = 0x71) :
    FrameKind.ofCode kind = .unhandled := by
  obtain rfl | rfl | rfl | rfl | rfl := h <;> decide

theorem dealUnhandled_eq (f : Frame) (s : State) : dealUnhandled f s =
    { s with rif := if f.dst = s.oaByte then s.rif.count .unhandled else s.forwarded f .plain } := by
  unfold dealUnhandled
  split <;> rfl

/-- Settles O42: the receive checks say what is dropped; of the frames received, none of these is handed to a block. -/
theorem receivedFramesAreDisposed : Obligations.ReceivedFramesAreDisposed := by
  unfold Obligations.ReceivedFramesAreDisposed
  refine ⟨fun s e rx hrun hstraps => ?bytes, fun s arr kind payload h hown => exec_stripped h hown,
    fun s arr kind payload h hfrom hkind => ?unhandled, fun s arr payload h hfrom => ?setpoint⟩
  case bytes =>
    intro dropped
    refine ⟨fun h => ?_, fun hlow hhigh h => ?_, fun hlow hhigh hcrc h => ?_,
      fun f hrx hlen => ⟨fun hfull => ?_, fun hroom hsrc hother => ?_⟩⟩
    · exact exec_of_error_of_good (err := .format) hrun hstraps (receive_of_length h _)
    · exact exec_of_error_of_good (err := .crc) hrun hstraps (receive_of_crc hlow hhigh h _)
    · exact exec_of_error_of_good (err := .format) hrun hstraps (receive_of_field hlow hhigh hcrc h _)
    · have hframe := receive_wire (used := 0) (by omega) hlen
      rw [← hrx] at hframe
      exact exec_of_error_of_good (err := .overrun) hrun hstraps (receive_of_full hframe hfull)
    · have hact : rowAct (.frameForward e rx) (begin e s) = dealKind f (begin e s) := by
        rw [hrx]
        exact takeFrame_wire (s := begin e s) hstraps hroom hlen hsrc
      simp only [dealKind, hother] at hact
      rw [exec_of_running (e := e) rfl hrun, hact, settle_of_same (by simp)]
      rfl
  case unhandled =>
    have hcode : FrameKind.ofCode (frameOf arr kind payload).kind = .unhandled := ofCode_of_unhandled hkind
    refine exec_of_dealt rfl h hfrom ?_ rfl
    simp only [dealKind, hcode, dealUnhandled_eq]
    rfl
  case setpoint =>
    have hdeal : dealKind (frameOf arr 0x20 payload) (begin arr.elapsed s) =
        dealSetpoint (frameOf arr 0x20 payload) (begin arr.elapsed s) := rfl
    refine ⟨fun hlen => exec_of_dealt rfl h hfrom ?_ rfl, fun hlen hrole => exec_of_dealt rfl h hfrom ?_ rfl,
      fun hlen hrole => exec_of_dealt rfl h hfrom ?_ (by simp)⟩
    · rw [hdeal, dealSetpoint, if_pos (by exact hlen)]
      rfl
    · rw [hdeal, dealSetpoint, if_neg (by exact not_not.mpr hlen), if_pos (by exact hrole)]
      rfl
    · rw [hdeal, dealSetpoint, if_neg (by exact not_not.mpr hlen), if_neg (by exact hrole)]
      rfl

end Sys2Proof.Machine

end

/-! ## Boundaries on OUT, and the part under a strap fault (R156, R165, R167, R168) -/

section

namespace Sys2Proof.Machine

/-! ### The choice with good straps (R167) -/

theorem insertWaits_iff (r : Rif) :
    r.insertWaits = true ↔ r.door ≠ [] ∨ r.reply ≠ [] ∨ r.report ≠ [] ∨ r.beacon ≠ none := by
  simp [Rif.insertWaits, Option.isSome_iff_ne_none, or_assoc]

section

variable {s : State}

/-- The state in which the arbiter chooses: the frame that OUT was sending has left. -/
def State.sent (s : State) : State := s.withRif { s.rif with sending := none }

theorem boundary_of_good (hstraps : s.strapFault = false) : boundary s = arbitrate s.sent :=
  if_neg (ne_true_of_eq_false hstraps)

theorem boundary_of_fault (hstraps : s.strapFault = true) : boundary s = arbitrateFault s.sent := if_pos hstraps

/-- The turn of the insertions, or an empty FIFO, leads to the insertion classes; a turn is counted (R167, R168). -/
theorem arbitrate_of_insertion (hforce : s.rif.force = none)
    (h : (s.rif.backToBack = 4 ∧ s.rif.insertWaits = true) ∨ s.rif.fifo = []) : arbitrate s =
      sendInsertion (if s.rif.backToBack = 4 ∧ s.rif.insertWaits = true then countRing .insertTurns s else s) := by
  unfold arbitrate
  by_cases hturn : s.rif.backToBack = 4 ∧ s.rif.insertWaits = true
  · cases hfifo : s.rif.fifo <;> simp only [hforce, hfifo, if_pos hturn]
  · have hfifo := h.resolve_left hturn
    simp only [hforce, hfifo, if_neg hturn]

theorem sendInsertion_of_door {x : DoorSlot} {rest : List DoorSlot} (h : s.rif.door = x :: rest) : sendInsertion s =
    sendInserted x.frame (setCount 0 (s.withRif { s.rif with door := rest })) := by
  simp only [sendInsertion, h]

theorem sendInsertion_of_reply (hdoor : s.rif.door = []) {f : Frame} {rest : List Frame} (h : s.rif.reply = f :: rest) :
    sendInsertion s = sendInserted f (setCount 0 (s.withRif { s.rif with reply := rest })) := by
  simp only [sendInsertion, hdoor, h]

theorem sendInsertion_of_report (hdoor : s.rif.door = []) (hreply : s.rif.reply = []) {x : ReportSlot}
    {rest : List ReportSlot} (h : s.rif.report = x :: rest) : sendInsertion s =
      selectReports (sendInserted x.frame (setCount 0 (s.withRif { s.rif with report := rest }))) := by
  simp only [sendInsertion, hdoor, hreply, h]

theorem sendInsertion_of_beacon (hdoor : s.rif.door = []) (hreply : s.rif.reply = []) (hreport : s.rif.report = [])
    {f : Frame} (h : s.rif.beacon = some f) :
    sendInsertion s = sendInserted f (setCount 0 (s.withRif { s.rif with beacon := none })) := by
  simp only [sendInsertion, hdoor, hreply, hreport, h]

theorem sendInsertion_of_none (h : ¬ s.rif.insertWaits = true) : sendInsertion s = setCount 0 s := by
  simp only [insertWaits_iff, not_or, not_not] at h
  obtain ⟨hdoor, hreply, hreport, hbeacon⟩ := h
  simp only [sendInsertion, hdoor, hreply, hreport, hbeacon]

end

/-- Settles O45: the arbiter's choice, class by class. -/
theorem boundariesTakeTheClassesInOrder : Obligations.BoundariesTakeTheClassesInOrder := by
  unfold Obligations.BoundariesTakeTheClassesInOrder
  intro s e hrun hstraps waits turn counted leaves
  have hwaits : s.rif.insertWaits = true ↔ waits := insertWaits_iff s.rif
  have hturns : (s.rif.backToBack = 4 ∧ s.rif.insertWaits = true) ↔ turn := and_congr_right' hwaits
  have hexec : exec (.outBoundary e) s = .next (arbitrate (begin e s).sent) := by
    rw [exec_outBoundary hrun, boundary_of_good (s := begin e s) hstraps]
  refine ⟨fun f hf => ?force, fun hforce hturn x rest hfifo => ?oldest, fun hforce hfree => ?insertion⟩
  case force =>
    have hforced : (begin e s).sent.rif.force = some f := hf
    rw [hexec]
    simp only [arbitrate, hforced]
    rfl
  case oldest =>
    intro r
    have hr : ((begin e s).oldestTaken rest).withRif { r with sending := none } = (begin e s).oldestTaken rest := by
      simp only [State.oldestTaken, r, ← hwaits]
      rfl
    have hboundary : exec (.outBoundary e) s = .next (sendForward x ((begin e s).oldestTaken rest)) := by
      rw [exec_outBoundary hrun, boundary_of_oldest (s := begin e s) hstraps hforce (fun h => hturn (hturns.mp h)) hfifo]
    rw [hboundary, ← hr]
    refine ⟨fun hnote => ?_, fun hnote => ?_⟩ <;> simp only [sendForward, hnote] <;> rfl
  case insertion =>
    have hinsert : exec (.outBoundary e) s = .next (sendInsertion ((begin e s).sent.withRif
        { counted with sending := none })) := by
      rw [hexec, arbitrate_of_insertion (s := (begin e s).sent) hforce (hfree.imp_left hturns.mpr)]
      by_cases hturn : turn
      · rw [if_pos (by exact hturns.mpr hturn)]
        simp only [counted, if_pos hturn]
        rfl
      · rw [if_neg (by exact fun h => hturn (hturns.mp h))]
        simp only [counted, if_neg hturn]
        rfl
    have hcounted : counted.door = s.rif.door ∧ counted.reply = s.rif.reply ∧ counted.report = s.rif.report ∧
        counted.beacon = s.rif.beacon := by
      obtain h | h : counted = s.rif.count .insertTurns ∨ counted = s.rif := (em turn).imp (fun h => if_pos h) fun h => if_neg h
      · rw [h]
        exact ⟨rfl, rfl, rfl, rfl⟩
      · rw [h]
        exact ⟨rfl, rfl, rfl, rfl⟩
    obtain ⟨hdoors, hreplies, hreports, hbeacons⟩ := hcounted
    refine ⟨fun x rest hdoor => ?_, fun hdoor f rest hreply => ?_, fun hdoor hreply x rest hreport => ?_,
      fun hdoor hreply hreport f hbeacon => ?_, fun hnone => ?_⟩
    · rw [hinsert, sendInsertion_of_door (hdoors.trans hdoor)]
      rfl
    · rw [hinsert, sendInsertion_of_reply (hdoors.trans hdoor) (hreplies.trans hreply)]
      rfl
    · rw [hinsert, sendInsertion_of_report (hdoors.trans hdoor) (hreplies.trans hreply) (hreports.trans hreport)]
      rfl
    · rw [hinsert, sendInsertion_of_beacon (hdoors.trans hdoor) (hreplies.trans hreply) (hreports.trans hreport)
        (hbeacons.trans hbeacon)]
      rfl
    · have hquiet : counted = s.rif := if_neg fun h => hnone h.2
      rw [hinsert, sendInsertion_of_none (by rw [hquiet]; exact fun h => hnone (hwaits.mp h)), hquiet]
      rfl

/-! ### The strap fault (R156) -/

/-- An intact frame is taken by the ring alone. -/
theorem exec_of_fault {c : Instr} {s : State} {arr : Arrival} {kind : Byte} {payload : List Byte}
    (hc : rowFrame c = some (arr, kind, payload)) (hrun : s.inReset = false) (hstraps : s.strapFault = true)
    (hsound : intact arr kind payload = true) (hroom : s.rif.fifoUsed < 8) :
    exec c s = .next (disposeFault (frameOf arr kind payload) (begin arr.elapsed s)) := by
  have hact : rowAct c (begin arr.elapsed s) = disposeFault (frameOf arr kind payload) (begin arr.elapsed s) := by
    have hframe : receive (begin arr.elapsed s).rif.fifoUsed (frameBytes arr kind payload) =
        .frame (frameOf arr kind payload) := receive_frameBytes hroom hsound
    have hfault : (begin arr.elapsed s).strapFault = true := hstraps
    simp only [rowAct, hc, takeFrame, hframe, hfault, if_true]
  rw [exec_of_running (rowElapsed_of_rowFrame hc) hrun, hact, settle_of_same (by simp)]

theorem disposeFault_eq (f : Frame) (s : State) : disposeFault f s = { s with
    rif := if f.kind ≠ 0x20 then s.forwarded f .plain
      else if f.payload.length = 5 then s.forwarded f .zeroedSetpoint else s.rif.count .malformed } := by
  unfold disposeFault
  by_cases hkind : f.kind = 0x20
  · rw [if_pos hkind, if_neg (not_not.mpr hkind)]
    split <;> rfl
  · rw [if_neg hkind, if_pos hkind]
    rfl

/-- OUT serves the FIFO alone. -/
theorem exec_outBoundary_of_fault {s : State} (hrun : s.inReset = false) (hstraps : s.strapFault = true) (e : Time) :
    exec (.outBoundary e) s = .next (arbitrateFault (begin e s).sent) := by
  rw [exec_outBoundary hrun, boundary_of_fault (s := begin e s) hstraps]

/-- Settles O48: a sound frame goes into the FIFO, a bad one is dropped without an event, and OUT serves the FIFO alone. -/
theorem strapFaultForwardsAlone : Obligations.StrapFaultForwardsAlone := by
  unfold Obligations.StrapFaultForwardsAlone
  refine ⟨fun c s arr kind payload hc hrun hstraps hsound hroom => ?frames, fun s e rx hrun hstraps => ?bytes,
    fun s e hrun hstraps => ⟨fun hfifo => ?idle, fun x rest hfifo => ?leaves⟩⟩
  case frames =>
    rw [exec_of_fault hc hrun hstraps hsound hroom, disposeFault_eq]
    rfl
  case bytes =>
    intro dropped
    refine ⟨fun h => ?_, fun hlow hhigh h => ?_, fun hlow hhigh hcrc h => ?_,
      fun f hrx hlen => ⟨fun hfull => ?_, fun hroom hkind => ?_⟩⟩
    · exact exec_of_error_of_fault (err := .format) hrun hstraps (receive_of_length h _)
    · exact exec_of_error_of_fault (err := .crc) hrun hstraps (receive_of_crc hlow hhigh h _)
    · exact exec_of_error_of_fault (err := .format) hrun hstraps (receive_of_field hlow hhigh hcrc h _)
    · have hframe := receive_wire (used := 0) (by omega) hlen
      rw [← hrx] at hframe
      exact exec_of_error_of_fault (err := .overrun) hrun hstraps (receive_of_full hframe hfull)
    · have hframe : receive (begin e s).rif.fifoUsed rx = .frame f := hrx ▸ receive_wire hroom hlen
      have hfault : (begin e s).strapFault = true := hstraps
      have hact : rowAct (.frameForward e rx) (begin e s) = disposeFault f (begin e s) := by
        simp only [rowAct, rowFrame, edgeAct, takeFrame, hframe, hfault, if_true]
      rw [exec_of_running (e := e) rfl hrun, hact, settle_of_same (by simp), disposeFault_eq, if_pos hkind]
      rfl
  case idle =>
    have hempty : (begin e s).sent.rif.fifo = [] := hfifo
    rw [exec_outBoundary_of_fault hrun hstraps]
    simp only [arbitrateFault, hempty]
    rfl
  case leaves =>
    have hfirst : (begin e s).sent.rif.fifo = x :: rest := hfifo
    intro leaves
    refine ⟨fun hnote => ?_, fun hnote v1 v0 a1 a0 flags hpayload => ?_⟩
    · simp only [leaves, exec_outBoundary_of_fault hrun hstraps, arbitrateFault, hfirst, sendForward, hnote]
      rfl
    · have hzeroed : x.frame.withSpeed 0 flagZeroed = { x.frame with payload := [0, 0, a1, a0, 2] } := by
        rw [Frame.withSpeed, hpayload]
        rfl
      simp only [leaves, exec_outBoundary_of_fault hrun hstraps, arbitrateFault, hfirst, sendForward, hnote, hzeroed]
      rfl

end Sys2Proof.Machine

end

/-! ## Reports and beacons (R165, R166, R170, R189–R192) -/

section

namespace Sys2Proof.Machine

section

variable {s : State} {k : Fin 28}

/-! ### The kind placed next (R190) -/

/-- A kind goes before another by its level, and at equal level by its code. -/
def State.Precedes (s : State) (k k' : Fin 28) : Prop := s.level k' < s.level k ∨ (s.level k' = s.level k ∧ k ≤ k')

/-- The first in order of the pending kinds of a list, if any is pending. -/
structure State.Foremost (s : State) (ks : List (Fin 28)) (best : Option (Fin 28)) : Prop where
  none : best = none → ∀ k ∈ ks, s.isPending k = false
  mem : ∀ k, best = some k → k ∈ ks ∧ s.isPending k = true
  first : ∀ k, best = some k → ∀ k' ∈ ks, s.isPending k' = true → s.Precedes k k'

/-- One kind more, of a higher code than all before it. -/
theorem foremost_preferKind {ks : List (Fin 28)} {best : Option (Fin 28)} (h : s.Foremost ks best) {x : Fin 28}
    (hx : ∀ k ∈ ks, k < x) : s.Foremost (ks ++ [x]) (preferKind s best x) := by
  cases hpending : s.isPending x with
  | false =>
    simp only [preferKind, hpending, Bool.false_eq_true, if_false]
    exact
      { none := fun hnone k hk => (List.mem_append.mp hk).elim (h.none hnone k) fun hk => by
          rw [List.mem_singleton.mp hk, hpending]
        mem := fun k hk => ⟨List.mem_append_left _ (h.mem k hk).1, (h.mem k hk).2⟩
        first := fun k hk k' hk' hp' => (List.mem_append.mp hk').elim (fun hk' => h.first k hk k' hk' hp') fun hk' => by
          rw [List.mem_singleton.mp hk', hpending] at hp'
          cases hp' }
  | true =>
    have hlast : ∀ b, (∀ k' ∈ ks, s.isPending k' = true → s.Precedes b k') → s.Precedes b x →
        ∀ k' ∈ ks ++ [x], s.isPending k' = true → s.Precedes b k' := fun b hks hbx k' hk' hp' =>
      (List.mem_append.mp hk').elim (fun hk' => hks k' hk' hp') fun hk' => List.mem_singleton.mp hk' ▸ hbx
    have hself : s.Precedes x x := .inr ⟨rfl, le_rfl⟩
    have hmem : x ∈ ks ++ [x] ∧ s.isPending x = true := ⟨by simp, hpending⟩
    cases best with
    | none =>
      simp only [preferKind, hpending, if_true]
      refine ⟨nofun, fun k hk => ?_, fun k hk => ?_⟩ <;> cases hk
      · exact hmem
      · refine hlast x (fun k' hk' hp' => ?_) hself
        rw [h.none rfl k' hk'] at hp'
        cases hp'
    | some b =>
      obtain ⟨hb, hbpending⟩ := h.mem b rfl
      simp only [preferKind, hpending, if_true]
      split
      · refine ⟨nofun, fun k hk => ?_, fun k hk => ?_⟩ <;> cases hk
        · exact hmem
        · refine hlast x (fun k' hk' hp' => .inl ?_) hself
          obtain hless | ⟨hsame, -⟩ := h.first b rfl k' hk' hp' <;> omega
      · refine ⟨nofun, fun k hk => ?_, fun k hk => ?_⟩ <;> cases hk
        · exact ⟨List.mem_append_left _ hb, hbpending⟩
        · refine hlast b (h.first b rfl) ?_
          obtain hless | hsame : s.level x < s.level b ∨ s.level x = s.level b := by omega
          · exact .inl hless
          · exact .inr ⟨hsame, (hx b hb).le⟩

theorem foremost_foldl (s : State) (ks : List (Fin 28)) (hks : ks.Pairwise (· < ·)) :
    s.Foremost ks (ks.foldl (preferKind s) none) := by
  induction ks using List.reverseRecOn with
  | nil => exact ⟨by simp, nofun, nofun⟩
  | append_singleton ks x ih =>
    obtain ⟨hbefore, -, hx⟩ := List.pairwise_append.mp hks
    rw [List.foldl_append]
    exact foremost_preferKind (ih hbefore) fun k hk => hx k hk x (List.mem_singleton.mpr rfl)

theorem foremost_topKind (s : State) : s.Foremost (List.finRange 28) s.topKind :=
  foremost_foldl s _ (List.pairwise_lt_finRange 28)

theorem pendingExpress_eq_some {slot : Option (Fin 28)} :
    s.pendingExpress slot = some k ↔ slot = some k ∧ s.isPending k = true := by
  cases slot with
  | none => simp [State.pendingExpress]
  | some x =>
    simp only [State.pendingExpress, Option.ite_none_right_eq_some, Option.some.injEq]
    exact ⟨fun ⟨hx, hk⟩ => ⟨hk, hk ▸ hx⟩, fun ⟨hk, hx⟩ => ⟨hk ▸ hx, hk⟩⟩

theorem pendingExpress_of_none {slot : Option (Fin 28)} (h : ∀ k, slot = some k → s.isPending k = false) :
    s.pendingExpress slot = none := by
  cases slot with
  | none => rfl
  | some x => simp [State.pendingExpress, h x rfl]

/-- Where the next kind comes from: express slot 1, express slot 2, or the order of levels and codes. -/
theorem nextKind_cases (h : s.nextKind = some k) : s.pendingExpress s.express1 = some k ∨
    (s.pendingExpress s.express1 = none ∧ s.pendingExpress s.express2 = some k) ∨
    (s.pendingExpress s.express1 = none ∧ s.pendingExpress s.express2 = none ∧ s.topKind = some k) := by
  unfold State.nextKind at h
  cases h1 : s.pendingExpress s.express1 with
  | some x => exact .inl (by simpa [h1] using h)
  | none =>
    cases h2 : s.pendingExpress s.express2 with
    | some x => exact .inr (.inl ⟨rfl, by simpa [h1, h2] using h⟩)
    | none => exact .inr (.inr ⟨rfl, rfl, by simpa [h1, h2] using h⟩)

theorem isPending_of_nextKind (h : s.nextKind = some k) : s.isPending k = true := by
  obtain h | ⟨-, h⟩ | ⟨-, -, h⟩ := nextKind_cases h
  · exact (pendingExpress_eq_some.mp h).2
  · exact (pendingExpress_eq_some.mp h).2
  · exact ((foremost_topKind s).mem k h).2

theorem not_pending_of_nextKind_none (h : s.nextKind = none) (k : Fin 28) : s.isPending k = false := by
  refine (foremost_topKind s).none ?_ k (List.mem_finRange k)
  unfold State.nextKind at h
  cases h1 : s.pendingExpress s.express1 <;> cases h2 : s.pendingExpress s.express2 <;> simp_all

/-- A pending kind of express slot 1 is the next. -/
theorem nextKind_of_express1 (h : s.nextKind = some k) {k1 : Fin 28} (h1 : s.express1 = some k1)
    (hpending : s.isPending k1 = true) : k = k1 := by
  have hslot := pendingExpress_eq_some.mpr ⟨h1, hpending⟩
  obtain h | ⟨hnone, -⟩ | ⟨hnone, -⟩ := nextKind_cases h
  · exact Option.some.inj (h.symm.trans hslot)
  · cases hnone.symm.trans hslot
  · cases hnone.symm.trans hslot

/-- With none pending in express slot 1, a pending kind of express slot 2 is the next. -/
theorem nextKind_of_express2 (h : s.nextKind = some k) (hfirst : ∀ k1, s.express1 = some k1 → s.isPending k1 = false)
    {k2 : Fin 28} (h2 : s.express2 = some k2) (hpending : s.isPending k2 = true) : k = k2 := by
  have hslot := pendingExpress_eq_some.mpr ⟨h2, hpending⟩
  obtain h | ⟨-, h⟩ | ⟨-, hnone, -⟩ := nextKind_cases h
  · cases (pendingExpress_of_none hfirst).symm.trans h
  · exact Option.some.inj (h.symm.trans hslot)
  · cases hnone.symm.trans hslot

/-- With none pending in an express slot, the next kind precedes every other pending one. -/
theorem nextKind_precedes (h : s.nextKind = some k) (hfirst : ∀ k1, s.express1 = some k1 → s.isPending k1 = false)
    (hsecond : ∀ k2, s.express2 = some k2 → s.isPending k2 = false) {k' : Fin 28} (hpending : s.isPending k' = true) :
    s.Precedes k k' := by
  obtain h | ⟨-, h⟩ | ⟨-, -, h⟩ := nextKind_cases h
  · cases (pendingExpress_of_none hfirst).symm.trans h
  · cases (pendingExpress_of_none hsecond).symm.trans h
  · exact (foremost_topKind s).first k h k' (List.mem_finRange k') hpending

/-! ### The selection (R190, R191) -/

/-- A pending kind that is placed takes one place of REPORT and one report sequence. -/
theorem placeKind_advances (h : s.isPending k = true) : (placeKind k s).rif.report.length = s.rif.report.length + 1 ∧
    (placeKind k s).rpu.seq = s.rpu.seq + 1 := by
  obtain ⟨x, hx⟩ := Option.isSome_iff_exists.mp h
  simp only [placeKind, hx]
  exact ⟨(placeReport_perm _ _ s).length_eq, rfl⟩

theorem selectUpTo_of_next (hroom : s.rif.report.length < 8) (hk : s.nextKind = some k) (n : Nat) :
    selectUpTo (n + 1) s = selectUpTo n (placeKind k s) := by
  simp only [selectUpTo, if_pos hroom, hk]

theorem selectUpTo_of_done (h : 8 ≤ s.rif.report.length ∨ s.nextKind = none) (n : Nat) : selectUpTo n s = s := by
  cases n with
  | zero => rfl
  | succ n =>
    unfold selectUpTo
    split
    · rw [h.resolve_left (by omega)]
    · rfl

/-- A selection either is over or goes on with the next kind. -/
theorem selection_cases (s : State) : (8 ≤ s.rif.report.length ∨ s.nextKind = none) ∨
    ∃ k, s.rif.report.length < 8 ∧ s.nextKind = some k := by
  cases h : s.nextKind with
  | none => exact .inl (.inr rfl)
  | some k => exact (Nat.lt_or_ge s.rif.report.length 8).symm.imp .inl fun hroom => ⟨k, hroom, rfl⟩

theorem selectUpTo_advances (n : Nat) (s : State) : ∃ m,
    (selectUpTo n s).rif.report.length = s.rif.report.length + m ∧
    (selectUpTo n s).rpu.seq = s.rpu.seq + BitVec.ofNat 8 m := by
  induction n generalizing s with
  | zero => exact ⟨0, rfl, by simp [selectUpTo]⟩
  | succ n ih =>
    obtain hdone | ⟨k, hroom, hk⟩ := selection_cases s
    · exact ⟨0, by simp [selectUpTo_of_done hdone]⟩
    · obtain ⟨m, hlength, hseq⟩ := ih (placeKind k s)
      obtain ⟨hone, hnext⟩ := placeKind_advances (isPending_of_nextKind hk)
      refine ⟨m + 1, ?_, ?_⟩ <;> rw [selectUpTo_of_next hroom hk]
      · omega
      · rw [hseq, hnext, add_assoc, add_comm 1, BitVec.ofNat_add]
        rfl

/-- As many kinds as REPORT has places are enough for a whole selection. -/
theorem selectUpTo_exhausts (n : Nat) (s : State) (h : 8 ≤ s.rif.report.length + n) :
    8 ≤ (selectUpTo n s).rif.report.length ∨ (selectUpTo n s).nextKind = none := by
  induction n generalizing s with
  | zero => exact .inl h
  | succ n ih =>
    obtain hdone | ⟨k, hroom, hk⟩ := selection_cases s
    · rwa [selectUpTo_of_done hdone]
    · rw [selectUpTo_of_next hroom hk]
      have hone := (placeKind_advances (isPending_of_nextKind hk)).1
      exact ih _ (by omega)

/-- More kinds than REPORT has places make no difference. -/
theorem selectUpTo_succ (n : Nat) (s : State) (h : 8 ≤ s.rif.report.length + n) :
    selectUpTo (n + 1) s = selectUpTo n s := by
  induction n generalizing s with
  | zero => exact selectUpTo_of_done (.inl h) 1
  | succ n ih =>
    obtain hdone | ⟨k, hroom, hk⟩ := selection_cases s
    · rw [selectUpTo_of_done hdone, selectUpTo_of_done hdone]
    · rw [selectUpTo_of_next hroom hk, selectUpTo_of_next hroom hk]
      have hone := (placeKind_advances (isPending_of_nextKind hk)).1
      exact ih _ (by omega)

theorem selectReports_of_good (hstraps : s.strapFault = false) : selectReports s = selectUpTo 8 s :=
  if_neg (ne_true_of_eq_false hstraps)

theorem selectReports_of_done (h : s.strapFault = true ∨ 8 ≤ s.rif.report.length ∨ s.nextKind = none) :
    selectReports s = s := by
  unfold selectReports
  split
  · rfl
  · exact selectUpTo_of_done (h.resolve_left ‹_›) 8

theorem selectReports_of_next (hstraps : s.strapFault = false) (hroom : s.rif.report.length < 8)
    (hk : s.nextKind = some k) : selectReports s = selectReports (placeKind k s) := by
  have hone := (placeKind_advances (isPending_of_nextKind hk)).1
  have hplaced : (placeKind k s).strapFault = false := by simpa [State.strapFault] using hstraps
  rw [selectReports_of_good hstraps, selectReports_of_good hplaced, selectUpTo_of_next hroom hk,
    selectUpTo_succ 7 _ (by omega)]

theorem selectReports_advances (s : State) : ∃ n,
    (selectReports s).rif.report.length = s.rif.report.length + n ∧
    (selectReports s).rpu.seq = s.rpu.seq + BitVec.ofNat 8 n := by
  unfold selectReports
  split
  · exact ⟨0, by simp⟩
  · exact selectUpTo_advances 8 s

theorem selectReports_exhausts (hstraps : s.strapFault = false) : 8 ≤ (selectReports s).rif.report.length ∨
    ∀ k : Fin 28, (selectReports s).rpu.slots[k].entry = none := by
  rw [selectReports_of_good hstraps]
  refine (selectUpTo_exhausts 8 s (Nat.le_add_left _ _)).imp_right fun hnone k => ?_
  simpa [State.isPending] using not_pending_of_nextKind_none hnone k

/-! ### A REPORT and its place (R166, R170, R189, R190) -/

theorem expressKind_eq_some {b : Byte} : expressKind b = some k ↔ b = BitVec.ofNat 8 k := by
  unfold expressKind
  split
  · rw [Option.some.injEq, ← BitVec.toNat_inj, Fin.ext_iff, BitVec.toNat_ofNat, Nat.mod_eq_of_lt (by omega)]
  next hlarge =>
    refine iff_of_false nofun fun hb => hlarge ?_
    rw [hb, BitVec.toNat_ofNat, Nat.mod_eq_of_lt (by omega)]
    exact k.isLt

theorem insertExpress_eq (x : ReportSlot) {ahead behind : List ReportSlot} (hahead : ∀ y ∈ ahead, y.express = true)
    (hbehind : ∀ y ∈ behind, y.express = false) : insertExpress x (ahead ++ behind) = ahead ++ x :: behind := by
  induction ahead with
  | nil =>
    cases behind with
    | nil => rfl
    | cons y rest => simp [insertExpress, hbehind y (by simp)]
  | cons y rest ih =>
    have hy : y.express = true := hahead y (by simp)
    simp only [List.cons_append, insertExpress, hy, if_true, ih fun z hz => hahead z (by simp [hz])]

/-- The REPORT of a pending event (R170). -/
def State.reportOf (s : State) (k : Fin 28) (x : PendingEvent) : Frame :=
  { kind := 0x70, dst := s.maByte, src := s.oaByte, seq := s.rif.txSeq,
    payload := [s.rpu.seq + 1, BitVec.ofNat 8 k, byteAt s.mga.active.reportLevel k, BitVec.ofNat 8 x.occurrences] ++
      bytes32 x.firstTime ++ bytes32 x.detail }

/-- The state after a kind is placed, but for the place its frame takes. -/
theorem placeKind_eq {x : PendingEvent} (hx : s.rpu.slots[k].entry = some x) : placeKind k s =
    { s with
      rif := { s.rif with
        report := if s.isExpress k then insertExpress ⟨s.reportOf k x, true⟩ s.rif.report
          else s.rif.report ++ [⟨s.reportOf k x, false⟩]
        txSeq := s.rif.txSeq + 1 }
      rpu := { s.rpu with
        seq := s.rpu.seq + 1, slots := s.rpu.slots.set k { count := s.rpu.slots[k].count, entry := none } } } := by
  have hlevel : byteOf (s.level k) = byteAt s.mga.active.reportLevel k := by simp [byteOf, State.level]
  have hframe : s.ownFrame 0x70 s.maByte (reportPayload (s.rpu.seq + 1) k (s.level k) x) = s.reportOf k x := by
    rw [reportPayload, hlevel]
    rfl
  simp only [placeKind, hx, placeReport, hframe]
  cases s.isExpress k <;> rfl

/-! ### The beacon (R170, R192) -/

theorem beacon_bits (x y z w : Bool) (i : Fin 8) :
    ((if x then 1 else 0) ||| (if y then 2 else 0) ||| (if z then 4 else 0) ||| (if w then 8 else 0) : Byte).getLsbD i =
      [x, y, z, w].getD i false := by
  revert x y z w i
  decide

theorem placeBeacon_eq (payload : List Byte) (s : State) : placeBeacon payload s =
    { s with rif := { (if s.rif.beacon = none then s.rif else s.rif.count .beaconReplaced) with
      beacon := some (s.ownFrame 0x71 s.maByte payload), txSeq := s.rif.txSeq + 1 } } := by
  unfold placeBeacon
  cases s.rif.beacon <;> rfl

theorem beaconExpiry_of_waiting (h : due s.rpu.beacon s.clock = false) : beaconExpiry s = s := by
  unfold beaconExpiry
  split
  · rename_i x hx
    have hwaits : x.reached s.clock = false := by simpa only [hx, due] using h
    rw [if_neg (ne_true_of_eq_false hwaits)]
  · rfl

theorem beaconExpiry_of_due {x : Timer} (hx : s.rpu.beacon = some x) (h : x.reached s.clock = true) :
    beaconExpiry s = (placeBeacon s.beaconPayload s).withRpu
      { s.rpu with beacon := some (x.again (s.param (·.tBeacon) 0 * 1000)) } := by
  have hrpu : (placeBeacon s.beaconPayload s).rpu = s.rpu := by rw [placeBeacon_eq]
  simp only [beaconExpiry, hx, if_pos h, hrpu]

theorem beaconExpiry_seq (s : State) : (beaconExpiry s).rpu.seq = s.rpu.seq := by
  cases h : due s.rpu.beacon s.clock with
  | false => rw [beaconExpiry_of_waiting h]
  | true =>
    cases hx : s.rpu.beacon with
    | none => simp [due, hx] at h
    | some x => rw [beaconExpiry_of_due hx (by simpa only [due, hx] using h)]; rfl

theorem exec_beaconExpiry (hrun : s.inReset = false) (e : Time) :
    exec (.beaconExpiry e) s = .next (beaconExpiry (begin e s)) := by
  have hact : rowAct (.beaconExpiry e) (begin e s) = beaconExpiry (begin e s) := rfl
  rw [exec_of_running (e := e) rfl hrun, hact, settle_of_same (by simp)]

theorem exec_beaconExpiry_seq {t : State} {e : Time} (h : exec (.beaconExpiry e) s = .next t) :
    t.rpu.seq = s.rpu.seq := by
  cases hrun : s.inReset with
  | true =>
    rw [exec_of_rowElapsed (elapsed := e) rfl, perform_held hrun] at h
    cases h
    rfl
  | false =>
    rw [exec_beaconExpiry hrun] at h
    cases h
    exact beaconExpiry_seq _

end

/-- Settles O60: the next kind is the foremost; a selection goes on with it until REPORT is full or nothing is pending;
and a beacon is a run of fields, each of which reads back at its offset. -/
theorem reportsAndBeaconsAreBuiltAndPlaced : Obligations.ReportsAndBeaconsAreBuiltAndPlaced := by
  unfold Obligations.ReportsAndBeaconsAreBuiltAndPlaced
  refine ⟨selectReports_advances, fun s t e => exec_beaconExpiry_seq, fun s => selectReports_exhausts,
    fun s k hk => ?next, fun s => ⟨selectReports_of_done, fun hstraps hroom k => selectReports_of_next hstraps hroom⟩,
    fun s k => ⟨expressKind_eq_some, expressKind_eq_some, fun x hx => ?placed⟩, fun s => ?beacon,
    fun s e hrun => ⟨fun hwaits => ?waiting, fun x l hx hreached hline => ?due⟩⟩
  case next =>
    exact ⟨isPending_of_nextKind hk, fun k1 h1 hp => nextKind_of_express1 hk h1 hp,
      fun hfirst k2 h2 hp => nextKind_of_express2 hk hfirst h2 hp,
      fun hfirst hsecond k' hp => nextKind_precedes hk hfirst hsecond hp⟩
  case placed =>
    intro f express placed
    have hexpress : s.isExpress k = true ↔ express := by simp [State.isExpress, express]
    refine ⟨fun hplain => ?_, fun hstands ahead behind hsplit hahead hbehind => ?_⟩
    · rw [placeKind_eq hx, if_neg fun h => hplain (hexpress.mp h)]
      rfl
    · rw [placeKind_eq hx, if_pos (hexpress.mpr hstands), hsplit, insertExpress_eq _ hahead hbehind]
      rfl
  case beacon =>
    intro p b w index door
    have hindex : ∀ x, indexByte x = index x := fun x => by cases x <;> rfl
    have hdoor : ∀ x : DoorRecord, x.state.beaconCode = door x := fun x => by
      obtain ⟨st, timer⟩ := x
      cases st <;> rfl
    have hdoors : b 21 = s.dru.aLeft.state.beaconCode ++ s.dru.aRight.state.beaconCode ++
      s.dru.bLeft.state.beaconCode ++ s.dru.bRight.state.beaconCode := rfl
    exact ⟨rfl, rfl, hindex _, hindex _, rfl, longAt_of_bytes rfl, wordAt_of_bytes rfl, wordAt_of_bytes rfl, rfl, rfl,
      wordAt_of_bytes rfl, wordAt_of_bytes rfl, rfl, rfl, rfl, by rw [hdoors, hdoor, hdoor, hdoor, hdoor],
      firstCauseCode_eq _, beacon_bits _ _ _ _, rfl, longAt_of_bytes rfl⟩
  case waiting =>
    rw [exec_beaconExpiry hrun, beaconExpiry_of_waiting (s := begin e s) hwaits]
  case due =>
    intro r
    have hparam : (begin e s).param (·.tBeacon) 0 = l.tBeacon := by simp only [State.param, begin_line, hline]
    rw [exec_beaconExpiry hrun, beaconExpiry_of_due (s := begin e s) hx hreached, hparam, placeBeacon_eq]
    rfl

end Sys2Proof.Machine

end

/-! ## The tables that a mask puts in force (R171, R172, R180) -/

section

namespace Sys2Proof.Machine

/-! ### One table put in force -/

section

variable (a : ActiveTables) (t : TableId) (es : List (List Byte))

theorem put_node : (a.put t es).node = if t = .node then some (es.map nodeOfBytes) else a.node := by cases t <;> rfl

theorem put_stop : (a.put t es).stop = if t = .stop then some (es.map stopOfBytes) else a.stop := by cases t <;> rfl

theorem put_profile : (a.put t es).profile = if t = .profile then some (es.map segmentOfBytes) else a.profile := by
  cases t <;> rfl

theorem put_line : (a.put t es).line = if t = .line then (lineOfEntries es).or a.line else a.line := by
  cases t with
  | line => cases h : lineOfEntries es <;> simp [ActiveTables.put, h]
  | _ => rfl

theorem put_marker : (a.put t es).marker = if t = .marker then some (es.map markerOfBytes) else a.marker := by
  cases t <;> rfl

theorem put_product : (a.put t es).product = if t = .product then some (es.map productOfBytes) else a.product := by
  cases t <;> rfl

theorem put_hotlist : (a.put t es).hotlist = if t = .hotlist then some (es.map (longAt · 0)) else a.hotlist := by
  cases t <;> rfl

theorem put_reportLevel :
    (a.put t es).reportLevel = if t = .reportLevel then es.map (byteAt · 0) else a.reportLevel := by
  cases t <;> rfl

/-- A table put in force leaves every other one as it is. -/
theorem put_of_ne {u : TableId} (h : u ≠ t) :
    (a.put t es).entries u = a.entries u ∧ (a.put t es).isActive u = a.isActive u := by
  cases u with
  | node => simp only [ActiveTables.entries, ActiveTables.isActive, put_node, if_neg h.symm, and_self]
  | stop => simp only [ActiveTables.entries, ActiveTables.isActive, put_stop, if_neg h.symm, and_self]
  | profile => simp only [ActiveTables.entries, ActiveTables.isActive, put_profile, if_neg h.symm, and_self]
  | line => simp only [ActiveTables.entries, ActiveTables.isActive, put_line, if_neg h.symm, and_self]
  | marker => simp only [ActiveTables.entries, ActiveTables.isActive, put_marker, if_neg h.symm, and_self]
  | product => simp only [ActiveTables.entries, ActiveTables.isActive, put_product, if_neg h.symm, and_self]
  | hotlist => simp only [ActiveTables.entries, ActiveTables.isActive, put_hotlist, if_neg h.symm, and_self]
  | reportLevel =>
    simp only [ActiveTables.entries, ActiveTables.isActive, put_reportLevel, if_neg h.symm, and_self]

end

/-- A validated table put in force is ACTIVE. -/
theorem put_isActive {oa : Byte} {t : TableId} {es : List (List Byte)} (a : ActiveTables)
    (h : validate oa t es = none) : (a.put t es).isActive t = true := by
  cases t with
  | line =>
    obtain ⟨hleast, hmost, -⟩ := validate_none h
    obtain ⟨x, y, z, rfl⟩ := List.length_eq_three.mp (Nat.le_antisymm hmost hleast)
    rfl
  | _ => rfl

/-- Settles O53: the entries are read back as they were loaded by `put_entries`, the other tables stand. -/
theorem tablesInForceReadBackAsLoaded : Obligations.TablesInForceReadBackAsLoaded := by
  unfold Obligations.TablesInForceReadBackAsLoaded
  exact fun oa a t es hsize h => ⟨put_entries a hsize h, put_isActive a h, fun u hu => put_of_ne a t es hu⟩

/-! ### The tables of a mask put in force -/

section

variable {α : Type} {f : ActiveTables → α} {t : TableId} (m : Mga) (mask : Byte) (ts : List TableId)

theorem foldl_put_of_not_mem (hkept : ∀ a u es, u ≠ t → f (a.put u es) = f a) (h : t ∉ ts) (a : ActiveTables) :
    f (ts.foldl (fun a u => if names mask u then a.put u (m.shadow u).entries else a) a) = f a := by
  induction ts generalizing a with
  | nil => rfl
  | cons u rest ih =>
    obtain ⟨hne, hrest⟩ := not_or.mp (mt List.mem_cons.mpr h)
    rw [List.foldl_cons, ih hrest]
    split
    · exact hkept a u _ (Ne.symm hne)
    · rfl

theorem foldl_put_of_mem (hkept : ∀ a u es, u ≠ t → f (a.put u es) = f a)
    (hset : ∀ a b es, f a = f b → f (a.put t es) = f (b.put t es)) (hnodup : ts.Nodup) (h : t ∈ ts) (a : ActiveTables) :
    f (ts.foldl (fun a u => if names mask u then a.put u (m.shadow u).entries else a) a) =
      f (if names mask t then a.put t (m.shadow t).entries else a) := by
  induction ts generalizing a with
  | nil => cases h
  | cons u rest ih =>
    obtain ⟨hnot, hrest⟩ := List.nodup_cons.mp hnodup
    rw [List.foldl_cons]
    by_cases hu : u = t
    · subst hu
      exact foldl_put_of_not_mem m mask rest hkept hnot _
    · rw [ih hrest ((List.mem_cons.mp h).resolve_left (Ne.symm hu))]
      have hsame : f (if names mask u then a.put u (m.shadow u).entries else a) = f a := by
        split
        · exact hkept a u _ hu
        · rfl
      split
      · exact hset _ _ _ hsame
      · exact hsame

/-- A field that one table alone sets, under a mask. -/
theorem after_field (f : ActiveTables → α) (t : TableId) (hkept : ∀ a u es, u ≠ t → f (a.put u es) = f a)
    (hset : ∀ a b es, f a = f b → f (a.put t es) = f (b.put t es)) :
    f (m.after mask) = if names mask t then f (m.active.put t (m.shadow t).entries) else f m.active := by
  have hmem : t ∈ allTables := by cases t <;> decide
  rw [Mga.after, foldl_put_of_mem m mask allTables hkept hset (by decide) hmem]
  split <;> rfl

end

section

variable (m : Mga) (mask : Byte)

theorem after_node : (m.after mask).node =
    if names mask .node then some ((m.shadow .node).entries.map nodeOfBytes) else m.active.node :=
  after_field m mask ActiveTables.node .node (fun a u es hu => (put_node a u es).trans (if_neg hu)) fun _ _ _ _ => rfl

theorem after_stop : (m.after mask).stop =
    if names mask .stop then some ((m.shadow .stop).entries.map stopOfBytes) else m.active.stop :=
  after_field m mask ActiveTables.stop .stop (fun a u es hu => (put_stop a u es).trans (if_neg hu)) fun _ _ _ _ => rfl

theorem after_profile : (m.after mask).profile =
    if names mask .profile then some ((m.shadow .profile).entries.map segmentOfBytes) else m.active.profile :=
  after_field m mask ActiveTables.profile .profile (fun a u es hu => (put_profile a u es).trans (if_neg hu))
    fun _ _ _ _ => rfl

theorem after_line_eq : (m.after mask).line =
    if names mask .line then (lineOfEntries (m.shadow .line).entries).or m.active.line else m.active.line := by
  refine (after_field m mask ActiveTables.line .line (fun a u es hu => (put_line a u es).trans (if_neg hu))
    fun a b es h => ?_).trans ?_
  · rw [put_line, put_line, h]
  · rw [put_line, if_pos rfl]

theorem after_marker : (m.after mask).marker =
    if names mask .marker then some ((m.shadow .marker).entries.map markerOfBytes) else m.active.marker :=
  after_field m mask ActiveTables.marker .marker (fun a u es hu => (put_marker a u es).trans (if_neg hu))
    fun _ _ _ _ => rfl

theorem after_product : (m.after mask).product =
    if names mask .product then some ((m.shadow .product).entries.map productOfBytes) else m.active.product :=
  after_field m mask ActiveTables.product .product (fun a u es hu => (put_product a u es).trans (if_neg hu))
    fun _ _ _ _ => rfl

theorem after_hotlist : (m.after mask).hotlist =
    if names mask .hotlist then some ((m.shadow .hotlist).entries.map (longAt · 0)) else m.active.hotlist :=
  after_field m mask ActiveTables.hotlist .hotlist (fun a u es hu => (put_hotlist a u es).trans (if_neg hu))
    fun _ _ _ _ => rfl

theorem after_reportLevel : (m.after mask).reportLevel =
    if names mask .reportLevel then (m.shadow .reportLevel).entries.map (byteAt · 0) else m.active.reportLevel :=
  after_field m mask ActiveTables.reportLevel .reportLevel
    (fun a u es hu => (put_reportLevel a u es).trans (if_neg hu)) fun _ _ _ _ => rfl

end

end Sys2Proof.Machine

end

/-! ## Validation: the first failure of count, range, order or role (R171–R173, R176)

What each search of validation finds is said once, as the first place with a property (`Finds`). -/

section

namespace Sys2Proof.Machine

/-! ### The searches -/

section

variable {P Q : Nat → Prop}

theorem finds_here {n : Nat} (h : P n) (hle : ∀ i, P i → n ≤ i) : Finds P (some n) := by
  intro i
  constructor
  · rintro ⟨⟩
    exact ⟨h, fun j hj hP => absurd (hle j hP) (not_le.mpr hj)⟩
  · rintro ⟨hi, hfirst⟩
    exact congrArg some (le_antisymm (hle i hi) (not_lt.mp fun hlt => hfirst n hlt h))

theorem Finds.eq_some {found : Option Nat} (h : Finds P found) {i : Nat} (hi : P i) (hfirst : ∀ j < i, ¬ P j) :
    found = some i := (h i).mpr ⟨hi, hfirst⟩

end

/-- The first entry that fails a test of its index and bytes. -/
theorem finds_firstFailing (ok : Nat → List Byte → Bool) (n : Nat) (es : List (List Byte)) :
    Finds (fun i => ∃ j e, i = n + j ∧ es[j]? = some e ∧ ok i e = false) (firstFailing ok n es) := by
  induction es generalizing n with
  | nil => exact finds_none fun i ⟨j, e, _, he, _⟩ => by simp at he
  | cons x rest ih =>
    rw [firstFailing]
    split
    case isTrue hx =>
      refine (ih (n + 1)).congr fun i => ⟨?_, ?_⟩
      · rintro ⟨j, e, rfl, he, hfails⟩
        exact ⟨j + 1, e, by omega, he, hfails⟩
      · rintro ⟨j, e, rfl, he, hfails⟩
        cases j with
        | zero =>
          obtain rfl : x = e := by simpa using he
          exact absurd hx (by simpa using hfails)
        | succ j => exact ⟨j, e, by omega, he, hfails⟩
    case isFalse hx => exact finds_here ⟨0, x, rfl, rfl, by simpa using hx⟩ fun i ⟨j, _, hi, _⟩ => by omega

/-- The first value that does not exceed the one before it, a value having gone before. -/
theorem finds_failingRise_after (n : Nat) (y : Int) (xs : List Int) :
    Finds (fun i => ∃ j a b, i = n + j ∧ (y :: xs)[j]? = some a ∧ xs[j]? = some b ∧ b ≤ a)
      (failingRise n (some y) xs) := by
  induction xs generalizing n y with
  | nil => exact finds_none fun i ⟨j, a, b, _, _, hb, _⟩ => by simp at hb
  | cons x rest ih =>
    rw [failingRise]
    split
    case isTrue hx =>
      refine (ih (n + 1) x).congr fun i => ⟨?_, ?_⟩
      · rintro ⟨j, a, b, rfl, ha, hb, hle⟩
        exact ⟨j + 1, a, b, by omega, ha, hb, hle⟩
      · rintro ⟨j, a, b, rfl, ha, hb, hle⟩
        cases j with
        | zero =>
          obtain rfl : y = a := by simpa using ha
          obtain rfl : x = b := by simpa using hb
          exact absurd hle (not_le.mpr hx)
        | succ j => exact ⟨j, a, b, by omega, ha, hb, hle⟩
    case isFalse hx =>
      exact finds_here ⟨0, y, x, rfl, rfl, rfl, not_lt.mp hx⟩ fun i ⟨j, _, _, hi, _⟩ => by omega

/-- The first value of a list that does not exceed the one before it. -/
theorem finds_failingRise (xs : List Int) :
    Finds (fun i => ∃ j a b, i = j + 1 ∧ xs[j]? = some a ∧ xs[i]? = some b ∧ b ≤ a) (failingRise 0 none xs) := by
  cases xs with
  | nil => exact finds_none fun i ⟨j, a, b, _, ha, _⟩ => by simp at ha
  | cons x rest =>
    refine (finds_failingRise_after 1 x rest).congr fun i => ⟨?_, ?_⟩
    · rintro ⟨j, a, b, rfl, ha, hb, hle⟩
      exact ⟨j, a, b, Nat.add_comm 1 j, ha, by simpa [Nat.add_comm 1 j] using hb, hle⟩
    · rintro ⟨j, a, b, rfl, ha, hb, hle⟩
      exact ⟨j, a, b, Nat.add_comm j 1, ha, by simpa using hb, hle⟩

/-- A list in which no value fails rises. -/
theorem rising_of_failingRise {xs : List Int} (h : failingRise 0 none xs = none) : rising xs := by
  rw [(finds_failingRise xs).eq_none_iff] at h
  refine List.isChain_iff_pairwise.mp (List.isChain_iff_getElem.mpr fun i hi => ?_)
  by_contra hge
  exact h (i + 1) ⟨i, xs[i], xs[i + 1], rfl, List.getElem?_eq_getElem (by omega), List.getElem?_eq_getElem hi,
    not_lt.mp hge⟩

/-- The first start that is no 0, or that does not exceed the one before it. -/
theorem finds_failingStart (xs : List Int) :
    Finds (fun i => (i = 0 ∧ ∃ x, xs[0]? = some x ∧ x ≠ 0) ∨
      ∃ j a b, i = j + 1 ∧ xs[j]? = some a ∧ xs[i]? = some b ∧ b ≤ a) (failingStart xs) := by
  cases xs with
  | nil =>
    refine finds_none fun i => ?_
    rintro (⟨-, x, hx, -⟩ | ⟨j, a, b, -, ha, -⟩)
    · simp at hx
    · simp at ha
  | cons x rest =>
    rw [failingStart]
    split
    case isTrue hx => exact (finds_failingRise (x :: rest)).congr fun i => by simp [hx]
    case isFalse hx => exact finds_here (.inl ⟨rfl, x, rfl, hx⟩) fun i _ => Nat.zero_le i

theorem rising_of_failingStart {xs : List Int} (h : failingStart xs = none) : rising xs := by
  cases xs with
  | nil => exact List.Pairwise.nil
  | cons x rest =>
    rw [failingStart] at h
    split at h
    · exact rising_of_failingRise h
    · cases h

/-- The NODE entry i, of this role, breaks a condition of the table: OA's entry is in use, or an entry before it, here or
among those seen, holds the same single role. -/
def Node.Breaks (oa : Byte) (seen : List Role) (ns : List Node) (i j : Nat) (x : Node) : Prop :=
  (byteOf (i + 1) = oa ∧ x.role ≠ .unused) ∨
    (x.role.single = true ∧ (x.role ∈ seen ∨ ∃ k y, k < j ∧ ns[k]? = some y ∧ y.role = x.role))

theorem finds_failingNode (oa : Byte) (n : Nat) (seen : List Role) (ns : List Node) :
    Finds (fun i => ∃ j x, i = n + j ∧ ns[j]? = some x ∧ Node.Breaks oa seen ns i j x) (failingNode oa n seen ns) := by
  induction ns generalizing n seen with
  | nil => exact finds_none fun i ⟨j, x, _, hx, _⟩ => by simp at hx
  | cons x rest ih =>
    rw [failingNode]
    split
    case isTrue hx =>
      exact finds_here ⟨0, x, rfl, rfl, hx.imp_right fun h => h.imp_right .inl⟩ fun i ⟨j, _, hi, _⟩ => by omega
    case isFalse hx =>
      refine (ih (n + 1) (x.role :: seen)).congr fun i => ⟨?_, ?_⟩
      · rintro ⟨j, y, rfl, hy, hbreaks⟩
        refine ⟨j + 1, y, by omega, hy, hbreaks.imp_right fun h => h.imp_right ?_⟩
        rintro (hseen | ⟨k, z, hk, hz, hrole⟩)
        · obtain hrole | hseen := List.mem_cons.mp hseen
          · exact .inr ⟨0, x, by omega, rfl, hrole.symm⟩
          · exact .inl hseen
        · exact .inr ⟨k + 1, z, by omega, hz, hrole⟩
      · rintro ⟨j, y, rfl, hy, hbreaks⟩
        cases j with
        | zero =>
          obtain rfl : x = y := by simpa using hy
          refine absurd (hbreaks.imp_right fun h => h.imp_right ?_) hx
          rintro (hseen | ⟨k, z, hk, -⟩)
          · exact hseen
          · omega
        | succ j =>
          refine ⟨j, y, by omega, hy, hbreaks.imp_right fun h => h.imp_right ?_⟩
          rintro (hseen | ⟨k, z, hk, hz, hrole⟩)
          · exact .inl (List.mem_cons_of_mem _ hseen)
          · cases k with
            | zero =>
              obtain rfl : x = z := by simpa using hz
              exact .inl (List.mem_cons.mpr (.inl hrole.symm))
            | succ k => exact .inr ⟨k, z, by omega, hz, hrole⟩

/-! ### The parts of validation -/

section

variable {oa : Byte} {t : TableId} {es : List (List Byte)}

theorem validate_of_count (h : ¬ (t.least ≤ es.length ∧ es.length ≤ t.capacity)) :
    validate oa t es = some (es.length, .count) :=
  if_pos (by omega)

theorem validate_of_range (hcount : t.least ≤ es.length ∧ es.length ≤ t.capacity) {i : Nat}
    (h : firstFailing (entryHolds t) 0 es = some i) : validate oa t es = some (i, .range) := by
  rw [validate, if_neg (by omega), h]

theorem validate_of_order (hcount : t.least ≤ es.length ∧ es.length ≤ t.capacity)
    (h : firstFailing (entryHolds t) 0 es = none) :
    validate oa t es = (failingOrder oa t es).map fun i => (i, t.orderReason) := by
  rw [validate, if_neg (by omega), h]

/-- What validation passes breaks none of its table's own conditions. -/
theorem failingOrder_none (h : validate oa t es = none) : failingOrder oa t es = none := by
  unfold validate at h
  split at h
  · cases h
  · split at h
    · cases h
    · simpa using h

end

end Sys2Proof.Machine

end

/-! ## What a command can do to the tables (R175–R178, R180, R182, R186)

Only a request of the manager and the end of a step reach the Management Agent. `MgaAct` says once what a row's act can
do to it, and the laws of the tables are read off that. -/

section

namespace Sys2Proof.Machine

/-- PARKED or TRIPPED, where haul tables take effect (R177, R178). -/
def State.Halted (s : State) : Prop := s.hlc.state = .parked ∨ s.hlc.state = .tripped

/-! ### Shadows -/

theorem allTables_idx (t : TableId) : allTables[t.idx.val]? = some t := by cases t <;> rfl

theorem TableId.idx_inj {t u : TableId} (h : t.idx = u.idx) : t = u :=
  Option.some.inj ((allTables_idx t).symm.trans (h ▸ allTables_idx u))

theorem shadow_setShadow_self (m : Mga) (t : TableId) (y : Shadow) : (m.setShadow t y).shadow t = y := by
  simp [Mga.shadow, Mga.setShadow]

theorem shadow_setShadow_of_ne (m : Mga) {t u : TableId} (h : u ≠ t) (y : Shadow) :
    (m.setShadow t y).shadow u = m.shadow u := by
  have hidx : t.idx.val ≠ u.idx.val := fun heq => h (TableId.idx_inj (Fin.ext heq)).symm
  simp [Mga.shadow, Mga.setShadow, hidx]

section

variable (x : Shadow) (oa : Byte) (t : TableId) (first : Nat) (es : List (List Byte))

theorem written_entries (last : Bool) : (x.written oa t first es last).entries =
    (if first = 0 then [] else x.entries) ++ es := by
  unfold Shadow.written
  cases last with
  | false => rfl
  | true => cases h : validate oa t ((if first = 0 then [] else x.entries) ++ es) <;> simp [h]

theorem written_of_more : (x.written oa t first es false).state = .filling ∧
    (x.written oa t first es false).failure = none := ⟨rfl, rfl⟩

/-- The last LOAD validates the shadow (R176). -/
theorem written_of_last : let y := x.written oa t first es true
    y.failure = validate oa t y.entries ∧ (y.state = .valid ↔ y.failure = none) ∧
    (y.state = .invalid ↔ y.failure ≠ none) := by
  simp only [written_entries]
  unfold Shadow.written
  cases h : validate oa t ((if first = 0 then [] else x.entries) ++ es) <;> simp [h]

theorem validate_of_written {last : Bool} (h : (x.written oa t first es last).state = .valid) :
    validate oa t (x.written oa t first es last).entries = none := by
  cases last with
  | false => simp [written_of_more] at h
  | true =>
    obtain ⟨hfailure, hvalid, -⟩ := written_of_last x oa t first es
    rw [← hfailure]
    exact hvalid.mp h

end

/-! ### ACTIVATE, case by case (R177) -/

theorem notValid_eq_none_iff {m : Mga} {mask : Byte} :
    m.notValid mask = none ↔ ∀ t, names mask t = true → (m.shadow t).state = .valid := by
  have hmem : ∀ t : TableId, t ∈ allTables := fun t => List.mem_of_getElem? (allTables_idx t)
  simp [Mga.notValid, List.find?_eq_none, hmem]

section

variable {mask : Byte} {s : State}

theorem decideActivate_of_bad (h : badMask mask = true) : decideActivate mask s = refuse .badMask s := by
  rw [decideActivate, if_pos h]

theorem decideActivate_of_waiting (hmask : badMask mask = false) (h : s.mga.pendingMask ≠ none) :
    decideActivate mask s = refuse .alreadyPending s := by
  rw [decideActivate, hmask, if_neg Bool.false_ne_true, if_pos (Option.isSome_iff_ne_none.mpr h)]

theorem decideActivate_of_invalid (hmask : badMask mask = false) (hnone : s.mga.pendingMask = none) {t : TableId}
    (h : s.mga.notValid mask = some t) :
    decideActivate mask s = { result := .notValid, body := [t.code], state := s } := by
  rw [decideActivate, hmask, hnone, h]
  rfl

/-- A mask whose shadows are VALID. -/
theorem decideActivate_of_valid (hmask : badMask mask = false) (hnone : s.mga.pendingMask = none)
    (h : s.mga.notValid mask = none) : decideActivate mask s =
      if haulMask mask = false then accept [mask] (takeEffect mask false s)
      else if s.hlc.state = .parked ∨ s.hlc.state = .tripped then activateNow mask s
      else { result := .acceptedPending, body := [mask],
             state := s.withMga { s.mga with pendingMask := some mask } } := by
  simp only [decideActivate, hmask, hnone, h, Option.isSome_none, Bool.false_eq_true, if_false, Bool.not_eq_true']

theorem activateNow_of_passed (h : crossChecks (s.mga.after mask) s.adu = none) :
    activateNow mask s = accept [mask] (takeEffect mask false s) := by
  simp only [activateNow, h]

theorem activateNow_of_failed {n i : Nat} (h : crossChecks (s.mga.after mask) s.adu = some (n, i)) :
    activateNow mask s =
      { result := .checkFailed, body := [byteOf n] ++ be16 i, state := raiseFailed mask n i s } := by
  simp only [activateNow, h]

/-! ### Taking effect (R180) -/

theorem takeEffect_mga (mask : Byte) (wasPending : Bool) (s : State) :
    (takeEffect mask wasPending s).mga = { s.mga with active := s.mga.after mask } := by
  simp only [takeEffect, noticeTables_frame, raiseActivated_frame]
  split <;> simp [copyTables]

/-- A mask that ACTIVATE takes, of PRODUCT, HOTLIST and REPORTLEVEL, brings no notices, and the haul stands. -/
theorem takeEffect_hlc_of_report (hmask : badMask mask = false) (hhaul : haulMask mask = false) (wasPending : Bool)
    (s : State) : (takeEffect mask wasPending s).hlc = s.hlc := by
  have hlow : mask &&& 0x1F = 0 := by
    have hhigh : mask &&& 0xE0 ≠ 0 := by simpa [haulMask] using hhaul
    by_contra hlow
    exact hhigh ((by simpa using (Bool.or_eq_false_iff.mp hmask).2 : mask &&& 0x1F ≠ 0 → mask &&& 0xE0 = 0) hlow)
  simp only [takeEffect, noticeTables_of_report (names_line_of_low hlow) hhaul, raiseActivated_frame]
  split <;> simp

end

/-! ### The acts -/

/-- What a row's act can do to the Management Agent. -/
inductive MgaAct (s t : State) : Prop
  | same (h : t.mga = s.mga)
  | load (x : TableId) (y : Shadow) (hhlc : t.hlc = s.hlc) (hfree : s.mga.isPending x = false)
      (hvalid : y.state = .valid → validate s.oaByte x y.entries = none) (h : t.mga = s.mga.setShadow x y)
  | day (d : BitVec 16) (hhlc : t.hlc = s.hlc) (h : t.mga = { s.mga with day := d })
  | cancelled (hhlc : t.hlc = s.hlc ∨ s.Halted) (h : t.mga = { s.mga with pendingMask := none })
  | pending (mask : Byte) (hhlc : t.hlc = s.hlc) (hmoving : ¬ s.Halted) (hmask : haulMask mask = true)
      (hvalid : ∀ x, names mask x = true → (s.mga.shadow x).state = .valid)
      (h : t.mga = { s.mga with pendingMask := some mask })
  | effect (mask : Byte) (hhlc : t.hlc = s.hlc ∨ s.Halted)
      (hvalid : ∀ x, names mask x = true → (s.mga.shadow x).state = .valid)
      (h : t.mga = { s.mga with active := s.mga.after mask })

/-- An act is judged by the tables, the haul and the address alone. -/
theorem MgaAct.congr {s s' t t' : State} (h : MgaAct s t) (hmga : s'.mga = s.mga) (hhlc : s'.hlc = s.hlc)
    (hoa : s'.oa = s.oa) (htmga : t'.mga = t.mga) (hthlc : t'.hlc = t.hlc) : MgaAct s' t' := by
  have hbyte : s'.oaByte = s.oaByte := congrArg (BitVec.setWidth 8) hoa
  have hhalt : s'.Halted ↔ s.Halted := by unfold State.Halted; rw [hhlc]
  have hstands : t'.hlc = s'.hlc ↔ t.hlc = s.hlc := by rw [hthlc, hhlc]
  cases h with
  | same h => exact .same (by rw [htmga, h, hmga])
  | load x y hkept hfree hvalid h =>
    exact .load x y (hstands.mpr hkept) (hmga ▸ hfree) (hbyte ▸ hvalid) (by rw [htmga, h, hmga])
  | day d hkept h => exact .day d (hstands.mpr hkept) (by rw [htmga, h, hmga])
  | cancelled hkept h => exact .cancelled (hkept.imp hstands.mpr hhalt.mpr) (by rw [htmga, h, hmga])
  | pending mask hkept hmoving hmask hvalid h =>
    exact .pending mask (hstands.mpr hkept) (mt hhalt.mp hmoving) hmask (hmga ▸ hvalid) (by rw [htmga, h, hmga])
  | effect mask hkept hvalid h =>
    exact .effect mask (hkept.imp hstands.mpr hhalt.mpr) (hmga ▸ hvalid) (by rw [htmga, h, hmga])

section

variable (s : State)

theorem mgaAct_decideLoad (body : List Byte) : MgaAct s (decideLoad body s).state := by
  unfold decideLoad
  split
  case h_1 t _ =>
    simp only [loadTable]
    cases hfree : s.mga.isPending t with
    | true => exact .same (by simp)
    | false =>
      simp only [Bool.false_eq_true, if_false]
      (repeat' split)
      · exact .same (by simp)
      · exact .same (by simp)
      · exact .same (by simp)
      · exact .load t _ rfl hfree (validate_of_written _ _ _ _ _) rfl
  case h_2 => exact .same (by simp)

theorem mgaAct_decideActivate (mask : Byte) : MgaAct s (decideActivate mask s).state := by
  cases hmask : badMask mask with
  | true => rw [decideActivate_of_bad hmask]; exact .same rfl
  | false =>
  cases hpending : s.mga.pendingMask with
  | some waiting => rw [decideActivate_of_waiting hmask (by simp [hpending])]; exact .same rfl
  | none =>
  cases hnotValid : s.mga.notValid mask with
  | some t => rw [decideActivate_of_invalid hmask hpending hnotValid]; exact .same rfl
  | none =>
  have hvalid := notValid_eq_none_iff.mp hnotValid
  rw [decideActivate_of_valid hmask hpending hnotValid]
  split
  case isTrue hhaul =>
    exact .effect mask (.inl (takeEffect_hlc_of_report hmask hhaul false s)) hvalid (takeEffect_mga mask false s)
  case isFalse hhaul =>
    split
    case isTrue hhalted =>
      cases hchecks : crossChecks (s.mga.after mask) s.adu with
      | some r => rw [activateNow_of_failed hchecks]; exact .same (by simp)
      | none =>
        rw [activateNow_of_passed hchecks]
        exact .effect mask (.inr hhalted) hvalid (takeEffect_mga mask false s)
    case isFalse hmoving => exact .pending mask rfl hmoving (by simpa using hhaul) hvalid rfl

theorem mgaAct_decideCancel : MgaAct s (decideCancel s).state := by
  unfold decideCancel
  split
  · exact .cancelled (.inl rfl) rfl
  · exact .same rfl

theorem mgaAct_decideReinit : MgaAct s (decideReinit s).state := by
  unfold decideReinit
  split
  case isTrue hhalted => exact .cancelled (.inr hhalted) (by simp [accept, reinit])
  case isFalse => exact .same rfl

theorem mgaAct_decideRequest (code : Byte) (body : List Byte) : MgaAct s (decideRequest code body s).state := by
  unfold decideRequest
  split
  · split
    · rename_i r _ _
      cases r with
      | load => exact mgaAct_decideLoad s body
      | activate => exact mgaAct_decideActivate s _
      | cancelActivate => exact mgaAct_decideCancel s
      | setDay => exact .day _ rfl rfl
      | reinit => exact mgaAct_decideReinit s
      | _ => exact .same (by simp [Request.decide])
    · exact .same rfl
  · exact .same rfl

end

theorem mgaAct_takeFrame (rx : List Byte) (s : State) : MgaAct s (takeFrame rx s) := by
  have hoa : (takeFrame rx s).oa = s.oa := by simp
  generalize htaken : takeFrame rx s = t at hoa
  have hact : FrameAct s t := htaken ▸ frameAct_takeFrame rx s
  cases hact with
  | @request u hu f =>
    have hdecided := mgaAct_decideRequest u (byteAt f.payload 0) (f.payload.drop 2)
    exact hdecided.congr hu.mga.symm hu.hlc.symm (by simpa using hoa.symm) rfl rfl
  | ring hu => exact .same hu.mga
  | sample hu | marker hu | drive hu | doorReport hu | lineCmd hu | doorReq hu => exact .same (by simp [hu.mga])

theorem mgaAct_rowAct (c : Instr) (s : State) : MgaAct s (rowAct c s) := by
  unfold rowAct
  split
  · exact mgaAct_takeFrame _ s
  · cases c with
    | frameForward _ rx => exact mgaAct_takeFrame rx s
    | _ => exact .same (by simp [edgeAct])

/-! ### What is read off an act -/

section

variable {s t : State}

/-- Out of PARKED and TRIPPED no act changes both the tables and the haul. -/
theorem MgaAct.mga_or_hlc (h : MgaAct s t) (hmoving : ¬ s.Halted) : t.mga = s.mga ∨ t.hlc = s.hlc := by
  cases h with
  | same h => exact .inl h
  | load x y hhlc | day d hhlc | pending mask hhlc => exact .inr hhlc
  | cancelled hhlc | effect mask hhlc => exact .inr (hhlc.resolve_right hmoving)

/-- In PARKED and TRIPPED no act makes an activation pending. -/
theorem MgaAct.pendingMask_none (h : MgaAct s t) (hhalted : s.Halted) (hnone : s.mga.pendingMask = none) :
    t.mga.pendingMask = none := by
  cases h with
  | pending mask _ hmoving => exact absurd hhalted hmoving
  | same h | load _ _ _ _ _ h | day _ _ h | effect _ _ _ h => rw [h]; exact hnone
  | cancelled _ h => rw [h]

end

/-! ### The end of a step (R178) -/

section

variable {before after : State} {mask : Byte}

theorem settle_of_pending (hchanged : after.hlc.state ≠ before.hlc.state) (hhalted : after.Halted)
    (hmask : after.mga.pendingMask = some mask) : settle before after = takePending mask after := by
  rw [settle, if_pos ⟨hchanged, hhalted⟩, hmask]

theorem takePending_of_passed {s : State} (h : crossChecks (s.mga.after mask) s.adu = none) :
    takePending mask s = takeEffect mask true (s.withMga { s.mga with pendingMask := none }) := by
  have htaken : crossChecks (Mga.after { s.mga with pendingMask := none } mask) s.adu = none := h
  simp only [takePending, State.withMga_mga, State.withMga_adu, htaken]

theorem takePending_of_failed {s : State} {n i : Nat} (h : crossChecks (s.mga.after mask) s.adu = some (n, i)) :
    takePending mask s = raiseFailed mask n i (s.withMga { s.mga with pendingMask := none }) := by
  have htaken : crossChecks (Mga.after { s.mga with pendingMask := none } mask) s.adu = some (n, i) := h
  simp only [takePending, State.withMga_mga, State.withMga_adu, htaken]

theorem takePending_mga_of_passed {s : State} (h : crossChecks (s.mga.after mask) s.adu = none) :
    (takePending mask s).mga = { s.mga with pendingMask := none, active := s.mga.after mask } := by
  rw [takePending_of_passed h, takeEffect_mga]
  rfl

theorem takePending_mga_of_failed {s : State} (h : crossChecks (s.mga.after mask) s.adu ≠ none) :
    (takePending mask s).mga = { s.mga with pendingMask := none } := by
  obtain ⟨⟨n, i⟩, hr⟩ := Option.ne_none_iff_exists'.mp h
  rw [takePending_of_failed hr, (raiseFailed_frame mask n i _).2.2.2.2.2.2.1]
  rfl

/-- A pending activation that is taken is pending no more. -/
theorem takePending_pendingMask (mask : Byte) (s : State) : (takePending mask s).mga.pendingMask = none := by
  by_cases h : crossChecks (s.mga.after mask) s.adu = none
  · rw [takePending_mga_of_passed h]
  · rw [takePending_mga_of_failed h]

end

end Sys2Proof.Machine

end

/-! ## The laws of the tables are kept (R176–R178, R180) -/

section

namespace Sys2Proof.Machine

/-- The laws of the tables that the Management Agent alone is read for, at a part of this address. -/
structure Mga.Lawful (m : Mga) (oa : Byte) : Prop where
  stop : ∀ t, m.active.stop = some t → rising (t.map (·.pos))
  profile : ∀ t, m.active.profile = some t → rising (t.map (·.start))
  product : ∀ t, m.active.product = some t → rising (t.map fun p => (p.code.toNat : Int))
  hotlist : ∀ t, m.active.hotlist = some t → rising (t.map fun x => (x.toNat : Int))
  shadows : ∀ t, (m.shadow t).state = .valid → validate oa t (m.shadow t).entries = none
  pending : ∀ mask, m.pendingMask = some mask →
    haulMask mask = true ∧ ∀ t, names mask t = true → (m.shadow t).state = .valid

theorem tablesSound_iff {s : State} :
    TablesSound s ↔ s.mga.Lawful s.oaByte ∧ (s.Halted → s.mga.pendingMask = none) := by
  constructor
  · intro h
    refine ⟨{ h with pending := fun mask hmask => ?_ }, fun hhalted => ?_⟩
    · obtain ⟨hhaul, hvalid, -⟩ := h.pending mask hmask
      exact ⟨hhaul, hvalid⟩
    · refine Option.eq_none_iff_forall_ne_some.mpr fun mask hmask => ?_
      obtain ⟨-, -, hparked, htripped⟩ := h.pending mask hmask
      exact hhalted.elim hparked htripped
  · rintro ⟨h, hwaits⟩
    refine { h with pending := fun mask hmask => ?_ }
    obtain ⟨hhaul, hvalid⟩ := h.pending mask hmask
    have hmoving : ¬ s.Halted := fun hhalted => by simp [hwaits hhalted] at hmask
    exact ⟨hhaul, hvalid, fun hparked => hmoving (.inl hparked), fun htripped => hmoving (.inr htripped)⟩

section

variable {m : Mga} {oa mask : Byte}

/-- VALID shadows put in force are in ascending order (R176, R180). -/
theorem Mga.Lawful.after (h : m.Lawful oa) (hvalid : ∀ t, names mask t = true → (m.shadow t).state = .valid) :
    Mga.Lawful { m with active := m.after mask } oa := by
  have horder : ∀ t, names mask t = true → failingOrder oa t (m.shadow t).entries = none :=
    fun t ht => failingOrder_none (h.shadows t (hvalid t ht))
  refine { h with stop := fun t ht => ?_, profile := fun t ht => ?_, product := fun t ht => ?_, hotlist := fun t ht => ?_ }
  · rw [after_stop] at ht
    split at ht
    · cases ht
      rw [List.map_map]
      exact rising_of_failingRise (horder .stop ‹_›)
    · exact h.stop t ht
  · rw [after_profile] at ht
    split at ht
    · cases ht
      rw [List.map_map]
      exact rising_of_failingStart (horder .profile ‹_›)
    · exact h.profile t ht
  · rw [after_product] at ht
    split at ht
    · cases ht
      rw [List.map_map]
      exact rising_of_failingRise (horder .product ‹_›)
    · exact h.product t ht
  · rw [after_hotlist] at ht
    split at ht
    · cases ht
      rw [List.map_map]
      exact rising_of_failingRise (horder .hotlist ‹_›)
    · exact h.hotlist t ht

theorem Mga.Lawful.withoutPending (h : m.Lawful oa) : Mga.Lawful { m with pendingMask := none } oa :=
  { h with pending := fun _ hmask => nomatch hmask }

/-- A shadow that the pending activation does not name is loaded. -/
theorem Mga.Lawful.setShadow (h : m.Lawful oa) {x : TableId} {y : Shadow} (hfree : m.isPending x = false)
    (hvalid : y.state = .valid → validate oa x y.entries = none) : (m.setShadow x y).Lawful oa := by
  refine { h with shadows := fun t ht => ?_, pending := fun mask hmask => ?_ }
  · by_cases htx : t = x
    · subst htx
      rw [shadow_setShadow_self] at ht ⊢
      exact hvalid ht
    · rw [shadow_setShadow_of_ne m htx] at ht ⊢
      exact h.shadows t ht
  · obtain ⟨hhaul, hnamed⟩ := h.pending mask hmask
    have hpending : m.pendingMask = some mask := hmask
    refine ⟨hhaul, fun t ht => ?_⟩
    have htx : t ≠ x := by
      rintro rfl
      simp [Mga.isPending, hpending, ht] at hfree
    rw [shadow_setShadow_of_ne m htx]
    exact hnamed t ht

end

/-- The laws are kept by every act. -/
theorem Mga.Lawful.act {s t : State} (h : s.mga.Lawful s.oaByte) (hact : MgaAct s t) : t.mga.Lawful s.oaByte := by
  cases hact with
  | same ht => rw [ht]; exact h
  | load x y _ hfree hvalid ht => rw [ht]; exact h.setShadow hfree hvalid
  | day d _ ht => rw [ht]; exact { h with }
  | cancelled _ ht => rw [ht]; exact h.withoutPending
  | pending mask _ _ hmask hvalid ht =>
    rw [ht]
    exact { h with pending := fun other hother => by cases hother; exact ⟨hmask, hvalid⟩ }
  | effect mask _ hvalid ht => rw [ht]; exact h.after hvalid

/-- The laws are kept where a pending activation is taken. -/
theorem Mga.Lawful.takePending {s : State} {oa mask : Byte} (h : s.mga.Lawful oa)
    (hmask : s.mga.pendingMask = some mask) : (takePending mask s).mga.Lawful oa := by
  obtain ⟨-, hvalid⟩ := h.pending mask hmask
  by_cases hchecks : crossChecks (s.mga.after mask) s.adu = none
  · rw [takePending_mga_of_passed hchecks]
    exact (h.after hvalid).withoutPending
  · rw [takePending_mga_of_failed hchecks]
    exact h.withoutPending

/-- A row's act and the end of its step: where the step leads into PARKED or TRIPPED the end takes what is pending, and
in PARKED and TRIPPED nothing becomes pending. -/
theorem tablesSound_settle {s : State} (h : TablesSound s) (c : Instr) : TablesSound (settle s (rowAct c s)) := by
  obtain ⟨hlawful, hwaits⟩ := tablesSound_iff.mp h
  have hact := mgaAct_rowAct c s
  have hoa : (rowAct c s).oaByte = s.oaByte := by simp [State.oaByte]
  have hkept := hlawful.act hact
  generalize rowAct c s = u at hact hoa hkept
  have hend : (settle s u).oaByte = s.oaByte := by rw [← hoa]; simp [State.oaByte]
  by_cases htaken : u.hlc.state ≠ s.hlc.state ∧ u.Halted
  · cases hmask : u.mga.pendingMask with
    | none =>
      rw [settle_of_none hmask]
      exact tablesSound_iff.mpr ⟨hoa ▸ hkept, fun _ => hmask⟩
    | some mask =>
      rw [tablesSound_iff, hend, settle_of_pending htaken.1 htaken.2 hmask]
      exact ⟨hkept.takePending hmask, fun _ => takePending_pendingMask mask u⟩
  · have hsame : settle s u = u := if_neg htaken
    rw [hsame]
    refine tablesSound_iff.mpr ⟨hoa ▸ hkept, fun hhalted => ?_⟩
    have hstate : u.hlc.state = s.hlc.state := not_not.mp fun hchanged => htaken ⟨hchanged, hhalted⟩
    have hbefore : s.Halted := by unfold State.Halted; rw [← hstate]; exact hhalted
    exact hact.pendingMask_none hbefore (hwaits hbefore)

theorem powerOn_tablesSound (oa ma : BitVec 6) (chain key : Level) (s : State) :
    TablesSound (powerOn oa ma chain key s) := by
  obtain ⟨-, -, -, -, -, hmga, -⟩ := powerOn_blocks oa ma chain key s
  have hlawful : Mga.reset.Lawful (powerOn oa ma chain key s).oaByte :=
    ⟨nofun, nofun, nofun, nofun, fun t ht => by simp at ht, nofun⟩
  exact tablesSound_iff.mpr ⟨hmga ▸ hlawful, fun _ => by rw [hmga]; rfl⟩

/-- Settles O9: the laws of the Management Agent are kept by each of its acts, and the end of a step leaves no activation
pending in PARKED or TRIPPED. -/
theorem everyStepKeepsTheTableLaws : Obligations.EveryStepKeepsTheTableLaws := by
  unfold Obligations.EveryStepKeepsTheTableLaws
  intro s t h ht
  refine step_keeps (P := TablesSound) powerOn_tablesSound (fun _ h => { h with }) (fun _ _ h => { h with })
    (fun elapsed c s h => ?_) h ht
  have hbegun : TablesSound (begin elapsed s) := { h with }
  exact tablesSound_settle hbegun c

end Sys2Proof.Machine

end

/-! ## LOAD and CANCEL_ACTIVATE (R171, R175, R176, R182) -/

section

namespace Sys2Proof.Machine

/-! ### Entries cut from a run of bytes (R175) -/

theorem sizeOf_eq_sum (t : TableId) (first n : Nat) :
    t.sizeOf first n = ((List.range n).map fun i => t.entrySize (first + i)).sum := by
  induction n generalizing first with
  | zero => rfl
  | succ n ih =>
    have hshift : ∀ i, first + 1 + i = first + (i + 1) := fun i => by omega
    simp only [TableId.sizeOf, ih, hshift, List.range_succ_eq_map, List.map_cons, List.sum_cons, List.map_map,
      Function.comp_def, Nat.add_zero, Nat.succ_eq_add_one]

/-- Bytes of the size of n entries are cut into n entries, each of its own size. -/
theorem splitEntries_spec (t : TableId) (first n : Nat) {bs : List Byte} (h : bs.length = t.sizeOf first n) :
    (splitEntries t first n bs).flatten = bs ∧ (splitEntries t first n bs).length = n ∧
    ∀ i e, (splitEntries t first n bs)[i]? = some e → e.length = t.entrySize (first + i) := by
  induction n generalizing first bs with
  | zero => exact ⟨(List.eq_nil_of_length_eq_zero h).symm, rfl, fun i e he => by simp [splitEntries] at he⟩
  | succ n ih =>
    rw [TableId.sizeOf] at h
    obtain ⟨hflatten, hlength, hsizes⟩ := ih (first + 1) (bs := bs.drop (t.entrySize first)) (by simp [h])
    rw [splitEntries]
    refine ⟨by simp [hflatten], by simp [hlength], fun i e he => ?_⟩
    cases i with
    | zero =>
      obtain rfl : bs.take (t.entrySize first) = e := by simpa using he
      simp [h]
    | succ i => rw [hsizes i e (by simpa using he), Nat.add_right_comm, Nat.add_assoc]

/-! ### The checks of LOAD (R175) -/

theorem isPending_iff {m : Mga} {t : TableId} :
    m.isPending t = true ↔ ∃ mask, m.pendingMask = some mask ∧ names mask t = true := by
  unfold Mga.isPending
  cases m.pendingMask <;> simp

section

variable {s : State} {t : TableId} {first count : Nat} {last : Bool} {bs : List Byte}

theorem loadTable_of_pending (h : s.mga.isPending t = true) :
    loadTable t first count last bs s = refuse .activationPending s := if_pos h

theorem loadTable_of_range (hfree : ¬ s.mga.isPending t = true) (h : t.capacity < first + count) :
    loadTable t first count last bs s = refuse .outOfRange s := by
  simp only [loadTable, if_neg hfree, if_pos h]

theorem loadTable_of_length (hfree : ¬ s.mga.isPending t = true) (hfits : first + count ≤ t.capacity)
    (h : bs.length ≠ t.sizeOf first count) : loadTable t first count last bs s = refuse .length s := by
  simp only [loadTable, if_neg hfree, if_neg (not_lt.mpr hfits), if_pos h]

theorem loadTable_of_order (hfree : ¬ s.mga.isPending t = true) (hfits : first + count ≤ t.capacity)
    (hsize : bs.length = t.sizeOf first count)
    (h : ¬ (first = 0 ∨ ((s.mga.shadow t).state = .filling ∧ first = (s.mga.shadow t).entries.length))) :
    loadTable t first count last bs s = refuse .outOfOrder s := by
  have hrefused : first ≠ 0 ∧ ((s.mga.shadow t).state ≠ .filling ∨ first ≠ (s.mga.shadow t).entries.length) := by
    tauto
  simp only [loadTable, if_neg hfree, if_neg (not_lt.mpr hfits), if_neg (not_not.mpr hsize), if_pos hrefused]

/-- The shadow that an accepted LOAD writes. -/
def State.loaded (s : State) (t : TableId) (first count : Nat) (last : Bool) (bs : List Byte) : Shadow :=
  (s.mga.shadow t).written s.oaByte t first (splitEntries t first count bs) last

theorem loadTable_of_accepted (hfree : ¬ s.mga.isPending t = true) (hfits : first + count ≤ t.capacity)
    (hsize : bs.length = t.sizeOf first count)
    (h : first = 0 ∨ ((s.mga.shadow t).state = .filling ∧ first = (s.mga.shadow t).entries.length)) :
    let y := s.loaded t first count last bs
    loadTable t first count last bs s = accept (y.loadBody t) (s.withMga (s.mga.setShadow t y)) := by
  have hpassed : ¬ (first ≠ 0 ∧
      ((s.mga.shadow t).state ≠ .filling ∨ first ≠ (s.mga.shadow t).entries.length)) := by
    tauto
  simp only [loadTable, if_neg hfree, if_neg (not_lt.mpr hfits), if_neg (not_not.mpr hsize), if_neg hpassed]
  rfl

end

/-! ### The request -/

section

variable {s : State} {table f1 f0 n last : Byte} {bytes : List Byte}

theorem decideRequest_load : decideRequest 0x02 (table :: f1 :: f0 :: n :: last :: bytes) s =
    decideLoad (table :: f1 :: f0 :: n :: last :: bytes) s := by
  have hlength : Request.load.lengthHolds (table :: f1 :: f0 :: n :: last :: bytes).length = true := by
    simp [Request.lengthHolds]
  have hrequest : requestOf 0x02 = some .load := rfl
  simp only [decideRequest, hrequest, hlength, if_true, Request.decide]

theorem decideLoad_of_no_table (h : tableOf table = none) :
    decideLoad (table :: f1 :: f0 :: n :: last :: bytes) s = refuse .badTable s := by
  have htable : byteAt (table :: f1 :: f0 :: n :: last :: bytes) 0 = table := rfl
  simp only [decideLoad, htable, h]

theorem decideLoad_of_table {t : TableId} (h : tableOf table = some t) :
    decideLoad (table :: f1 :: f0 :: n :: last :: bytes) s =
      loadTable t (f1 ++ f0).toNat n.toNat (last.getLsbD 0) bytes s := by
  have htable : byteAt (table :: f1 :: f0 :: n :: last :: bytes) 0 = table := rfl
  simp only [decideLoad, htable, h]
  rfl

end

/-- Settles O51: LOAD goes through the checks of `loadTable` in order, and writes `State.loaded` where they are passed. -/
theorem loadWritesTheShadowAlone : Obligations.LoadWritesTheShadowAlone := by
  unfold Obligations.LoadWritesTheShadowAlone
  intro s arr tag table f1 f0 n last bytes body h refused first size
  have hdecide : ∀ {d}, decideLoad body (s.asked arr) = d → decideRequest 0x02 body (s.asked arr) = d :=
    fun hd => decideRequest_load.trans hd
  have hrefused : ∀ {r : MgmtResult}, decideLoad body (s.asked arr) = refuse r (s.asked arr) → refused r.code :=
    fun hd => exec_of_refusal (c := .load arr tag body) rfl h (hdecide hd)
  refine ⟨fun htable => hrefused (decideLoad_of_no_table htable), fun t htable => ?_⟩
  intro x held order
  have hload := decideLoad_of_table (s := s.asked arr) (f1 := f1) (f0 := f0) (n := n) (last := last) (bytes := bytes)
    htable
  have hfree : ¬ held → ¬ (s.asked arr).mga.isPending t = true := mt isPending_iff.mp
  have hsize : size t = t.sizeOf first n.toNat := (sizeOf_eq_sum t first n.toNat).symm
  rw [hsize]
  refine ⟨fun hheld => ?_, fun hheld hrange => ?_, fun hheld hfits hlength => ?_,
    fun hheld hfits hlength horder => ?_, fun hheld hfits hlength horder => ?accepted⟩
  · exact hrefused (hload.trans (loadTable_of_pending (isPending_iff.mpr hheld)))
  · exact hrefused (hload.trans (loadTable_of_range (hfree hheld) hrange))
  · exact hrefused (hload.trans (loadTable_of_length (hfree hheld) hfits hlength))
  · exact hrefused (hload.trans (loadTable_of_order (hfree hheld) hfits hlength horder))
  case accepted =>
    obtain ⟨hflatten, hcount, hsizes⟩ := splitEntries_spec t first n.toNat hlength
    refine ⟨splitEntries t first n.toNat bytes, s.loaded t first n.toNat (last.getLsbD 0) bytes, hflatten, hcount,
      hsizes, written_entries _ _ _ _ _ _, fun hlast => ?_, fun hlast => ?_, ?_, rfl,
      fun t' ht' => shadow_setShadow_of_ne s.mga ht' _⟩
    · rw [hlast]
      exact written_of_more _ _ _ _ _
    · rw [hlast]
      exact written_of_last _ _ _ _ _
    · exact exec_of_decided (c := .load arr tag body) rfl h
        (hdecide (hload.trans (loadTable_of_accepted (hfree hheld) hfits hlength horder))) rfl

/-! ### CANCEL_ACTIVATE (R182) -/

theorem decideCancel_of_pending {s : State} {mask : Byte} (h : s.mga.pendingMask = some mask) :
    decideCancel s = accept [mask] (s.withMga { s.mga with pendingMask := none }) := by
  simp only [decideCancel, h]

theorem decideCancel_of_none {s : State} (h : s.mga.pendingMask = none) : decideCancel s = refuse .nothingPending s := by
  simp only [decideCancel, h]

theorem decideRequest_cancel (s : State) : decideRequest 0x04 [] s = decideCancel s := rfl

/-- Settles O57: the one check of `decideCancel`. -/
theorem cancelEndsThePendingActivation : Obligations.CancelEndsThePendingActivation := by
  unfold Obligations.CancelEndsThePendingActivation
  exact fun s arr tag h =>
    ⟨fun mask hmask => exec_of_decided (c := .cancelActivate arr tag []) rfl h
      ((decideRequest_cancel _).trans (decideCancel_of_pending (s := s.asked arr) hmask)) rfl,
    fun hnone => exec_of_refusal (c := .cancelActivate arr tag []) (r := .nothingPending) rfl h
      ((decideRequest_cancel _).trans (decideCancel_of_none (s := s.asked arr) hnone))⟩

end Sys2Proof.Machine

end

/-! ## Validation against the ranges and conditions of the eight tables (R171–R173, R176) -/

section

namespace Sys2Proof.Machine

/-! ### Numbers in a run of bytes -/

theorem take_drop_eq_map_byteAt {e : List Byte} {k w : Nat} (h : k + w ≤ e.length) :
    (e.drop k).take w = (List.range w).map fun j => byteAt e (k + j) := by
  refine List.ext_getElem (by simp; omega) fun j hj _ => ?_
  have hbound : k + j < e.length := by simp at hj; omega
  simp [byteAt, List.getD, List.getElem?_eq_getElem hbound]

theorem natOf_head (e : List Byte) : natOf (e.take 1) = (byteAt e 0).toNat := natOf_byte e 0

theorem natAt16_eq (e : List Byte) (k : Nat) :
    natAt16 e k = (byteAt e k).toNat * 256 + (byteAt e (k + 1)).toNat := by
  rw [natAt16, wordAt, BitVec.toNat_append, ← Nat.shiftLeft_add_eq_or_of_lt (byteAt e (k + 1)).isLt, Nat.shiftLeft_eq]

theorem natAt32_eq (e : List Byte) (k : Nat) : natAt32 e k = natAt16 e k * 65536 + natAt16 e (k + 2) := by
  rw [natAt32, longAt, BitVec.toNat_append, ← Nat.shiftLeft_add_eq_or_of_lt (wordAt e (k + 2)).isLt, Nat.shiftLeft_eq]
  rfl

theorem natOf_word {e : List Byte} {k : Nat} (h : k + 2 ≤ e.length) : natOf ((e.drop k).take 2) = natAt16 e k := by
  rw [take_drop_eq_map_byteAt h, natAt16_eq]
  simp [natOf, List.range_succ]

theorem natOf_long {e : List Byte} {k : Nat} (h : k + 4 ≤ e.length) : natOf ((e.drop k).take 4) = natAt32 e k := by
  rw [take_drop_eq_map_byteAt h, natAt32_eq, natAt16_eq, natAt16_eq, Nat.add_assoc k 2 1]
  simp [natOf, List.range_succ]
  omega

theorem natAt16_lt (e : List Byte) (k : Nat) : natAt16 e k ≤ 65535 := Nat.le_of_lt_succ (wordAt e k).isLt

theorem natAt32_lt (e : List Byte) (k : Nat) : natAt32 e k ≤ 4294967295 := Nat.le_of_lt_succ (longAt e k).isLt

/-- A signed field from 0 to a bound below 2³¹ is read as an unsigned one: a negative value exceeds the bound. -/
theorem intAt32_within {e : List Byte} {k hi : Nat} (h : hi < 2147483648) :
    (0 ≤ intAt32 e k ∧ intAt32 e k ≤ hi) ↔ natAt32 e k ≤ hi := by
  have hlt := natAt32_lt e k
  simp only [natAt32] at hlt ⊢
  simp only [intAt32, BitVec.toInt_eq_toNat_cond]
  split <;> omega

/-! ### The fields of an entry, by their places (R172, R173) -/

/-- The numbers of an entry, each an offset, a width and the bounds of its range, lie in their ranges. -/
def Within (e : List Byte) (fields : List (Nat × Nat × Nat × Nat)) : Prop :=
  ∀ x ∈ fields, x.2.2.1 ≤ natOf ((e.drop x.1).take x.2.1) ∧ natOf ((e.drop x.1).take x.2.1) ≤ x.2.2.2

/-- The numbers of a run of fields, from an offset on. -/
def numbersFrom : Nat → List Field → List (Nat × Nat × Nat × Nat)
  | _, [] => []
  | k, .num w lo hi :: fs => (k, w, lo, hi) :: numbersFrom (k + w) fs
  | k, .sign :: fs => numbersFrom (k + 1) fs

/-- The offsets of the sign bytes of a run of fields, from an offset on. -/
def signsFrom : Nat → List Field → List Nat
  | _, [] => []
  | k, .num w _ _ :: fs => signsFrom (k + w) fs
  | k, .sign :: fs => k :: signsFrom (k + 1) fs

/-- A sign byte (R173). -/
def SignAt (e : List Byte) (k : Nat) : Prop := byteAt e k = 0x01 ∨ byteAt e k = 0xFF

section

variable {e : List Byte} {xs ys : List (Nat × Nat × Nat × Nat)}

theorem within_cons (x : Nat × Nat × Nat × Nat) : Within e (x :: xs) ↔
    (x.2.2.1 ≤ natOf ((e.drop x.1).take x.2.1) ∧ natOf ((e.drop x.1).take x.2.1) ≤ x.2.2.2) ∧ Within e xs :=
  List.forall_mem_cons

theorem within_nil : Within e [] := fun _ h => nomatch h

theorem within_append : Within e (xs ++ ys) ↔ Within e xs ∧ Within e ys := List.forall_mem_append

theorem Within.mono (h : Within e ys) (hsub : xs ⊆ ys) : Within e xs := fun x hx => h x (hsub hx)

theorem signAt_iff (e : List Byte) (k : Nat) : Field.sign.holds ((e.drop k).take 1) = true ↔ SignAt e k := by
  simp only [Field.holds, natOf_byte, Bool.or_eq_true, beq_iff_eq, SignAt, BitVec.toNat_eq]
  rfl

theorem fieldsHold_drop (fs : List Field) (e : List Byte) (k : Nat) : fieldsHold fs (e.drop k) = true ↔
    Within e (numbersFrom k fs) ∧ ∀ i ∈ signsFrom k fs, SignAt e i := by
  induction fs generalizing k with
  | nil => exact iff_of_true rfl ⟨within_nil, fun _ h => nomatch h⟩
  | cons f rest ih =>
    rw [fieldsHold, List.drop_drop, Bool.and_eq_true, ih]
    cases f with
    | num w lo hi =>
      have hwidth : (Field.num w lo hi).width = w := rfl
      rw [hwidth]
      simp only [Field.holds, Bool.and_eq_true, decide_eq_true_eq, numbersFrom, signsFrom, within_cons, and_assoc]
    | sign =>
      simp only [Field.width, signAt_iff, numbersFrom, signsFrom, List.forall_mem_cons]
      tauto

/-- The fields of an entry hold where its numbers lie in their ranges and its sign bytes are signs. -/
theorem fieldsHold_iff (fs : List Field) (e : List Byte) : fieldsHold fs e = true ↔
    Within e (numbersFrom 0 fs) ∧ ∀ i ∈ signsFrom 0 fs, SignAt e i :=
  fieldsHold_drop fs e 0

end

/-! ### The ranges of the eight tables (R172, R173) -/

section

variable {e : List Byte}

theorem entryHolds_node (i : Nat) : entryHolds .node i e = true ↔ (byteAt e 0).toNat ≤ 8 ∧
    (byteAt e 0 = 6 → (byteAt e 1).toNat ≤ 7 ∧ (byteAt e 2).toNat ≤ 1 ∧ (byteAt e 3 = 1 ∨ byteAt e 3 = 2)) := by
  have hkind : (1 ≤ (byteAt e 3).toNat ∧ (byteAt e 3).toNat ≤ 2) ↔ (byteAt e 3 = 1 ∨ byteAt e 3 = 2) := by
    constructor
    · rintro ⟨hleast, hmost⟩
      obtain h | h : (byteAt e 3).toNat = 1 ∨ (byteAt e 3).toNat = 2 := by omega
      · exact .inl (BitVec.eq_of_toNat_eq h)
      · exact .inr (BitVec.eq_of_toNat_eq h)
    · rintro (h | h) <;> rw [h] <;> decide
  have hrole : fieldsHold (TableId.node.fields i) e = true ↔ (byteAt e 0).toNat ≤ 8 := by
    rw [fieldsHold_iff]
    simp [TableId.fields, numbersFrom, signsFrom, within_cons, within_nil, natOf_head]
  have hgate : fieldsHold gateFields (e.drop 1) = true ↔
      (byteAt e 1).toNat ≤ 7 ∧ (byteAt e 2).toNat ≤ 1 ∧ (byteAt e 3 = 1 ∨ byteAt e 3 = 2) := by
    rw [fieldsHold_drop, ← hkind]
    simp only [gateFields, numbersFrom, signsFrom, within_cons, within_nil, natOf_byte]
    simp
  rw [entryHolds, Bool.and_eq_true, hrole, Bool.or_eq_true, hgate, bne_iff_ne, ne_eq, ← imp_iff_not_or]

theorem entryHolds_stop (i : Nat) (h : e.length = 8) : entryHolds .stop i e = true ↔
    0 ≤ intAt32 e 0 ∧ intAt32 e 0 ≤ 4000000 ∧ 20 ≤ natAt16 e 4 ∧ natAt16 e 4 ≤ 500 ∧ (byteAt e 6).toNat ≤ 3 ∧
    (byteAt e 7).toNat ≤ 3 := by
  have hpos := intAt32_within (e := e) (k := 0) (hi := 4000000) (by decide)
  simp only [entryHolds, TableId.fields, Bool.and_true, fieldsHold_iff, numbersFrom, signsFrom, within_cons, within_nil,
    natOf_byte, natOf_word (e := e) (k := 4) (by omega), natOf_long (e := e) (k := 0) (by omega), ← and_assoc, ← hpos]
  simp

theorem entryHolds_profile (i : Nat) (h : e.length = 8) : entryHolds .profile i e = true ↔
    0 ≤ intAt32 e 0 ∧ intAt32 e 0 ≤ 4000000 ∧ natAt16 e 4 ≤ 14000 ∧ natAt16 e 6 ≤ 14000 := by
  have hpos := intAt32_within (e := e) (k := 0) (hi := 4000000) (by decide)
  simp only [entryHolds, TableId.fields, Bool.and_true, fieldsHold_iff, numbersFrom, signsFrom, within_cons, within_nil,
    natOf_word (e := e) (k := 4) (by omega), natOf_word (e := e) (k := 6) (by omega),
    natOf_long (e := e) (k := 0) (by omega), ← and_assoc, ← hpos]
  simp

theorem entryHolds_marker (i : Nat) (h : e.length = 5) : entryHolds .marker i e = true ↔
    byteAt e 0 ≠ 0 ∧ 0 ≤ intAt32 e 1 ∧ intAt32 e 1 ≤ 4000000 := by
  have hpos := intAt32_within (e := e) (k := 1) (hi := 4000000) (by decide)
  have hbyte : (byteAt e 0).toNat ≤ 255 := Nat.le_of_lt_succ (byteAt e 0).isLt
  simp only [entryHolds, TableId.fields, Bool.and_true, fieldsHold_iff, numbersFrom, signsFrom, within_cons, within_nil,
    natOf_byte, natOf_long (e := e) (k := 1) (by omega), ← hpos, BitVec.toNat_eq, ne_eq, Nat.zero_le, true_and]
  simp [hbyte, Nat.one_le_iff_ne_zero]

theorem entryHolds_product (i : Nat) (h : e.length = 7) : entryHolds .product i e = true ↔
    byteAt e 0 ≠ 0 ∧ (byteAt e 2).toNat ≤ 1 := by
  have hbyte : ∀ k, (byteAt e k).toNat ≤ 255 := fun k => Nat.le_of_lt_succ (byteAt e k).isLt
  simp only [entryHolds, TableId.fields, Bool.and_true, fieldsHold_iff, numbersFrom, signsFrom, within_cons, within_nil,
    natOf_byte, natOf_word (e := e) (k := 3) (by omega), natOf_word (e := e) (k := 5) (by omega), BitVec.toNat_eq, ne_eq]
  simp [hbyte, natAt16_lt, Nat.one_le_iff_ne_zero]

theorem entryHolds_hotlist (i : Nat) (h : e.length = 4) : entryHolds .hotlist i e = true := by
  simp only [entryHolds, TableId.fields, Bool.and_true, fieldsHold_iff, numbersFrom, signsFrom, within_cons, within_nil,
    natOf_long (e := e) (k := 0) (by omega)]
  simp [natAt32_lt]

theorem entryHolds_reportLevel (i : Nat) : entryHolds .reportLevel i e = true ↔
    if i < 28 then (byteAt e 0).toNat ≤ 3 else (byteAt e 0).toNat < 28 ∨ byteAt e 0 = 0xFF := by
  have hbyte : (byteAt e 0).toNat ≤ 255 := Nat.le_of_lt_succ (byteAt e 0).isLt
  by_cases hi : i < 28
  · have hlevel : fieldsHold (TableId.reportLevel.fields i) e = true ↔ (byteAt e 0).toNat ≤ 3 := by
      rw [TableId.fields, if_pos hi, fieldsHold_iff]
      simp [numbersFrom, signsFrom, within_cons, within_nil, natOf_head]
    rw [entryHolds, Bool.and_eq_true, hlevel]
    simp [hi]
  · have hslot : fieldsHold (TableId.reportLevel.fields i) e = true := by
      rw [TableId.fields, if_neg hi, fieldsHold_iff]
      simp [numbersFrom, signsFrom, within_cons, within_nil, natOf_head, hbyte]
    rw [entryHolds, Bool.and_eq_true, hslot]
    simp [hi]

/-- The three fields of a channel of section 0. -/
def ChannelWithin (e : List Byte) (k : Nat) : Prop :=
  Within e [(k, 2, 1, 65535), (k + 3, 1, 2, 8)] ∧ SignAt e (k + 2)

/-- Section 0 of LINE: its numbers beside the channels, and the four channels. -/
theorem entryHolds_line_zero : entryHolds .line 0 e = true ↔
    Within e [(0, 4, 10000, 4000000), (4, 2, 100, 5000), (22, 2, 5, 200), (24, 2, 20, 1000), (26, 2, 5, 200),
      (28, 2, 100, 5000), (30, 2, 10, 2000), (32, 2, 50, 2000), (34, 2, 50, 3000), (36, 2, 100, 5000),
      (38, 2, 10, 5000)] ∧
    ChannelWithin e 6 ∧ ChannelWithin e 10 ∧ ChannelWithin e 14 ∧ ChannelWithin e 18 := by
  have hholds : entryHolds .line 0 e = true ↔ fieldsHold (lineFields 0) e = true := by
    simp [entryHolds, TableId.fields]
  have hsigns : (∀ i ∈ signsFrom 0 (lineFields 0), SignAt e i) ↔
      SignAt e 8 ∧ SignAt e 12 ∧ SignAt e 16 ∧ SignAt e 20 := by
    simp [lineFields, channelFields, signsFrom]
  rw [hholds, fieldsHold_iff, hsigns]
  constructor
  · rintro ⟨hnumbers, h8, h12, h16, h20⟩
    exact ⟨hnumbers.mono (by decide), ⟨hnumbers.mono (by decide), h8⟩, ⟨hnumbers.mono (by decide), h12⟩,
      ⟨hnumbers.mono (by decide), h16⟩, hnumbers.mono (by decide), h20⟩
  · rintro ⟨hrest, ⟨h6, h8⟩, ⟨h10, h12⟩, ⟨h14, h16⟩, h18, h20⟩
    have hall := within_append.mpr ⟨hrest, within_append.mpr ⟨h6, within_append.mpr ⟨h10,
      within_append.mpr ⟨h14, h18⟩⟩⟩⟩
    exact ⟨hall.mono (by decide), h8, h12, h16, h20⟩

/-- Sections 1 and 2 of LINE hold numbers alone. -/
theorem entryHolds_line_of_pos {i : Nat} (h : signsFrom 0 (lineFields i) = []) :
    entryHolds .line i e = true ↔ Within e (numbersFrom 0 (lineFields i)) := by
  have hholds : entryHolds .line i e = true ↔ fieldsHold (lineFields i) e = true := by
    simp [entryHolds, TableId.fields]
  rw [hholds, fieldsHold_iff, h]
  simp

end

/-! ### The conditions of the eight tables (R176) -/

section

variable (es : List (List Byte))

/-- The first entry whose value does not exceed that of the one before. -/
theorem finds_failingRise_map (f : List Byte → Int) :
    Finds (fun i => ∃ e, es[i]? = some e ∧ ∃ j e', j + 1 = i ∧ es[j]? = some e' ∧ f e ≤ f e')
      (failingRise 0 none (es.map f)) := by
  refine (finds_failingRise (es.map f)).congr fun i => ?_
  simp only [List.getElem?_map, Option.map_eq_some_iff]
  constructor
  · rintro ⟨j, a, b, hi, ⟨e', he', rfl⟩, ⟨e, he, rfl⟩, hle⟩
    exact ⟨e, he, j, e', hi.symm, he', hle⟩
  · rintro ⟨e, he, j, e', hi, he', hle⟩
    exact ⟨j, _, _, hi.symm, ⟨e', he', rfl⟩, ⟨e, he, rfl⟩, hle⟩

theorem finds_failingStart_map (f : List Byte → Int) :
    Finds (fun i => ∃ e, es[i]? = some e ∧
        ((i = 0 ∧ f e ≠ 0) ∨ ∃ j e', j + 1 = i ∧ es[j]? = some e' ∧ f e ≤ f e'))
      (failingStart (es.map f)) := by
  refine (finds_failingStart (es.map f)).congr fun i => ?_
  simp only [List.getElem?_map, Option.map_eq_some_iff]
  constructor
  · rintro (⟨rfl, x, ⟨e, he, rfl⟩, hx⟩ | ⟨j, a, b, hi, ⟨e', he', rfl⟩, ⟨e, he, rfl⟩, hle⟩)
    · exact ⟨e, he, .inl ⟨rfl, hx⟩⟩
    · exact ⟨e, he, .inr ⟨j, e', hi.symm, he', hle⟩⟩
  · rintro ⟨e, he, ⟨rfl, hx⟩ | ⟨j, e', hi, he', hle⟩⟩
    · exact .inl ⟨rfl, _, ⟨e, he, rfl⟩, hx⟩
    · exact .inr ⟨j, _, _, hi.symm, ⟨e', he', rfl⟩, ⟨e, he, rfl⟩, hle⟩

theorem role_eq_iff_of_byte {b c : Byte} (hb : b.toNat ≤ 8) (hc : c.toNat ≤ 8) :
    roleOfCode b = roleOfCode c ↔ b = c :=
  ⟨fun h => by rw [← role_code_of_byte hb, h, role_code_of_byte hc], fun h => h ▸ rfl⟩

theorem role_unused_iff_of_byte {b : Byte} (h : b.toNat ≤ 8) : roleOfCode b = .unused ↔ b = 0 :=
  role_eq_iff_of_byte (c := 0) h (by decide)

theorem role_single_iff_of_byte {b : Byte} (h : b.toNat ≤ 8) :
    (roleOfCode b).single = true ↔ b ≠ 0 ∧ b ≠ 5 ∧ b ≠ 6 := by
  have hreader : roleOfCode b = .markerReader ↔ b = 5 := role_eq_iff_of_byte (c := 5) h (by decide)
  have hgate : roleOfCode b = .gate ↔ b = 6 := role_eq_iff_of_byte (c := 6) h (by decide)
  rw [ne_eq, ne_eq, ne_eq, ← role_unused_iff_of_byte h, ← hreader, ← hgate]
  cases roleOfCode b <;> simp [Role.single]

/-- The first NODE entry in use at OA, or that holds a single role a second time. -/
theorem finds_failingNode_map (oa : Byte) (hroles : ∀ (i : Nat) e, es[i]? = some e → (byteAt e 0).toNat ≤ 8) :
    Finds (fun i => ∃ e, es[i]? = some e ∧ byteAt e 0 ≠ 0 ∧ (BitVec.ofNat 8 (i + 1) = oa ∨
        byteAt e 0 ≠ 5 ∧ byteAt e 0 ≠ 6 ∧ ∃ j e', j < i ∧ es[j]? = some e' ∧ byteAt e' 0 = byteAt e 0))
      (failingNode oa 0 [] (es.map nodeOfBytes)) := by
  refine (finds_failingNode oa 0 [] (es.map nodeOfBytes)).congr fun i => ?_
  have hentry : ∀ e, es[i]? = some e → (Node.Breaks oa [] (es.map nodeOfBytes) i i (nodeOfBytes e) ↔
      byteAt e 0 ≠ 0 ∧ (BitVec.ofNat 8 (i + 1) = oa ∨
        byteAt e 0 ≠ 5 ∧ byteAt e 0 ≠ 6 ∧ ∃ j e', j < i ∧ es[j]? = some e' ∧ byteAt e' 0 = byteAt e 0)) := by
    intro e he
    have hrole := hroles i e he
    have hearlier : (∃ k y, k < i ∧ (es.map nodeOfBytes)[k]? = some y ∧ y.role = roleOfCode (byteAt e 0)) ↔
        ∃ j e', j < i ∧ es[j]? = some e' ∧ byteAt e' 0 = byteAt e 0 := by
      simp only [List.getElem?_map, Option.map_eq_some_iff]
      constructor
      · rintro ⟨k, y, hk, ⟨e', he', rfl⟩, hsame⟩
        exact ⟨k, e', hk, he', (role_eq_iff_of_byte (hroles k e' he') hrole).mp hsame⟩
      · rintro ⟨k, e', hk, he', hsame⟩
        exact ⟨k, _, hk, ⟨e', he', rfl⟩, congrArg roleOfCode hsame⟩
    have hthis : (nodeOfBytes e).role = roleOfCode (byteAt e 0) := rfl
    simp only [Node.Breaks, byteOf, hthis, hearlier, ne_eq, role_unused_iff_of_byte hrole, role_single_iff_of_byte hrole,
      List.not_mem_nil, false_or]
    tauto
  constructor
  · rintro ⟨j, x, hij, hx, hbreaks⟩
    obtain rfl : i = j := by omega
    rw [List.getElem?_map, Option.map_eq_some_iff] at hx
    obtain ⟨e, he, rfl⟩ := hx
    exact ⟨e, he, (hentry e he).mp hbreaks⟩
  · rintro ⟨e, he, hbreaks⟩
    exact ⟨i, nodeOfBytes e, (Nat.zero_add i).symm, by simp [he], (hentry e he).mpr hbreaks⟩

/-- The express slots of a REPORTLEVEL table, its last two entries. -/
theorem finds_failingSlots_map (h : es.length = 30) :
    Finds (fun i => ∃ e, es[i]? = some e ∧ i = 29 ∧ ∃ e', es[28]? = some e' ∧ byteAt e' 0 = byteAt e 0 ∧
      byteAt e 0 ≠ 0xFF) (failingSlots (es.map (byteAt · 0))) := by
  have hslot : ∀ k (hk : k < 30), byteAt (es.map (byteAt · 0)) k = byteAt es[k] 0 := fun k hk => by
    simp [byteAt, List.getD, List.getElem?_eq_getElem (h.symm ▸ hk)]
  have h28 : es[28]? = some es[28] := List.getElem?_eq_getElem _
  have h29 : es[29]? = some es[29] := List.getElem?_eq_getElem _
  rw [failingSlots, hslot 28 (by decide), hslot 29 (by decide)]
  split
  case isTrue hsame =>
    exact finds_here ⟨es[29], h29, rfl, es[28], h28, hsame.1, hsame.1 ▸ hsame.2⟩ fun i ⟨e, _, hi, _⟩ => hi.ge
  case isFalse hdiffer =>
    refine finds_none fun i => ?_
    rintro ⟨e, he, rfl, e', he', hsame, hused⟩
    obtain rfl : es[29] = e := Option.some.inj (h29.symm.trans he)
    obtain rfl : es[28] = e' := Option.some.inj (h28.symm.trans he')
    exact hdiffer ⟨hsame, hsame ▸ hused⟩

end

/-! ### The relations of LINE (R173) -/

theorem ite_not_ite_not {α : Type} (p q : Prop) [Decidable p] [Decidable q] (x y : α) :
    (if ¬ p then x else if ¬ q then x else y) = if ¬ (p ∧ q) then x else y := by
  by_cases hp : p <;> simp [hp]

/-- The relations that report one section, one after the other, are one. -/
theorem failingRelation_eq (l : Line) : failingRelation l =
    if ¬ ((l.pw < l.ps ∧ l.ps < l.pe) ∧ (l.cw ≤ l.cs ∧ l.cs ≤ l.ce) ∧ (l.th1 < l.th2 ∧ l.th2 < l.th3) ∧
      (l.aRef[1] ≤ l.aRef[0] ∧ l.aRef[2] ≤ l.aRef[1] ∧ l.aRef[3] ≤ l.aRef[2])) then some 1
    else if ¬ (l.pct[1] ≤ l.pct[0] ∧ l.pct[2] ≤ l.pct[1] ∧ l.pct[3] ≤ l.pct[2]) then some 2
    else if ¬ (l.vLand ≤ l.vLineMax ∧ l.vCreep ≤ l.vLineMax) then some 1 else none := by
  simp only [failingRelation, ite_not_ite_not]

/-- The relations of a LINE record by the places of their fields in its sections. -/
theorem failingRelation_sections (a b c : List Byte) :
    let w := natAt16 b
    failingRelation (lineOfSections a b c) =
      if ¬ ((w 8 < w 10 ∧ w 10 < w 12) ∧ (w 14 ≤ w 16 ∧ w 16 ≤ w 18) ∧
        (natAt32 b 26 < natAt32 b 30 ∧ natAt32 b 30 < natAt32 b 34) ∧ (w 40 ≤ w 38 ∧ w 42 ≤ w 40 ∧ w 44 ≤ w 42))
      then some 1
      else if ¬ (byteAt c 1 ≤ byteAt c 0 ∧ byteAt c 2 ≤ byteAt c 1 ∧ byteAt c 3 ≤ byteAt c 2) then some 2
      else if ¬ (w 2 ≤ w 4 ∧ w 0 ≤ w 4) then some 1 else none := by
  rw [failingRelation_eq]
  rfl

/-! ### The obligation -/

section

variable {oa : Byte} {t : TableId} {es : List (List Byte)}

variable {inRange breaks : Nat → List Byte → Prop}

theorem firstFailing_of_ranged (hrange : ∀ i e, es[i]? = some e → (entryHolds t i e = true ↔ inRange i e))
    (h : ∀ i e, es[i]? = some e → inRange i e) : firstFailing (entryHolds t) 0 es = none :=
  (finds_firstFailing (entryHolds t) 0 es).eq_none_iff.mpr fun i ⟨j, e, hij, he, hfails⟩ => by
    obtain rfl : i = j := by omega
    exact absurd ((hrange i e he).mpr (h i e he)) (by simp [hfails])

/-- The first entry out of its range is reported, the ranges of the table being these. -/
theorem validate_of_first_out (hrange : ∀ i e, es[i]? = some e → (entryHolds t i e = true ↔ inRange i e))
    (hfits : t.least ≤ es.length ∧ es.length ≤ t.capacity) {i : Nat} {e : List Byte} (he : es[i]? = some e)
    (hout : ¬ inRange i e) (hbefore : ∀ j e', j < i → es[j]? = some e' → inRange j e') :
    validate oa t es = some (i, .range) := by
  refine validate_of_range hfits ((finds_firstFailing (entryHolds t) 0 es).eq_some ?_ ?_)
  · exact ⟨i, e, (Nat.zero_add i).symm, he, by simpa using mt (hrange i e he).mp hout⟩
  · rintro j hj ⟨k, e', hjk, he', hfails⟩
    obtain rfl : j = k := by omega
    exact absurd ((hrange j e' he').mpr (hbefore j e' hj he')) (by simp [hfails])

/-- The first entry that breaks a condition of the table is reported, the conditions being these. -/
theorem validate_of_first_break (hfits : t.least ≤ es.length ∧ es.length ≤ t.capacity)
    (hranges : firstFailing (entryHolds t) 0 es = none)
    (hbreaks : Finds (fun i => ∃ e, es[i]? = some e ∧ breaks i e) (failingOrder oa t es)) {i : Nat} {e : List Byte}
    (he : es[i]? = some e) (hbreak : breaks i e) (hbefore : ∀ j e', j < i → es[j]? = some e' → ¬ breaks j e') :
    validate oa t es = some (i, t.orderReason) := by
  rw [validate_of_order hfits hranges, hbreaks.eq_some ⟨e, he, hbreak⟩
    fun j hj ⟨e', he', hbreak'⟩ => hbefore j e' hj he' hbreak']
  rfl

theorem validate_of_no_break (hfits : t.least ≤ es.length ∧ es.length ≤ t.capacity)
    (hranges : firstFailing (entryHolds t) 0 es = none)
    (hbreaks : Finds (fun i => ∃ e, es[i]? = some e ∧ breaks i e) (failingOrder oa t es))
    (hnone : ∀ i e, es[i]? = some e → ¬ breaks i e) : validate oa t es = none := by
  rw [validate_of_order hfits hranges, hbreaks.eq_none_iff.mpr fun i ⟨e, he, hbreak⟩ => hnone i e he hbreak]
  rfl

end

/-- Settles O52: table by table, what an entry's ranges and the table's conditions are goes into `validate_reports`; the
relations of LINE are those of its three sections. -/
theorem validationReportsTheFirstFailure : Obligations.ValidationReportsTheFirstFailure := by
  unfold Obligations.ValidationReportsTheFirstFailure
  intro oa t es hsize number within channel inRange counts fits ranged breaks reason
  have hfits : fits ↔ t.least ≤ es.length ∧ es.length ≤ t.capacity := by cases t <;> exact Iff.rfl
  have hreason : t.orderReason = reason := by cases t <;> rfl
  have hrange : ∀ i e, es[i]? = some e → (entryHolds t i e = true ↔ inRange i e) := by
    intro i e he
    have hlength := hsize i e he
    cases t with
    | node => exact entryHolds_node i
    | stop => exact entryHolds_stop i hlength
    | profile => exact entryHolds_profile i hlength
    | line =>
      match i with
      | 0 => exact entryHolds_line_zero
      | 1 => exact entryHolds_line_of_pos rfl
      | i + 2 => exact entryHolds_line_of_pos rfl
    | marker => exact entryHolds_marker i hlength
    | product => exact entryHolds_product i hlength
    | hotlist => exact iff_of_true (entryHolds_hotlist i hlength) trivial
    | reportLevel => exact entryHolds_reportLevel i
  have hbreaks : fits → ranged → t ≠ .line →
      Finds (fun i => ∃ e, es[i]? = some e ∧ breaks i e) (failingOrder oa t es) := by
    intro hcount hranged hline
    cases t with
    | node => exact finds_failingNode_map es oa fun i e he => (hranged i e he).1
    | stop => exact finds_failingRise_map es _
    | profile => exact finds_failingStart_map es _
    | line => exact absurd rfl hline
    | marker => exact finds_none fun _ ⟨_, _, h⟩ => h
    | product => exact (finds_failingRise_map es _).congr fun i => by simp only [Nat.cast_le]; rfl
    | hotlist => exact (finds_failingRise_map es _).congr fun i => by simp only [Nat.cast_le]; rfl
    | reportLevel => exact finds_failingSlots_map es (Nat.le_antisymm hcount.2 hcount.1)
  have hranges : ranged → firstFailing (entryHolds t) 0 es = none := firstFailing_of_ranged hrange
  refine ⟨fun hcount => validate_of_count (mt hfits.mpr hcount),
    fun hcount i e he hout hbefore => validate_of_first_out hrange (hfits.mp hcount) he hout hbefore,
    fun hcount hranged i e he hbreak hbefore => ?broken, fun hcount hranged hline hnone => ?sound,
    fun hline hranged a b c habc => ?relations⟩
  case broken =>
    have hline : t ≠ .line := by rintro rfl; exact hbreak
    rw [← hreason]
    exact validate_of_first_break (hfits.mp hcount) (hranges hranged) (hbreaks hcount hranged hline) he hbreak hbefore
  case sound =>
    exact validate_of_no_break (hfits.mp hcount) (hranges hranged) (hbreaks hcount hranged hline) hnone
  case relations =>
    subst hline habc
    intro w first percents limits
    rw [validate_of_order ⟨le_rfl, le_rfl⟩ (hranges hranged)]
    have hrelation : failingOrder oa .line [a, b, c] = failingRelation (lineOfSections a b c) := rfl
    rw [hrelation, failingRelation_sections]
    split_ifs <;> rfl

end Sys2Proof.Machine

end

/-! ## PARKED and TRIPPED are not left by an update (R10, R56, R93, R105, R180) -/

section

namespace Sys2Proof.Machine

section

variable {s : State}

theorem State.Halted.congr {t : State} (h : s.Halted) (ht : t.hlc.state = s.hlc.state) : t.Halted := by
  unfold State.Halted
  rwa [ht]

theorem State.Halted.atRest (h : s.Halted) : s.hlc.state.atRest = true := by
  obtain h | h := h <;> rw [h] <;> rfl

theorem State.Halted.trip (h : s.Halted) (cause : TripCause) : (trip cause s).Halted := by
  unfold Machine.trip
  split
  · exact h.congr (by simp)
  · exact .inr (by simp [latchTrip_hlc])

theorem State.Halted.demand (h : s.Halted) (cause : StopCause) : (demand cause s).Halted := by
  rw [demand_at_rest h.atRest]
  exact h.congr (by simp)

theorem State.Halted.envUpdate (h : s.Halted) : (envUpdate s).Halted := by
  unfold Machine.envUpdate
  split
  · exact State.Halted.demand (h.congr (by simp)) _
  · exact h.congr (by simp)

theorem State.Halted.judgeTest (h : s.Halted) : (judgeTest s).Halted := by
  have htrigger : ∀ id, judgeTrigger id s = s := fun id => by
    obtain h | h := h <;> simp [judgeTrigger, h]
  unfold Machine.judgeTest
  split
  · exact h.congr (by rw [htrigger])
  · exact h.congr (by simp)
  · exact h.congr (by rw [htrigger])
  · exact h.congr (by simp)
  · exact h

theorem State.Halted.brsUpdate (h : s.Halted) : (brsUpdate s).Halted := by
  rw [brsUpdate_eq, judgeTier_of_rest h.atRest]
  have htrip : (if s.hlc.state ≠ .tripped ∧ s.overruns then Machine.trip .overrun s else s).Halted := by
    split
    · exact h.trip _
    · exact h
  rw [judgeLoss_of_rest htrip.atRest]
  exact htrip.judgeTest.congr (by simp)

theorem State.Halted.druUpdate (h : s.Halted) : (druUpdate s).Halted := by
  have hset : ∀ b, (setMovingOpen b s).Halted := fun b => h.congr rfl
  have hmoving : (judgeMovingOpen false s).Halted := by
    unfold judgeMovingOpen
    (repeat' split)
    · exact hset true
    · exact (hset true).trip _
    · exact hset false
    · exact h
  have hboarding : (judgeMovingOpen false s).hlc.state ≠ .boarding := by
    obtain h | h := hmoving <;> simp [h]
  rwa [Machine.druUpdate, judgeWithdrawal_of_not_boarding hboarding]

theorem State.Halted.hlcUpdate (h : s.Halted) : (hlcUpdate s).Halted := by
  rwa [hlcUpdate_of_no_run (by obtain h | h := h <;> simp [h]) (by obtain h | h := h <;> simp [h])]

theorem State.Halted.motionUpdate (h : s.Halted) : (motionUpdate s).Halted :=
  have hstored : (storeMotion (judgeStill s)).Halted := h.congr (by simp)
  hstored.envUpdate.brsUpdate.druUpdate.hlcUpdate

theorem State.Halted.applyLineMoe (h : s.Halted) (l : Line) : (applyLineMoe l s).Halted := by
  rw [applyLineMoe_eq]
  have hjudged : (s.lineJudged l).Halted := h.congr (by simp)
  exact hjudged.motionUpdate

theorem State.Halted.applyLineDrive (h : s.Halted) (l : Line) : (applyLineDrive l s).Halted :=
  h.congr (by rw [applyLineDrive_hlc])

theorem State.Halted.applyLineDoor (h : s.Halted) (l : Line) (car : Car) : (applyLineDoor l s car).Halted :=
  h.congr (by rw [(applyLineDoor_lined h.atRest l car).hlc])

theorem State.Halted.applyLine (h : s.Halted) (l : Line) : (applyLine l s).Halted := by
  have hthresholds : (recomputeThresholds (Machine.applyLineMoe l s)).Halted := (h.applyLineMoe l).congr (by simp)
  have hdoors := ((hthresholds.applyLineDrive l).applyLineDoor l .a).applyLineDoor l .b
  simp only [Machine.applyLine, List.foldl_cons, List.foldl_nil]
  generalize Machine.applyLineDoor l _ Car.b = t at hdoors ⊢
  exact hdoors.congr rfl

theorem State.Halted.noticeTables (h : s.Halted) (mask : Byte) : (noticeTables mask s).Halted := by
  unfold Machine.noticeTables
  split
  · exact h.applyLine _
  · split
    · exact h.motionUpdate
    · exact h

theorem State.Halted.takeEffect (h : s.Halted) (mask : Byte) (wasPending : Bool) :
    (takeEffect mask wasPending s).Halted := by
  simp only [Machine.takeEffect]
  refine State.Halted.noticeTables (h.congr ?_) mask
  split <;> simp

/-- A pending activation that is taken leaves the haul in PARKED or TRIPPED. -/
theorem State.Halted.takePending (h : s.Halted) (mask : Byte) : (takePending mask s).Halted := by
  have hnone : (s.withMga { s.mga with pendingMask := none }).Halted := h.congr (by simp)
  simp only [Machine.takePending]
  split
  · exact hnone.congr (by simp)
  · exact hnone.takeEffect mask true

end

end Sys2Proof.Machine

end

/-! ## What counts TABLE_ACTIVATED and ACTIVATION_FAILED (R179, R180, R188)

The two are raised where a mask takes effect or fails, and cleared by CLEAR_COUNTERS; every other act leaves their counts
alone. -/

section

namespace Sys2Proof.Machine

/-- The counts of TABLE_ACTIVATED and of ACTIVATION_FAILED. -/
def Rpu.activations (r : Rpu) : BitVec 16 × BitVec 16 :=
  (r.slots[EventKind.tableActivated.code].count, r.slots[EventKind.activationFailed.code].count)

section

variable {s t : State}

theorem activations_of_counts (h : ∀ k ∈ [EventKind.tableActivated.code, EventKind.activationFailed.code],
    t.rpu.slots[k].count = s.rpu.slots[k].count) : t.rpu.activations = s.rpu.activations :=
  Prod.ext (h _ (by simp)) (h _ (by simp))

theorem Undisturbed.activations (h : Undisturbed s t) : t.rpu.activations = s.rpu.activations :=
  activations_of_counts fun k hk => h.count k (by revert k; decide)

theorem Selected.activations (h : Selected s t) : t.rpu.activations = s.rpu.activations :=
  activations_of_counts fun k _ => h.count k

end

/-! ### Events, trips and demands -/

section

variable (s : State)

@[simp] theorem raise_activations {k : EventKind} (hactivated : k ≠ .tableActivated) (hfailed : k ≠ .activationFailed)
    (detail : BitVec 32) : (raise k detail s).rpu.activations = s.rpu.activations := by
  have hcodes : EventKind.tableActivated.code ≠ k.code ∧ EventKind.activationFailed.code ≠ k.code := by
    cases k <;> simp_all [EventKind.code]
  exact Prod.ext ((raise_count _ _ _ _).trans (if_neg hcodes.1)) ((raise_count _ _ _ _).trans (if_neg hcodes.2))

@[simp] theorem selectReports_activations : (selectReports s).rpu.activations = s.rpu.activations :=
  (Selected.reports s).activations

@[simp] theorem trip_activations (cause : TripCause) : (trip cause s).rpu.activations = s.rpu.activations :=
  (Undisturbed.trip cause s).activations

@[simp] theorem demand_activations (cause : StopCause) : (demand cause s).rpu.activations = s.rpu.activations :=
  (Undisturbed.demand cause s).activations

@[simp] theorem returnToOrigin_activations : (returnToOrigin s).rpu.activations = s.rpu.activations :=
  (Undisturbed.returnToOrigin s).activations

@[simp] theorem judgeLoss_activations : (judgeLoss s).rpu.activations = s.rpu.activations :=
  (Undisturbed.judgeLoss s).activations

@[simp] theorem judgeMovingOpen_activations (tripped : Bool) :
    (judgeMovingOpen tripped s).rpu.activations = s.rpu.activations :=
  (Undisturbed.judgeMovingOpen tripped s).activations

@[simp] theorem motionUpdate_activations : (motionUpdate s).rpu.activations = s.rpu.activations :=
  (Undisturbed.motionUpdate s).activations

/-! ### Samples, markers, the drive and the doors -/

@[simp] theorem crossCheck_activations (l : Line) (ch : ChannelId) :
    (crossCheck l ch s).rpu.activations = s.rpu.activations := by
  have hdivergence : (judgeDivergence l s).rpu.activations = s.rpu.activations := by
    simp only [judgeDivergence]
    (repeat' split) <;> simp
  unfold crossCheck
  split
  · unfold judgeSlip
    (repeat' split) <;> simp
  · unfold judgeDisagree
    (repeat' split) <;> simp [hdivergence]

@[simp] theorem takeSample_activations (ch : ChannelId) (x : Sample) (health : Byte) :
    (takeSample ch x health s).rpu.activations = s.rpu.activations := by
  unfold takeSample
  (repeat' split) <;> simp [acceptSample]

@[simp] theorem takeMarker_activations (id car : Byte) : (takeMarker id car s).rpu.activations = s.rpu.activations := by
  unfold takeMarker judgeMarker
  simp only
  (repeat' split) <;> simp [markerUnknown, applyMarker, rejectMarker]

@[simp] theorem expireChannel_activations (ch : ChannelId) :
    (expireChannel ch s).rpu.activations = s.rpu.activations := by
  unfold expireChannel afterExpiry
  split <;> simp

@[simp] theorem driveLost_activations : (driveLost s).rpu.activations = s.rpu.activations := by
  unfold driveLost
  split <;> simp

@[simp] theorem takeDrive_activations (p : List Byte) : (takeDrive p s).rpu.activations = s.rpu.activations := by
  simp only [takeDrive]
  split <;> simp

@[simp] theorem faultDoor_activations (car : Car) (side : Side) (why : DoorFaultReason) (judgedIn : HaulState) :
    (faultDoor car side why judgedIn s).rpu.activations = s.rpu.activations := by
  simp [faultDoor]

@[simp] theorem judgeSide_activations (car : Car) (side : Side) (x : SideStatus) :
    (judgeSide car side x s).1.rpu.activations = s.rpu.activations := by
  unfold judgeSide
  simp only
  (repeat' split) <;> simp

@[simp] theorem takeDoorReport_activations (car : Car) (left right : SideStatus) :
    (takeDoorReport car left right s).rpu.activations = s.rpu.activations := by
  simp only [takeDoorReport]
  split <;> simp [storeReport]

@[simp] theorem lapse_activations (car : Car) : (lapse car s).rpu.activations = s.rpu.activations := by
  simp only [lapse]
  split <;> simp

@[simp] theorem decideDoor_activations (car side action : Byte) :
    (decideDoor car side action s).2.rpu.activations = s.rpu.activations := by
  unfold decideDoor openDoor closeDoor
  (repeat' split) <;> simp [startRelease, setDoor]

@[simp] theorem decideLine_activations (command argument : Byte) :
    (decideLine command argument s).2.rpu.activations = s.rpu.activations := by
  have hstop : (stopLine s).2.rpu.activations = s.rpu.activations := by
    unfold stopLine
    split <;> simp
  have hpark : (parkLine s).2.rpu.activations = s.rpu.activations := by
    unfold parkLine parkGrants
    simp only
    (repeat' split) <;> simp
  unfold decideLine
  (repeat' split) <;> simp [hstop, hpark]

/-! ### Expiries, inputs and OUT -/

theorem boundary_activations : (boundary s).rpu.activations = s.rpu.activations := by
  have hforward : ∀ x (t : State), (sendForward x t).rpu.activations = t.rpu.activations := fun x t => by
    unfold sendForward sendConsole startRun
    simp only
    (repeat' split) <;> simp
  have hinsertion : ∀ t : State, (sendInsertion t).rpu.activations = t.rpu.activations := fun t => by
    unfold sendInsertion
    simp only
    split <;> simp
  simp only [boundary, arbitrate, arbitrateFault, sendOldest]
  (repeat' split) <;> simp [hforward, hinsertion]

/-- An expiry, an input or a boundary leaves the counts or the haul alone. -/
theorem edgeAct_activations_or_hlc (c : Instr) (hframe : ∀ e rx, c ≠ .frameForward e rx) :
    (edgeAct c s).rpu.activations = s.rpu.activations ∨ (edgeAct c s).hlc = s.hlc := by
  cases c with
  | frameForward e rx => exact absurd rfl (hframe e rx)
  | outBoundary => exact .inl (boundary_activations s)
  | channelExpiry _ ch =>
    refine .inl ?_
    simp only [edgeAct, channelExpiry]
    split <;> simp
  | stillTimerExpiry =>
    refine .inl ?_
    simp only [edgeAct, stillTimerExpiry]
    split <;> simp
  | lossTimerExpiry =>
    refine .inl ?_
    simp only [edgeAct, lossExpiry]
    split <;> simp
  | supervisionPeriodExpiry =>
    refine .inl ?_
    simp only [edgeAct, supervisionExpiry, judgePeriod]
    (repeat' split) <;> simp
  | armExpiry =>
    refine .inl ?_
    simp only [edgeAct, armExpiry]
    split <;> simp
  | driveExpiry =>
    refine .inl ?_
    simp only [edgeAct, driveExpiry]
    split <;> simp
  | doorStateLost _ car =>
    refine .inl ?_
    simp only [edgeAct, freshnessExpiry]
    split <;> simp
  | debounceExpiry _ pin =>
    refine .inl ?_
    simp only [edgeAct, debounceExpiry, chainOpened, raiseEstop]
    (repeat' split) <;> simp
  | _ => exact .inr (by simp [edgeAct])

/-! ### Requests of the manager -/

/-- Out of PARKED and TRIPPED no request changes both the counts and the haul. -/
theorem decideRequest_activations_or_hlc (hmoving : ¬ s.Halted) (code : Byte) (body : List Byte) :
    (decideRequest code body s).state.rpu.activations = s.rpu.activations ∨
    (decideRequest code body s).state.hlc = s.hlc := by
  have hactivate : ∀ mask, (decideActivate mask s).state.hlc = s.hlc := fun mask => by
    unfold decideActivate
    cases hmask : badMask mask with
    | true => rfl
    | false =>
      have hrunning : ¬ (s.hlc.state = .parked ∨ s.hlc.state = .tripped) := hmoving
      simp only [if_neg hrunning]
      (repeat' split)
      · rfl
      · rfl
      · rfl
      · exact takeEffect_hlc_of_report hmask (by simpa using ‹(!haulMask mask) = true›) false s
      · rfl
  unfold decideRequest
  split
  · split
    · rename_i r _ _
      cases r with
      | activate => exact .inr (hactivate _)
      | reference =>
        refine .inl ?_
        simp only [Request.decide, decideReference]
        (repeat' split) <;> simp
      | tripReset => exact .inl (by simp [Request.decide])
      | manualTrip => exact .inl (by simp [Request.decide, decideManualTrip])
      | reinit =>
        refine .inl ?_
        simp only [Request.decide, decideReinit, reinit]
        split <;> simp
      | _ => exact .inr (by simp [Request.decide])
    · exact .inr rfl
  · exact .inr rfl

/-! ### Frames -/

/-- A frame of a read kind that is handed to no block leaves the haul. -/
theorem dealRead_activations_or_hlc (f : Frame) (len : Nat) {hand : Option (State → State)}
    (hhand : ∀ act, hand = some act → ∀ u, (act u).rpu.activations = u.rpu.activations) :
    (dealRead f len hand s).rpu.activations = s.rpu.activations ∨ (dealRead f len hand s).hlc = s.hlc := by
  unfold dealRead
  split
  · exact .inr (by simp)
  · split
    · refine .inl ((hhand _ rfl _).trans ?_)
      split <;> simp
    · exact .inr (by simp)

/-- A request that is handed to no block leaves the haul. -/
theorem dealRequest_activations_or_hlc (f : Frame) (lengthOk roleOk : Bool) {hand : State → State}
    (hhand : ∀ u, u.hlc = s.hlc → (hand u).rpu.activations = u.rpu.activations ∨ (hand u).hlc = u.hlc) :
    (dealRequest f lengthOk roleOk hand s).rpu.activations = s.rpu.activations ∨
    (dealRequest f lengthOk roleOk hand s).hlc = s.hlc := by
  unfold dealRequest takeIfRoom
  (repeat' split)
  case isTrue.isFalse.isFalse.isTrue => simpa using hhand (countRing .absorbed s) (by simp)
  all_goals exact .inr (by simp)

theorem dealKind_activations_or_hlc (hmoving : ¬ s.Halted) (f : Frame) :
    (dealKind f s).rpu.activations = s.rpu.activations ∨ (dealKind f s).hlc = s.hlc := by
  cases hk : FrameKind.ofCode f.kind <;> simp only [dealKind, hk]
  case sampleSheave =>
    refine dealRead_activations_or_hlc s f 7 fun act hact u => ?_
    obtain ⟨ch, -, rfl⟩ := Option.map_eq_some_iff.mp hact
    exact takeSample_activations u _ _ _
  case sampleCar =>
    refine dealRead_activations_or_hlc s f 7 fun act hact u => ?_
    obtain ⟨car, -, rfl⟩ := Option.map_eq_some_iff.mp hact
    exact takeSample_activations u _ _ _
  case marker =>
    refine dealRead_activations_or_hlc s f 2 fun act hact u => ?_
    cases (Option.ite_none_right_eq_some.mp hact).2
    exact takeMarker_activations u _ _
  case driveStatus =>
    refine dealRead_activations_or_hlc s f 4 fun act hact u => ?_
    cases (Option.ite_none_right_eq_some.mp hact).2
    exact takeDrive_activations u _
  case doorState =>
    refine dealRead_activations_or_hlc s f 2 fun act hact u => ?_
    obtain ⟨car, -, rfl⟩ := Option.map_eq_some_iff.mp hact
    exact takeDoorReport_activations u _ _ _
  case doorReq => exact dealRequest_activations_or_hlc s f _ _ fun u _ => .inl (by simp [takeDoorReq])
  case lineCmd => exact dealRequest_activations_or_hlc s f _ _ fun u _ => .inl (by simp [takeLineCmd])
  case mgmtReq =>
    refine dealRequest_activations_or_hlc s f _ _ fun u hu => ?_
    have hmoving' : ¬ u.Halted := fun h => hmoving (h.congr (by rw [hu]))
    simpa [takeRequest] using decideRequest_activations_or_hlc u hmoving' _ _
  all_goals exact .inr (by simp)

theorem takeFrame_activations_or_hlc (hmoving : ¬ s.Halted) (rx : List Byte) :
    (takeFrame rx s).rpu.activations = s.rpu.activations ∨ (takeFrame rx s).hlc = s.hlc := by
  unfold takeFrame
  split
  case h_4 f _ =>
    split
    · exact .inr (by simp)
    · unfold disposeGood
      split
      · exact .inr (by simp)
      · exact dealKind_activations_or_hlc s hmoving f
  all_goals exact .inr (by simp)

/-- Out of PARKED and TRIPPED no act changes both the counts and the haul. -/
theorem rowAct_activations_or_hlc (hmoving : ¬ s.Halted) (c : Instr) :
    (rowAct c s).rpu.activations = s.rpu.activations ∨ (rowAct c s).hlc = s.hlc := by
  unfold rowAct
  split
  · exact takeFrame_activations_or_hlc s hmoving _
  · cases c with
    | frameForward _ rx => exact takeFrame_activations_or_hlc s hmoving rx
    | _ => exact edgeAct_activations_or_hlc s _ (by simp)

/-! ### New tables -/

theorem applyLine_activations (l : Line) : (applyLine l s).rpu.activations = s.rpu.activations := by
  have hfold : ∀ (chs : List ChannelId) (t : State), (chs.foldl expireIfDue t).rpu.activations = t.rpu.activations := by
    intro chs
    induction chs with
    | nil => exact fun _ => rfl
    | cons ch rest ih =>
      refine fun t => (ih _).trans ?_
      unfold expireIfDue
      split <;> simp
  have hmoe : (applyLineMoe l s).rpu.activations = s.rpu.activations := by
    rw [applyLineMoe_eq, motionUpdate_activations, State.lineJudged]
    simp [hfold]
  have hdoor : ∀ (t : State) car, (applyLineDoor l t car).rpu.activations = t.rpu.activations := fun t car => by
    unfold applyLineDoor
    simp only
    (repeat' split) <;> simp
  have hbeacon : ∀ t, (setBeaconTimer l t).rpu.activations = t.rpu.activations := fun _ => rfl
  simp [applyLine, hbeacon, hdoor, hmoe]

theorem noticeTables_activations (mask : Byte) : (noticeTables mask s).rpu.activations = s.rpu.activations := by
  unfold noticeTables
  split
  · exact applyLine_activations s _
  · split <;> simp

/-- A mask that takes effect counts TABLE_ACTIVATED, once (R180). -/
theorem takeEffect_count (mask : Byte) (wasPending : Bool) :
    (takeEffect mask wasPending s).rpu.slots[EventKind.tableActivated.code].count =
      satAdd s.rpu.slots[EventKind.tableActivated.code].count 1 := by
  have hlevels : (if names mask .reportLevel then applyReportLevel (copyTables mask s)
      else copyTables mask s).rpu.slots[EventKind.tableActivated.code].count =
        s.rpu.slots[EventKind.tableActivated.code].count := by
    split
    · rw [applyReportLevel_copied, (Selected.reports _).count]
      dsimp only
      rw [levelled_get]
      split <;> rfl
    · rfl
  have hactivated := congrArg Prod.fst (noticeTables_activations (raiseActivated mask wasPending
    (if names mask .reportLevel then applyReportLevel (copyTables mask s) else copyTables mask s)) mask)
  refine hactivated.trans ((raise_count _ _ _ _).trans ?_)
  rw [if_pos rfl, hlevels]

/-- A pending activation that is taken counts its outcome, once (R178–R180). -/
theorem takePending_count (mask : Byte) :
    (crossChecks (s.mga.after mask) s.adu = none →
      (takePending mask s).rpu.slots[EventKind.tableActivated.code].count =
        satAdd s.rpu.slots[EventKind.tableActivated.code].count 1) ∧
    (crossChecks (s.mga.after mask) s.adu ≠ none →
      (takePending mask s).rpu.slots[EventKind.activationFailed.code].count =
        satAdd s.rpu.slots[EventKind.activationFailed.code].count 1) := by
  constructor
  · intro hpassed
    rw [takePending_of_passed hpassed, takeEffect_count]
    rfl
  · intro hfailed
    obtain ⟨⟨n, i⟩, hr⟩ := Option.ne_none_iff_exists'.mp hfailed
    rw [takePending_of_failed hr, raiseFailed, raise_count, if_pos rfl]
    rfl

end

end Sys2Proof.Machine

end

/-! ## ACTIVATE, and the pending activation at the end of a step (R172, R177–R180) -/

section

namespace Sys2Proof.Machine

/-! ### The checks of ACTIVATE (R177) -/

theorem badMask_iff {mask : Byte} :
    badMask mask = true ↔ mask = 0 ∨ (mask &&& 0x1F ≠ 0 ∧ mask &&& 0xE0 ≠ 0) := by
  simp [badMask]

theorem idx_of_allTables {i : Nat} {t : TableId} (h : allTables[i]? = some t) : t.idx.val = i := by
  obtain ⟨hi, -⟩ := List.getElem?_eq_some_iff.mp h
  simp only [allTables, List.length_cons, List.length_nil] at hi
  interval_cases i <;> cases h <;> rfl

/-- The lowest table of a mask whose shadow is not VALID is found. -/
theorem notValid_of_lowest {m : Mga} {mask : Byte} {t : TableId}
    (h : names mask t = true ∧ (m.shadow t).state ≠ .valid)
    (hlowest : ∀ u, names mask u = true ∧ (m.shadow u).state ≠ .valid → t.idx ≤ u.idx) : m.notValid mask = some t := by
  obtain ⟨hi, ht⟩ := List.getElem?_eq_some_iff.mp (allTables_idx t)
  refine List.find?_eq_some_iff_getElem.mpr ⟨by simpa using h, t.idx.val, hi, ht, fun j hj => ?_⟩
  have hidx := idx_of_allTables (List.getElem?_eq_getElem (hj.trans hi))
  by_contra hfails
  have hle := hlowest allTables[j] (by simpa using hfails)
  exact absurd (Fin.le_def.mp hle) (by omega)

/-! ### ACTIVATE as a request (R174, R177) -/

section

variable {s : State} {arr : Arrival} {tag mask : Byte}

theorem decideRequest_activate (mask : Byte) (s : State) : decideRequest 0x03 [mask] s = decideActivate mask s := rfl

theorem exec_activate (h : ManagerArrives s arr [0x03, tag, mask]) {d : Decision}
    (hd : decideActivate mask (s.asked arr) = d) (hend : d.state.hlc = s.hlc ∨ d.state.mga.pendingMask = none) :
    exec (.activate arr tag [mask]) s = .next (d.state.replied s arr 0x03 tag d.result.code d.body) := by
  rw [exec_of_running (e := arr.elapsed) rfl h.running, rowAct_of_manager (c := .activate arr tag [mask]) rfl h,
    decideRequest_activate, hd]
  obtain hhlc | hnone := hend
  · exact congrArg _ (settle_of_same (congrArg Hlc.state hhlc))
  · exact congrArg _ (settle_of_none hnone)

/-- A mask that takes effect at once. -/
theorem activate_effect (h : ManagerArrives s arr [0x03, tag, mask]) (hnone : s.mga.pendingMask = none)
    (hd : decideActivate mask (s.asked arr) = accept [mask] (takeEffect mask false (s.asked arr))) :
    Completes (.activate arr tag [mask]) s fun t => t.mga = { s.mga with active := s.mga.after mask } ∧
      t.rif.reply = s.rif.reply ++ [mgmtReply s arr 0x03 tag 0x00 [mask]] ∧
      t.rpu.slots[EventKind.tableActivated.code].count =
        satAdd s.rpu.slots[EventKind.tableActivated.code].count 1 := by
  have hmga : (takeEffect mask false (s.asked arr)).mga = { s.mga with active := s.mga.after mask } :=
    takeEffect_mga mask false (s.asked arr)
  have hreply := (Placed.start.takeEffect (u := s.asked arr) mask false).sameOwn.reply
  have hcount := takeEffect_count (s.asked arr) mask false
  refine ⟨_, exec_activate h hd (.inr ?_), hmga, ?_, hcount⟩
  · simp [accept, hmga, hnone]
  · exact congrArg (· ++ [mgmtReply s arr 0x03 tag 0x00 [mask]]) hreply

/-- A mask whose cross-checks fail (R179). -/
theorem activate_failed (h : ManagerArrives s arr [0x03, tag, mask]) {n i : Nat}
    (hd : decideActivate mask (s.asked arr) = { result := .checkFailed, body := [byteOf n] ++ be16 i,
                                                state := raiseFailed mask n i (s.asked arr) }) :
    Completes (.activate arr tag [mask]) s fun t => t.mga = s.mga ∧ t.hlc = s.hlc ∧ t.brs = s.brs ∧ t.moe = s.moe ∧
      t.rif.reply = s.rif.reply ++ [mgmtReply s arr 0x03 tag 0x0C (byteOf n :: bytes16 (BitVec.ofNat 16 i))] ∧
      t.rpu.slots[EventKind.activationFailed.code].count =
        satAdd s.rpu.slots[EventKind.activationFailed.code].count 1 := by
  refine ⟨_, exec_activate h hd (.inl (by simp)), by simp, by simp, by simp, by simp, ?_, ?_⟩
  · simp [raiseFailed, MgmtResult.code, be16]
  · rw [(replied_frame _ _ _ _ _ _ _).2.2.2.2.2.2.2.2.1, raiseFailed, raise_count, if_pos rfl]
    rfl

end

/-! ### The pending activation is taken (R178) -/

/-- The cross-checks read the records of the Admission Unit alone. -/
theorem crossChecks_of_records {x y : Adu} (h : x.records = y.records) (a : ActiveTables) :
    crossChecks a x = crossChecks a y := by
  have hheld : ∀ car, x.held car = y.held car := fun car => (congrArg (Adu.held · car) h :)
  simp only [crossChecks, hheld]

section

variable {before after : State} {mask : Byte}

/-- What the end of a step leaves of a pending activation that it takes. -/
theorem settle_taken (hchanged : after.hlc.state ≠ before.hlc.state) (hhalted : after.Halted)
    (hmask : after.mga.pendingMask = some mask) :
    (settle before after).mga.pendingMask = none ∧ (settle before after).mga.shadows = after.mga.shadows ∧
    (crossChecks (after.mga.after mask) after.adu = none →
      (settle before after).mga.active = after.mga.after mask) ∧
    (crossChecks (after.mga.after mask) after.adu ≠ none → (settle before after).mga.active = after.mga.active ∧
      (settle before after).hlc = after.hlc ∧ (settle before after).brs = after.brs ∧
      (settle before after).moe = after.moe) := by
  rw [settle_of_pending hchanged hhalted hmask]
  by_cases hchecks : crossChecks (after.mga.after mask) after.adu = none
  · rw [takePending_mga_of_passed hchecks]
    exact ⟨rfl, rfl, fun _ => rfl, fun hfailed => absurd hchecks hfailed⟩
  · obtain ⟨⟨n, i⟩, hr⟩ := Option.ne_none_iff_exists'.mp hchecks
    rw [takePending_mga_of_failed hchecks, takePending_of_failed hr]
    exact ⟨rfl, rfl, fun hpassed => absurd hpassed hchecks, fun _ => ⟨rfl, by simp, by simp, by simp⟩⟩

end

section

variable {c : Instr} {e : Time} {s t u : State} {mask : Byte}

/-- What is in force and counted where the end of a step has taken a pending activation. -/
theorem counted_of_taken (hmga : u.mga = s.mga) (hcounts : u.rpu.activations = s.rpu.activations)
    (ht : t = takePending mask u) :
    (crossChecks (s.mga.after mask) t.adu = none →
      t.mga = { s.mga with pendingMask := none, active := s.mga.after mask } ∧
      t.rpu.slots[EventKind.tableActivated.code].count =
        satAdd s.rpu.slots[EventKind.tableActivated.code].count 1) ∧
    (crossChecks (s.mga.after mask) t.adu ≠ none → t.mga = { s.mga with pendingMask := none } ∧
      t.rpu.slots[EventKind.activationFailed.code].count =
        satAdd s.rpu.slots[EventKind.activationFailed.code].count 1) := by
  subst ht
  obtain ⟨hactivated, hfailed⟩ := takePending_count u mask
  have hcountActivated := congrArg Prod.fst hcounts
  have hcountFailed := congrArg Prod.snd hcounts
  simp only [Rpu.activations] at hcountActivated hcountFailed
  rw [crossChecks_of_records (takePending_aside mask u).2, ← hmga, ← hcountActivated, ← hcountFailed]
  exact ⟨fun h => ⟨takePending_mga_of_passed h, hactivated h⟩, fun h => ⟨takePending_mga_of_failed h, hfailed h⟩⟩

/-- A timed command that changes the haul state out of PARKED and TRIPPED leaves tables and counts to the end of its
step. -/
theorem rowAct_keeps_activations (hmoving : ¬ s.Halted) (hchanged : (rowAct c s).hlc.state ≠ s.hlc.state) :
    (rowAct c s).mga = s.mga ∧ (rowAct c s).rpu.activations = s.rpu.activations := by
  have hhlc : (rowAct c s).hlc ≠ s.hlc := fun h => hchanged (congrArg Hlc.state h)
  exact ⟨((mgaAct_rowAct c s).mga_or_hlc hmoving).resolve_right hhlc,
    (rowAct_activations_or_hlc s hmoving c).resolve_right hhlc⟩

/-- A timed command that changes the haul state ends with the pending activation taken, or with the tables as they
were. -/
theorem rowEnd_of_changed (he : rowElapsed c = some e) (ht : exec c s = .next t) (hmask : s.mga.pendingMask = some mask)
    (hmoving : ¬ s.Halted) (hchanged : t.hlc.state ≠ s.hlc.state) :
    (t.Halted ∧ ∃ u, u.mga = s.mga ∧ u.rpu.activations = s.rpu.activations ∧ t = takePending mask u) ∨
    (¬ t.Halted ∧ t.mga = s.mga) := by
  cases hrun : s.inReset with
  | true =>
    rw [exec_of_rowElapsed he, perform_held hrun] at ht
    cases ht
    exact absurd rfl hchanged
  | false =>
    rw [exec_of_running he hrun] at ht
    cases ht
    have hkept : (rowAct c (begin e s)).hlc.state ≠ s.hlc.state →
        (rowAct c (begin e s)).mga = s.mga ∧ (rowAct c (begin e s)).rpu.activations = s.rpu.activations :=
      rowAct_keeps_activations (s := begin e s) hmoving
    generalize rowAct c (begin e s) = u at hkept hchanged
    by_cases htaken : u.hlc.state ≠ s.hlc.state ∧ u.Halted
    · obtain ⟨hu, hhalted⟩ := htaken
      obtain ⟨hmga, hcounts⟩ := hkept hu
      have hend : settle (begin e s) u = takePending mask u := settle_of_pending hu hhalted (hmga ▸ hmask)
      exact .inl ⟨hend ▸ hhalted.takePending mask, u, hmga, hcounts, hend⟩
    · have hend : settle (begin e s) u = u := if_neg htaken
      rw [hend] at hchanged ⊢
      exact .inr ⟨fun hhalted => htaken ⟨hchanged, hhalted⟩, (hkept hchanged).1⟩

end

/-! ### The obligation -/

/-- A mask's three LINE sections are read as one record (R172). -/
theorem after_line_of_sections {m : Mga} {mask : Byte} (hnamed : names mask .line = true) {x y z : List Byte}
    (h : (m.shadow .line).entries = [x, y, z]) : (m.after mask).line = some (lineOfSections x y z) := by
  rw [after_line_eq, if_pos hnamed, h]
  rfl

theorem haulMask_eq_false_iff {mask : Byte} : haulMask mask = false ↔ mask &&& 0xE0 ≠ 0 := by
  simp [haulMask]

/-- Settles O54: the fields that a mask puts in force by `after_field`; ACTIVATE case by case; the end of a step by
`settle_taken`, and that of a timed command by `rowEnd_of_changed`, for no act changes both the haul and the tables. -/
theorem activationTakesEffectAtRest : Obligations.ActivationTakesEffectAtRest := by
  unfold Obligations.ActivationTakesEffectAtRest
  refine ⟨fun m mask => ?_, fun s arr tag mask h => ?_, fun c e s t mask he ht hmask hparked htripped => ?_,
    fun c e s he hrun => ?_, fun _ _ => settle_of_none, fun before after mask hchanged hmask => ?_⟩
  · exact ⟨after_node m mask, after_stop m mask, after_profile m mask,
      fun hnot => (after_line_eq m mask).trans (if_neg (Bool.eq_false_iff.mp hnot)),
      fun hnamed _ _ _ => after_line_of_sections hnamed,
      after_marker m mask, after_product m mask, after_hotlist m mask, after_reportLevel m mask⟩
  · have hrefused : ∀ r, decideActivate mask (s.asked arr) = refuse r (s.asked arr) →
        exec (.activate arr tag [mask]) s =
          .next { begin arr.elapsed s with rif := s.answered (mgmtReply s arr 0x03 tag r.code []) } :=
      fun r hd => exec_of_refusal (c := .activate arr tag [mask]) rfl h hd
    have hgood : ¬ (mask = 0 ∨ (mask &&& 0x1F ≠ 0 ∧ mask &&& 0xE0 ≠ 0)) → badMask mask = false :=
      fun hbad => Bool.eq_false_iff.mpr (mt badMask_iff.mp hbad)
    refine ⟨fun hbad => hrefused .badMask (decideActivate_of_bad (badMask_iff.mpr hbad)),
      fun hbad hwaiting => hrefused .alreadyPending (decideActivate_of_waiting (hgood hbad) (by simpa using hwaiting)),
      fun hbad hnone t ht hlowest => ?_, fun hbad hnone hvalid => ?_⟩
    · have hd := decideActivate_of_invalid (s := s.asked arr) (hgood hbad) (by simpa using hnone)
        (notValid_of_lowest (by simpa using ht) (by simpa using hlowest))
      rw [exec_activate h hd (.inl (by simp))]
      rfl
    · have hnotValid : (s.asked arr).mga.notValid mask = none := notValid_eq_none_iff.mpr fun t ht => by
        by_contra hfails
        exact hvalid t ⟨ht, by simpa using hfails⟩
      have hcases := decideActivate_of_valid (hgood hbad) (by simpa using hnone) hnotValid
      refine ⟨fun hreport => ?_, fun hhaul hmoving => ?_, fun hhaul hrest hpassed => ?_,
        fun hhaul hrest n i hfailed => ?_⟩
      · exact activate_effect h hnone (hcases.trans (if_pos (haulMask_eq_false_iff.mpr hreport)))
      all_goals have hhaulCases := hcases.trans (if_neg (mt haulMask_eq_false_iff.mp (not_not.mpr hhaul)))
      · have hd := hhaulCases.trans (if_neg (by simpa using hmoving))
        rw [exec_activate h hd (.inl (by simp))]
        rfl
      · have hd := hhaulCases.trans (if_pos (by simpa using hrest))
        exact activate_effect h hnone (hd.trans (activateNow_of_passed (by simpa using hpassed)))
      · have hd := hhaulCases.trans (if_pos (by simpa using hrest))
        exact activate_failed h (hd.trans (activateNow_of_failed (by simpa using hfailed)))
  · have hmoving : ¬ s.Halted := fun h => h.elim hparked htripped
    constructor
    · intro hhalted
      have hchanged : t.hlc.state ≠ s.hlc.state := fun h => hmoving (State.Halted.congr hhalted h.symm)
      obtain ⟨-, u, hmga, hcounts, hend⟩ | ⟨hnot, -⟩ := rowEnd_of_changed he ht hmask hmoving hchanged
      · exact counted_of_taken hmga hcounts hend
      · exact absurd hhalted hnot
    · intro hnot hchanged
      obtain ⟨hhalted, -⟩ | ⟨-, hmga⟩ := rowEnd_of_changed he ht hmask hmoving hchanged
      · exact absurd hhalted hnot
      · exact hmga
  · refine ⟨_, exec_of_running he hrun, fun hchanged hparked htripped => ?_⟩
    have hmoving : ¬ s.Halted := fun h => h.elim hparked htripped
    exact (rowAct_keeps_activations (s := begin e s) hmoving hchanged).1
  · exact ⟨fun hhalted => settle_taken hchanged hhalted hmask, fun hnot => settle_of_staying (.inr (not_or.mp hnot))⟩

end Sys2Proof.Machine

end
